-- ==== Sys2Proof/Word.lean ====
section
/-!
DEFINITION. The word types of the model: a byte, a string of bytes, and the words the register maps
of the spec are drawn in (R9, R10).
-/
namespace Sys2Proof

/-- One byte, the smallest unit any map of the spec addresses. -/
abbrev Byte := BitVec 8

/-- A string of bytes, byte 0 first. -/
abbrev Bytes := List Byte

/-- A 32-bit word of a register map (R9). -/
abbrev W32 := BitVec 32

/-- A 64-bit word of a register map (R9). -/
abbrev W64 := BitVec 64

end Sys2Proof
end

