-- ==== Sys2Proof/Machine/Types.lean ====
section
/-!
DEFINITION. Small types the operations and the state share: keys as engines hold them, what an
operation gives its Link, and the generator's working state.
-/
namespace Sys2Proof.Machine

/-- A key as an engine holds it: its attribute word (R285) and its bytes. -/
structure KeyVal where
  attr : Nat
  bytes : Bytes
  deriving DecidableEq, Repr

/-- What an operation gives its Link: its output, a verify result with its mismatch status, or a
failure status (R60, R61). -/
inductive OpResult
  | done (out : Bytes)
  | verified (ok : Bool) (mismatch : Nat) (out : Bytes)
  | failed (status : Nat)
  deriving DecidableEq, Repr

/-- The key and value of CTR_DRBG (R329). -/
structure Drbg where
  key : Bytes
  v : Bytes
  deriving DecidableEq, Repr

/-- A sparse table: pairs of a key and a value, keys strictly rising, no value the default one. -/
abbrev SMap (α : Type) := List (Nat × α)

end Sys2Proof.Machine
end

