-- ==== Sys2Proof/Syntax.lean ====
section
/-!
DEFINITION. The commands of the block: one constructor per row of the table of operations and events, with
the operands a sender gives or the physical facts the event reports. Nothing here says what a command does.
-/
namespace Sys2Proof

/-- A write by the host to BAR0 of a function: offset, IDE stream it came in on, and data (R233, R253). -/
structure HostWrite where
  fn : Nat
  offset : Nat
  stream : Option Nat
  data : Bytes
  deriving DecidableEq, Repr

/-- The answer to a read of host memory: data, or the error that ended it (R252). -/
inductive ReadAnswer
  | data (bytes : Bytes)
  | unsupported
  | completerAbort
  | poison
  deriving DecidableEq, Repr

/-- The paths to the object dictionary (R516): the mailbox of a function, or the custody session. -/
inductive Path
  | mailbox (fn : Nat)
  | custody
  deriving DecidableEq, Repr

/-- How the write of an entry with a row of its own comes: as the message in a mailbox slot, as a write
that a path has brought to the dictionary, or through the debug port (R447). -/
inductive Src
  | message (fn slot : Nat)
  | write (path : Path)
  | debugPort
  deriving DecidableEq, Repr

/-- A frame as received: source and destination MAC address, the Llyno part, and the EtherType (R486, R487). -/
structure Frame where
  source : Bytes
  dest : Bytes
  body : Bytes
  etherType : Nat := 0x88B5
  deriving DecidableEq, Repr

/-- What a host reset comes from (R254). -/
inductive HostResetCause
  | perst
  | hotReset
  | linkDown
  | functionLevel
  | powerState
  deriving DecidableEq, Repr

/-- Where an uncorrectable error was found (R209, R374, R461). -/
inductive FaultSite
  | chainMemory (addr : Nat)
  | ringContext (addr : Nat)
  | keySlot (slot : Nat)
  | pke (pair : Nat)
  | lattice (pair : Nat)
  | scratchData (core : Nat)
  | scratchFirmware (core : Nat)
  | lane (index : Nat)
  | delayList
  deriving DecidableEq, Repr

/-- What the hardware finds in its start-up work after PLL lock (R376, R377, R437, R446, R457): failures
beyond the spares as memory and place, columns repaired, monitors whose self-test fails, whether the two
life-cycle decodes agree, whether the PUF response could be corrected, units whose known-answer test fails. -/
structure StartReport where
  beyond : List (Nat × Nat)
  spares : Nat
  monitors : List Nat
  decodesAgree : Bool
  pufCorrects : Bool
  badUnits : List (Nat × Nat)
  deriving DecidableEq, Repr

/-- What a device-specific debug instruction does (R452, R453). -/
inductive DebugOp
  | halt (core : Nat)
  | resume (core : Nat)
  | read (addr len : Nat)
  | store (addr : Nat) (data : Bytes)
  | program (bank : Nat) (data : Bytes)
  deriving DecidableEq, Repr

/-- What a fetched instruction is (R366): an ordinary one that goes on behind itself, a branch that resolves, taken to a target or not, or
one that the spec gives a row and no encoding (a call, return, load, store or BRK), which that row retires. -/
inductive Fetched
  | ordinary
  | branch (target : Option (BitVec 64))
  | ownRow
  deriving DecidableEq, Repr

/-- The commands, in the order of the table. -/
inductive Instr
  /-- R240. An 8 B doorbell write to a queue pair is checked and its SQ_TAIL and CQ_HEAD are taken, or it is discarded. -/
  | doorbell (w : HostWrite)
  /-- R234. A read or write to an unimplemented BAR offset returns zero or is discarded, and is counted. -/
  | barUnimplementedAccess (read : Bool) (len : Nat) (w : HostWrite)
  /-- R252. A poisoned write received is discarded and reported through AER. -/
  | poisonedWrite (w : HostWrite)
  /-- R242. Submission entries fetched from a ring land in the host interface. -/
  | submissionFetchCompletion (ident : Nat) (answer : ReadAnswer)
  /-- R242. A fetch that times out is handled as a PCIe fetch error for its ring, descriptor or input. -/
  | fetchTimeout (ident : Nat)
  /-- R46. A Chain descriptor fetched in one read lands and its entry becomes offerable to admission. -/
  | descriptorFetchCompletion (ident : Nat) (answer : ReadAnswer)
  /-- R52. The input block lands in the input region and the Links waiting on it are re-evaluated. -/
  | inputFetchCompletion (ident : Nat) (answer : ReadAnswer)
  /-- R55. An admission port takes a Chain header and resolves, checks, tags and reserves it within its 16 ECLK cycle: port 0, port 1, or
  2 for both in one cycle. -/
  | chainAdmission (ports : Nat)
  /-- R219. A port that withdrew its request returns the buffers of a wasted grant two ECLK later. -/
  | grantReturn (port : Nat)
  /-- R182. The dispatch ports rank candidates and issue up to four Links whose cost the bucket covers. -/
  | linkIssue
  /-- R63. Control opcode 0x000 does nothing in 1 ECLK. -/
  | nop (chain link : Nat)
  /-- R63. Control opcode 0x001 copies IN0 to the start of OUT. -/
  | move (chain link : Nat)
  /-- R63. Control opcode 0x002 writes its inputs back to back into OUT. -/
  | concat (chain link : Nat)
  /-- R63. Control opcode 0x003 compares two inputs in constant time and gives a verify result. -/
  | compare (chain link : Nat)
  /-- R63. A DELAY Link falls due on the delay lists and becomes DONE. -/
  | delay (chain link : Nat)
  /-- R314. Opcode 0x101 imports an ANSI X9.143 key block into an empty working slot. -/
  | x9143Import (chain link : Nat)
  /-- R314. Opcode 0x102 exports a working slot as a version D X9.143 key block. -/
  | x9143Export (chain link : Nat)
  /-- R314. Opcode 0x103 opens a domain key block into an empty working slot. -/
  | domainImport (chain link : Nat)
  /-- R314. Opcode 0x104 seals a working slot as a domain key block. -/
  | domainExport (chain link : Nat)
  /-- R314. Opcode 0x105 unwraps a domain key block into a protected key buffer. -/
  | unwrapToKeyBuffer (chain link : Nat)
  /-- R315. Opcode 0x106 generates a key from a 40 B draw into an empty working slot. -/
  | generate (chain link : Nat)
  /-- R314. Opcode 0x107 zeroises a working slot. -/
  | delete (chain link : Nat)
  /-- R314. Opcode 0x108 converts an X9.143 block into a domain key block. -/
  | x9143ToDomainBlock (chain link : Nat)
  /-- R314. Opcode 0x110 derives a protected key from an agreement secret by the SP 800-56C two-step KDF. -/
  | deriveFromAgreementSecret (chain link : Nat)
  /-- R104. Opcode 0x1A0 derives a DUKPT-AES working key from a key serial number. -/
  | dukptAesDerivation (chain link : Nat)
  /-- R113. Opcode 0x201 encrypts a payload into a ciphertext record with a device nonce or IV. -/
  | encrypt (chain link : Nat)
  /-- R122. Opcode 0x202 decrypts a ciphertext record, checking the tag first in GCM or CCM. -/
  | decrypt (chain link : Nat)
  /-- R111. Opcode 0x203 decrypts under KEY0 and encrypts under KEY1 inside one lane context. -/
  | reEncrypt (chain link : Nat)
  /-- R125. Opcode 0x301 computes a SHA-2, SHA-3 or SHAKE digest. -/
  | hash (chain link : Nat)
  /-- R125. Opcode 0x302 computes an HMAC. -/
  | hmacGenerate (chain link : Nat)
  /-- R125. Opcode 0x303 verifies an HMAC in constant time. -/
  | hmacVerify (chain link : Nat)
  /-- R101. Opcode 0x310 computes an ISO 9797-1 or CMAC payment MAC. -/
  | macGenerate (chain link : Nat)
  /-- R101. Opcode 0x311 verifies a payment MAC in constant time. -/
  | macVerify (chain link : Nat)
  /-- R87. Opcode 0x401 decrypts and decodes a PIN block into a protected PIN record. -/
  | pinBlockDecode (chain link : Nat)
  /-- R88. Opcode 0x402 encodes a PIN record in a target format, checking policy and PAN binding. -/
  | pinBlockEncode (chain link : Nat)
  /-- R92. Opcode 0x410 generates an IBM 3624 PIN offset. -/
  | offsetGenerate (chain link : Nat)
  /-- R92. Opcode 0x411 verifies a PIN against an IBM 3624 offset. -/
  | offsetVerify (chain link : Nat)
  /-- R93. Opcode 0x412 generates a PIN verification value. -/
  | verificationValueGenerate (chain link : Nat)
  /-- R93. Opcode 0x413 verifies a PIN verification value. -/
  | verificationValueVerify (chain link : Nat)
  /-- R99. Opcode 0x501 derives an EMV card master key and session key. -/
  | cardAndSessionKeyDerivation (chain link : Nat)
  /-- R100. Opcode 0x502 verifies an ARQC over card transaction data. -/
  | arqcVerify (chain link : Nat)
  /-- R100. Opcode 0x503 computes an ARPC by method 1 or 2. -/
  | arpcGenerate (chain link : Nat)
  /-- R100. Opcode 0x504 computes an issuer script MAC. -/
  | scriptMacGenerate (chain link : Nat)
  /-- R97. Opcode 0x510 computes a card verification code. -/
  | cardCodeGenerate (chain link : Nat)
  /-- R97. Opcode 0x511 verifies a card verification code. -/
  | cardCodeVerify (chain link : Nat)
  /-- R107. Opcode 0x601 tokenises a string with FF1. -/
  | ff1Encrypt (chain link : Nat)
  /-- R107. Opcode 0x602 detokenises a string with FF1. -/
  | ff1Decrypt (chain link : Nat)
  /-- R152. Opcode 0x701 performs a blinded RSA private operation in CRT form on a PKE pair. -/
  | rsaPrivateCrt (chain link : Nat) (agree : Bool)
  /-- R152. Opcode 0x702 performs a blinded RSA private operation without CRT. -/
  | rsaPrivateNonCrt (chain link : Nat) (agree : Bool)
  /-- R152. Opcode 0x703 performs an RSA public operation after operand checks. -/
  | rsaPublic (chain link : Nat) (agree : Bool)
  /-- R153. Opcode 0x710 produces an ECDSA signature. -/
  | ecdsaSign (chain link : Nat) (agree : Bool)
  /-- R153. Opcode 0x711 verifies an ECDSA signature. -/
  | ecdsaVerify (chain link : Nat) (agree : Bool)
  /-- R153. Opcode 0x712 computes a protected ECDH shared X coordinate. -/
  | ecdh (chain link : Nat) (agree : Bool)
  /-- R157. Opcode 0x713 generates a NIST-curve key pair as a domain key block and public key. -/
  | ecKeyPairGenerate (chain link : Nat) (agree : Bool)
  /-- R154. Opcode 0x720 signs by pure Ed25519. -/
  | ed25519Sign (chain link : Nat) (agree : Bool)
  /-- R154. Opcode 0x721 verifies an Ed25519 signature cofactored. -/
  | ed25519Verify (chain link : Nat) (agree : Bool)
  /-- R154. Opcode 0x722 computes a protected X25519 shared secret. -/
  | x25519 (chain link : Nat) (agree : Bool)
  /-- R157. Opcode 0x723 generates an Ed25519 or X25519 key pair. -/
  | curve25519KeyPairGenerate (chain link : Nat) (agree : Bool)
  /-- R155. Opcode 0x7F0 computes a modular product. -/
  | modmul (chain link : Nat) (agree : Bool)
  /-- R155. Opcode 0x7F1 computes a modular exponentiation. -/
  | modexp (chain link : Nat) (agree : Bool)
  /-- R155. Opcode 0x7F2 computes a constant-time modular inverse. -/
  | modinv (chain link : Nat) (agree : Bool)
  /-- R158. Opcode 0x801 generates an ML-KEM key pair on a lattice pair. -/
  | mlKemKeyPairGenerate (chain link : Nat) (agree : Bool)
  /-- R162. Opcode 0x802 encapsulates a shared secret after the encapsulation-key check. -/
  | mlKemEncapsulate (chain link : Nat) (agree : Bool)
  /-- R162. Opcode 0x803 decapsulates with implicit rejection. -/
  | mlKemDecapsulate (chain link : Nat) (agree : Bool)
  /-- R158. Opcode 0x811 generates an ML-DSA key pair. -/
  | mlDsaKeyPairGenerate (chain link : Nat) (agree : Bool)
  /-- R161. Opcode 0x812 signs by hedged pure ML-DSA. -/
  | mlDsaSign (chain link : Nat) (agree : Bool)
  /-- R161. Opcode 0x813 verifies an ML-DSA signature. -/
  | mlDsaVerify (chain link : Nat) (agree : Bool)
  /-- R341. Opcode 0x901 writes LENGTH bytes of its DRBG draw to OUT. -/
  | randomBytes (chain link : Nat)
  /-- R130. Opcode 0xA01 pads data by ISO 9797-1 or PKCS #7. -/
  | pad (chain link : Nat)
  /-- R130. Opcode 0xA02 removes padding in constant time. -/
  | unpad (chain link : Nat)
  /-- R131. Opcode 0xA10 builds an EMSA-PKCS1-v1_5 representative. -/
  | pkcs1V15SignatureEncode (chain link : Nat)
  /-- R132. Opcode 0xA11 builds an EMSA-PSS representative with a drawn salt. -/
  | pssSignatureEncode (chain link : Nat)
  /-- R131. Opcode 0xA12 checks a representative against the PKCS #1 v1.5 encoding. -/
  | pkcs1V15SignatureCheck (chain link : Nat)
  /-- R132. Opcode 0xA13 applies the EMSA-PSS verification steps. -/
  | pssSignatureCheck (chain link : Nat)
  /-- R163. A PKE or lattice Link reaches a yield point where digests are compared and it may stop or be preempted. -/
  | yieldPoint (lattice : Bool) (pair : Nat) (agree : Bool)
  /-- R73. The write-back items of a finished Chain are written to the result address on C0. -/
  | chainWriteBack (chain : Nat)
  /-- R248. The 32 B completion entry is written at CQ_TAIL and the Chain's reservations are released. -/
  | completionWrite (chain : Option Nat)
  /-- R213. The link partner returns posted credits, letting waiting C0 and other writes proceed. -/
  | postedCreditUpdate (headers data : Nat)
  /-- R250. MOD_TIME after the first pending completion the MSI-X message is sent. -/
  | moderationTimerExpiry (qp : Nat)
  /-- R250. Unmasking a vector with its pending bit set sends the message. The operands are the vector's entry of the MSI-X table
  as the host leaves it when it clears the mask: message address and data (R233; assumption 10). -/
  | msixUnmask (fn vector : Nat) (address : BitVec 64) (data : BitVec 32)
  /-- R197. At each 1 µs tick edge the bucket refills, Links age and due delay-list entries are processed. -/
  | tick
  /-- R65. A Chain reaching its deadline with Links not final is completed with 0x0601. -/
  | chainExpiry (chain : Nat)
  /-- R192. Every 1,000th tick the draw correction k is recomputed from measured power. -/
  | drawCorrectionUpdate (measured : Option Nat)
  /-- R190. Every 100 µs the sensors are sampled and the thermal factor recomputed. -/
  | thermalSample (temps : List Int)
  /-- R191. After 100 thermal samples the warm-up factor returns to 1. -/
  | warmupEnd
  /-- R193. After 1,000 consecutive held-back ticks THROTTLED is set. -/
  | throttledSet
  /-- R38. After 1,000 consecutive ticks with nothing held back THROTTLED clears. -/
  | throttledClear
  /-- R188. A write of OD 0x2000:02 sets the power limit from the next tick edge and logs it. -/
  | powerLimitWrite (src : Src) (value : Bytes)
  /-- R68. When no Chain of the old epoch remains, EPOCH-SWITCH clears and staged slots settle or zeroise. -/
  | epochDrained
  /-- R67. A write of 1 to OD 0x2100:05 commits the shadow set as a new epoch. -/
  | commit (src : Src)
  /-- R70. Template action 1 starts staging a template load from host memory. -/
  | templateStageLoad (src : Src)
  /-- R70. Template action 2 stages the clear of a template slot. -/
  | templateStageClear (src : Src)
  /-- R70. A fetched template body is checked and staged or refused. -/
  | templateBodyFetch (ident : Nat) (answer : ReadAnswer)
  /-- R38. A write of OD 0x1200:04 grants or withdraws permission for SERVICE. -/
  | serviceEnableWrite (src : Src) (value : Bytes)
  /-- R583. After the depth-1 idle time the part gates its fast clocks. -/
  | dozeDepth1Entry
  /-- R584. After the depth-2 idle time the part stops PLLs, tick and sensors and powers down empty memories. -/
  | dozeDepth2Entry
  /-- R585. A wake event restarts the clocks and clears DOZE without losing the event. -/
  | dozeWake
  /-- R223. A requester's wait counter passes its threshold and its starvation flag is set. -/
  | starvationDetected (arbiter requester bank wait : Nat)
  /-- R223. Writing 1 to a starvation flag clears it. -/
  | starvationFlagClear (src : Src) (arbiter : Nat) (value : Bytes)
  /-- R226. Revocation completes once no engine holds an ISSUED Link of the owner. -/
  | revocationComplete (owner : Nat)
  /-- R228. An expired working slot lock lease releases the lock and is logged. -/
  | slotLockLeaseExpiry (slot : Nat)
  /-- R238. Queue-pair action 1 writes a DISABLED context after checks. -/
  | qpSetUp (src : Src)
  /-- R237. Queue-pair action 2 moves a valid queue pair to ACTIVE. -/
  | qpEnable (src : Src)
  /-- R237. Queue-pair action 3 moves a queue pair to DRAINING or DISABLED. -/
  | qpDisable (src : Src)
  /-- R260. Queue-pair action 4 returns a DISABLED context to its reset value. -/
  | qpRelease (src : Src)
  /-- R253. A write of OD 0x4030:02 sets the IDE policy and errors ACTIVE queue pairs outside a Secure stream. -/
  | ideRequiredWrite (src : Src) (value : Bytes)
  /-- R253. An IDE stream leaving Secure moves covered ACTIVE queue pairs to ERROR. -/
  | ideStreamNotSecure (stream : Nat)
  /-- R252. An IDE check failure is reported and handled. -/
  | ideCheckFailure (stream : Nat) (ident : Option Nat)
  /-- R260. Writing 1 to a bit of OD 0x4000:04 clears that notification cause. -/
  | managerNotificationClear (src : Src) (value : Bytes)
  /-- R254. PERST_N, hot reset, DL_Down or PF0 FLR revokes every Chain and dissolves instances. -/
  | hostReset (cause : HostResetCause)
  /-- R259. PERST_N deasserting lets link training begin once internal work is complete. -/
  | perstDeassert
  /-- R256. An FLR or D3hot to D0 of a VF revokes its Chains and disables its queue pairs. -/
  | functionReset (vf : Nat)
  /-- R38. The manager sets VF Enable, allowing instances and SHARED. -/
  | vfEnableSet (numVfs : Nat)
  /-- R269. Clearing VF Enable dissolves every instance. -/
  | vfEnableClear
  /-- R265. Instance action 1 creates an instance with its pools and rights. -/
  | instanceCreate (src : Src)
  /-- R266. Instance action 2 changes counts, quota, share and staged rights. -/
  | instanceResize (src : Src)
  /-- R268. Instance action 3 revokes, clears and zeroises an instance. -/
  | instanceDestroy (src : Src)
  /-- R268. Once slots are zeroised and persistent entries deleted the instance becomes FREE. -/
  | instanceDestroyComplete (vf : Nat)
  /-- R270. Instance action 4 zeroises a FREE instance's slots and persistent entries. -/
  | instancePurge (src : Src)
  /-- R274. A W0 write with STATE 001 completes a mailbox message, which is checked or rejected. -/
  | mailboxSubmit (w : HostWrite)
  /-- R274. A W0 write with STATE 000 returns a DONE or REJECTED slot to FREE. -/
  | mailboxSlotFree (w : HostWrite)
  /-- R272. Writing 1 to a NOTIFY_CAUSE bit clears it. -/
  | notifyCauseClear (w : HostWrite)
  /-- R276. Command 0x01 returns the value of an object dictionary entry. -/
  | odRead (fn slot : Nat)
  /-- R276. Command 0x02 writes an entry that has no row of its own. -/
  | odWrite (fn slot : Nat)
  /-- R276. Mailbox command 0x03 enables a queue pair of the function. -/
  | queuePairEnable (fn slot : Nat)
  /-- R276. Mailbox command 0x04 disables a queue pair of the function. -/
  | queuePairDisable (fn slot : Nat)
  /-- R276. Mailbox command 0x05 returns a queue pair's context. -/
  | queuePairStatus (fn slot : Nat)
  /-- R320. Working slot action 1 deletes an owned slot. -/
  | slotDeleteNow (src : Src)
  /-- R300. Working slot action 2 marks a settled slot as leaving. -/
  | slotStageDelete (src : Src)
  /-- R291. Working slot action 3 zeroises a BAD slot. -/
  | slotZeroiseBad (src : Src)
  /-- R317. OD 0x3000:0B value 1 clears every working slot. -/
  | zeroiseWorkingSlots (src : Src)
  /-- R317. OD 0x3000:0B value 2 clears working slots, vault and persistent store. -/
  | zeroiseAllKeys (src : Src)
  /-- R296. A use-counter floor is written to MRAM ahead of use. -/
  | floorWrite (slot : Nat)
  /-- R303. Each Device Time second every vault slot is re-masked in turn. -/
  | vaultRemaskCycle
  /-- R304. After a tamper and 1 ms without a live source the device root and attestation key are derived again. -/
  | rootReconstruct
  /-- R324. A 1,024-sample window of a noise source is tested and released or fails. -/
  | healthTestWindow (source : Nat)
  /-- R330. Every 1,024 µs a conditioned seed reseeds or instantiates the DRBG. -/
  | reseed
  /-- R331. The DRBG makes a 256 B generate call to refill the system reserve or random buffer. -/
  | generateCall (reserve : Bool)
  /-- R338. A write of OD 0x3100:0B starts or ends raw capture of one source. -/
  | captureSourceWrite (src : Src) (value : Bytes)
  /-- R202. A core blocks waiting for a firmware Link. -/
  | waitw (core rd rs1 rs2 : Nat)
  /-- R203. The dispatcher hands a firmware Link to a core in WAITW. -/
  | firmwareLinkHandover
  /-- R204. A core blocks waiting for covered events. -/
  | waite (core rd rs1 rs2 : Nat)
  /-- R205. A pending event is delivered to a core blocked in WAITE. -/
  | eventDelivery (core : Nat)
  /-- R206. A WAITW or WAITE timeout ends the wait with TIMEOUT. -/
  | waitTimeout (core : Nat)
  /-- R208. After 100 µs of every core waiting on another, the lowest core gets DEADLOCK. -/
  | allWaitingDetectorFire
  /-- R356. A core ends its firmware Link with a result word. -/
  | lend (core rs1 : Nat)
  /-- R358. A core asks the dispatcher to run an engine Link on behalf of its firmware Link. -/
  | engreq (core rd rs1 : Nat)
  /-- R360. A core posts the SIGNAL event to another core. -/
  | signal (core rs1 : Nat)
  /-- R362. A core reads 8 B from the system reserve. -/
  | rndrd (core rd : Nat)
  /-- R369. A core reads a CSR. -/
  | csrr (core rd csr : Nat)
  /-- R369. A core writes a writable CSR. -/
  | csrw (core rs1 csr : Nat)
  /-- R361. A firmware timer falls due and posts TIMER. -/
  | firmwareTimerDue (core timer : Nat)
  /-- R345. Return from a trap restores CWP and PC. -/
  | tret (core : Nat)
  /-- R346. The overflow handler stores the oldest window to the spill stack. -/
  | spill (core : Nat)
  /-- R347. The underflow handler loads a window from the spill stack. -/
  | fill (core : Nat)
  /-- R344. A call moves to the next window of the ring or traps on overflow. -/
  | call (core : Nat) (target : BitVec 64)
  /-- R344. A return moves to the previous window or traps on underflow. -/
  | ret (core : Nat) (target : BitVec 64)
  /-- R349. A core load through its address map, Link window or peer window. -/
  | coreLoad (core rd : Nat) (addr : BitVec 64) (width : Nat)
  /-- R349. A core store through its address map, Link window or peer window. -/
  | coreStore (core : Nat) (addr : BitVec 64) (width : Nat) (value : BitVec 64)
  /-- R350. A store to the bit-set alias ORs a value into a scratchpad word indivisibly. -/
  | bitSetAliasStore (core : Nat) (addr : BitVec 64) (width : Nat) (value : BitVec 64)
  /-- R350. A store to the bit-clear alias clears bits of a scratchpad word indivisibly. -/
  | bitClearAliasStore (core : Nat) (addr : BitVec 64) (width : Nat) (value : BitVec 64)
  /-- R363. A firmware Link not ended 500 µs after ABORT is withdrawn and its core reset. -/
  | abortAckTimeout (core : Nat)
  /-- R364. A core that has not waited for the watchdog time is reset. -/
  | coreWatchdog (core : Nat)
  /-- R374. An uncorrectable memory error is handled by the memory's class of fault. -/
  | eccUncorrectable (site : FaultSite)
  /-- R142. A unit's test after reset ends and it returns to service or stays withdrawn. -/
  | knownAnswerTestEnd (unit index : Nat) (passed : Bool)
  /-- R383. A background test engine starts its next region after the pace interval. -/
  | testRegionStart (engine : Nat)
  /-- R385. A region test ends after verify, retiring or faulting on failure. -/
  | testRegionEnd (engine : Nat) (passed : Bool)
  /-- R386. A region test not ended after the overdue time is counted and logged. -/
  | testRegionOverdue (engine : Nat)
  /-- R400. An MRAM page write and read-back end, making the update durable or retrying on a spare. -/
  | pageWriteDurable (readBack : Bool)
  /-- R411. PWRFAIL_N asserted stops new MRAM writes and fuse bits. -/
  | pwrfailAssert
  /-- R411. PWRFAIL_N deasserted lets queued writes start. -/
  | pwrfailDeassert
  /-- R422. Stage action 1 begins staging an image by DMA. -/
  | stageBeginDma (src : Src)
  /-- R422. Stage action 2 begins staging an image in chunks. -/
  | stageBeginChunks (src : Src)
  /-- R421. Stage action 3 starts verification of the inactive slot. -/
  | stageVerify (src : Src)
  /-- R421. Stage action 4 abandons staging and empties the slot. -/
  | stageAbandon (src : Src)
  /-- R422. A chunk written to OD 0x9000:08 places image bytes. -/
  | stageChunk (src : Src) (value : Bytes)
  /-- R422. Image data read by DMA lands and its pages are written. -/
  | stageDmaData (ident : Nat) (answer : ReadAnswer)
  /-- R421. The staging timer expires and the inactive slot is emptied. -/
  | stagingTimeout
  /-- R421. The checks of a staged image end VERIFIED or REJECTED. -/
  | stageVerificationEnd
  /-- R423. A write of 1 to OD 0x9000:0F sets PENDING to the verified inactive slot. -/
  | activate (src : Src)
  /-- R416. After the boot record is durable the fused security version is advanced. -/
  | securityVersionAdvance (readBack : Bool)
  /-- R427. Export action 1 produces a signed statement over every Locket record. -/
  | locketExport (src : Src)
  /-- R428. A write of 1 to OD 0x6300:08 clears the exported Locket and writes a clear record. -/
  | locketClear (src : Src)
  /-- R431. A monitored tamper condition is detected and the first decision starts the response. -/
  | tamperSource (source : Nat) (asserted : Bool)
  /-- R14. Alarm lines disagreeing for over 1 µs raise a Class 1 VDD_GLITCH tamper. -/
  | alarmLinesDisagree
  /-- R438. The second evaluation of a critical decision is taken after the random delay. -/
  | doubleDecisionSecond (agrees : Bool)
  /-- R436. One light detector asserted alone for over 1 s is logged as a monitor fault. -/
  | lightDetectorDisagreement (detector : Nat)
  /-- R434. A write of OD 0x6000:05 arms or disarms external Filigree pairs. -/
  | externalFiligreeArm (src : Src) (value : Bytes)
  /-- R434. A write of OD 0x6000:06 arms or disarms the seal loop. -/
  | sealLoopArm (src : Src) (value : Bytes)
  /-- R434. Arming takes effect after two correct periods, or is refused. -/
  | armingComplete (correct : Bool)
  /-- R445. A write of the read flags to OD 0x6000:03 clears sticky flags within the unlock ceremony. -/
  | clearFlags (src : Src) (value : Bytes)
  /-- R449. A write of OD 0x1100:04 zeroises and starts blowing the target's fuses. -/
  | lifeCycleTransition (src : Src) (value : Bytes)
  /-- R449. One fuse bit finishes blowing and read-back, and the next is started or skipped. -/
  | fuseBitBlown (readBack : Bool)
  /-- R454. Debug latch action 1 unbinds, zeroises and opens the latch. -/
  | debugReopen (src : Src)
  /-- R454. Debug latch action 2 unbinds, zeroises and closes the latch. -/
  | debugClose (src : Src)
  /-- R449. 1 ms after a transition or latch change the device applies a warm reset. -/
  | postCeremonyReset
  /-- R473. The manager clears a latched Contained record and its units are retested. -/
  | faultRecordClear (src : Src)
  /-- R470. After the escalation delay the device waits for durable records and applies a warm reset. -/
  | fatalEscalation
  /-- R475. Staged Event Log records are appended in one page write. -/
  | eventAppend
  /-- R481. Export action 1 produces a signed statement over the Event Log. -/
  | eventLogExport (src : Src)
  /-- R481. Export action 2 produces a statement and starts a hold. -/
  | eventLogExportHold (src : Src)
  /-- R481. The hold ends after its time and staged records are appended. -/
  | holdTimeout
  /-- R482. A write of 1 to OD 0x6200:09 under a hold clears the log and writes the clear records. -/
  | eventLogClear (src : Src)
  /-- R493. A console asks to open a session and the device answers OPEN_CHAL or ERROR. -/
  | openReq (frame : Frame)
  /-- R494. A tagged OPEN_CONF opens the session. -/
  | openConf (frame : Frame)
  /-- R491. A console starts enrolment and the device answers with a signed ENROL_RESP. -/
  | enrolReq (frame : Frame)
  /-- R491. A tagged ENROL_CONF writes the console key to its vault slot. -/
  | enrolConf (frame : Frame)
  /-- R494. An opening session not confirmed within 1 s returns to NONE. -/
  | sessionOpenTimeout
  /-- R495. A tagged REQUEST frame is executed once or answered from the reply cache by SEQ. -/
  | request (frame : Frame)
  /-- R495. A KEEPALIVE frame keeps the session from idling. -/
  | keepalive (frame : Frame)
  /-- R497. A CLOSE frame ends the session. -/
  | close (frame : Frame)
  /-- R497. A session with no accepted frame for the idle time closes. -/
  | sessionIdleTimeout
  /-- R497. The custody PHY link down for 100 ms closes the session. -/
  | custodyLinkDown
  /-- R489. The device broadcasts ANNOUNCE once a second. -/
  | announce
  /-- R499. A presence input held low for 20 ms is validated and dual presence is evaluated. -/
  | presenceValidated (input : Nat)
  /-- R499. A validated presence input held high for 1 ms is released, ending dual presence. -/
  | presenceReleased (input : Nat)
  /-- R503. A write of OD 0x7810:01 opens a ceremony. -/
  | ceremonyBegin (src : Src) (value : Bytes)
  /-- R503. A write of OD 0x7810:03 ends the open ceremony. -/
  | ceremonyAbandon (src : Src)
  /-- R492. Console action 1 empties the selected console slot. -/
  | consoleRemove (src : Src)
  /-- R504. A wrapped key component is entered and its KCV shown. -/
  | loadComponent (src : Src) (value : Bytes)
  /-- R504. Load action 1 combines the components into the target vault slot. -/
  | vaultKeyLoad (src : Src)
  /-- R504. Load action 2 empties the target vault slot. -/
  | vaultSlotEmpty (src : Src)
  /-- R504. Load action 3 discards the entered components. -/
  | componentsDiscard (src : Src)
  /-- R529. A chunk of the attestation certificate chain is written. -/
  | certificateChunk (src : Src) (value : Bytes)
  /-- R529. The certificate commit checks the chain and writes its directory. -/
  | certificateCommit (src : Src) (value : Bytes)
  /-- R530. A write of OD 0x1000:17 stores board data under its conditions. -/
  | boardDataWrite (src : Src) (value : Bytes)
  /-- R534. Clasp training completes and HELLO is exchanged. -/
  | claspLinkUp (lanes : Nat)
  /-- R534. Loss of lock or 50 µs without a valid frame takes the Clasp link down. -/
  | claspLinkDown (reason : Nat)
  /-- R533. Training is retried every 100 ms while the Clasp link is down. -/
  | linkTrainingRetry
  /-- R534. An end with nothing to send for 10 µs sends ACK. -/
  | claspIdleAck
  /-- R534. A HELLO frame is received and the session type decided. -/
  | hello (frame : Bytes)
  /-- R534. A verifying HELLO_CONF opens a bound or unbound session. -/
  | helloConf (frame : Bytes)
  /-- R535. An ACK frame carries FSEQ and RSEQ acknowledgements. -/
  | ack (frame : Bytes)
  /-- R553. A received RENEW resets the standby's takeover time and is acknowledged. -/
  | renew (frame : Bytes)
  /-- R551. A RENEW_ACK extends the holder's lease. -/
  | renewAck (frame : Bytes)
  /-- R550. A RELEASE received lets an eligible peer take the Signet at once. -/
  | release (frame : Bytes)
  /-- R537. A RELEASE_ACK ends the repetition of RELEASE. -/
  | releaseAck (frame : Bytes)
  /-- R549. A TAKE frame makes the peer copy the new Signet generation. -/
  | take (frame : Bytes)
  /-- R560. A DETACH ends every replication wait and the peer is Detached. -/
  | detach (frame : Bytes)
  /-- R558. Replication records are applied on the standby in record order. -/
  | repl (frame : Bytes)
  /-- R562. A Detached peer's request starts resynchronisation on the holder. -/
  | resyncReq (frame : Bytes)
  /-- R562. Resynchronisation records are applied by the peer. -/
  | resyncData (frame : Bytes)
  /-- R562. The end of resynchronisation brings the peer in sync. -/
  | resyncEnd (frame : Bytes)
  /-- R546. The joiner's BIND_REQ is answered by the source with BIND_RESP. -/
  | bindReq (frame : Bytes)
  /-- R546. The source's BIND_RESP is confirmed by the joiner. -/
  | bindResp (frame : Bytes)
  /-- R546. BIND_CONF completes the pair key and pair record on both parts. -/
  | bindConf (frame : Bytes)
  /-- R548. An UNBIND received makes the part zeroise and leave the binding. -/
  | unbind (frame : Bytes)
  /-- R537. An unacknowledged RELEASE, DETACH or UNBIND is repeated every 1 µs up to 8 µs. -/
  | controlFrameRepeat
  /-- R545. Pair action 1 offers a binding as source. -/
  | bindAsSource (src : Src)
  /-- R545. Pair action 2 offers a binding as joiner. -/
  | bindAsJoiner (src : Src)
  /-- R546. A binding with no peer action or handshake frame within 1 s fails. -/
  | bindTimeout
  /-- R548. Pair action 3 on the holder sends UNBIND and clears the pair key. -/
  | pairUnbind (src : Src)
  /-- R554. Pair action 4 stops admission on the holder before release. -/
  | plannedRelease (src : Src)
  /-- R554. After the drain time remaining Chains are revoked and the Signet released. -/
  | releaseDrainEnd
  /-- R551. Every 2 ms the holder sends RENEW. -/
  | renewTimer
  /-- R552. The holder's lease ends, it loses the Signet and revokes its Chains. -/
  | leaseEnd
  /-- R553. At its takeover time an eligible standby takes the Signet. -/
  | takeoverByExpiry
  /-- R549. After 10 ms in sync with a RENEW received the peer becomes eligible. -/
  | eligible
  /-- R540. Domain action 1 founds a domain. -/
  | domainFound (src : Src)
  /-- R541. Domain action 2 produces a join package for a candidate. -/
  | domainSponsor (src : Src)
  /-- R542. Domain action 3 joins the domain named by a package. -/
  | domainJoin (src : Src)
  /-- R543. Domain action 4 leaves the domain. -/
  | domainLeave (src : Src)
  /-- R571. POR_N or another warm trigger stops admission and clears the compute die. -/
  | warmReset (pulse : Nat) (taken : Bool)
  /-- R569. A main supply below range for over 10 µs takes the part into cold reset. -/
  | coldReset (torn : Option (Nat × Nat))
  /-- R435. Battery-domain supply loss initialises the security die's battery domain. -/
  | batteryReset (cells : BitVec 128) (seed : Bytes)
  /-- R20. The security die switches between VDD_AON and VBAT. -/
  | powerSwitchover (toMain : Bool)
  /-- R572. No refresh for 1 ms makes the compute-die watchdog apply a warm reset. -/
  | computeWatchdog
  /-- R576. Release of a warm or cold reset samples straps and checks fuses and the battery signature. -/
  | resetRelease (straps : List (Nat × Bool)) (misread : List (Nat × Nat))
  /-- R577. The PLLs lock and start-up applies repair, tables, march test and boot selection. -/
  | pllLock (report : StartReport)
  /-- R339. The first seed instantiates the DRBG and start-up proceeds to image verification. -/
  | drbgInstantiated
  /-- R418. Boot image verification ends and the firmware is loaded or recovery entered. -/
  | imageVerificationEnd
  /-- R581. The persistent key store reload ends and start-up is complete. -/
  | startUpComplete
  /-- R606. Every 10 ms the SMBus telemetry values and alert are updated. -/
  | telemetryUpdate (power : Nat)
  /-- R607. SMBus command 0x00 returns the junction temperature. -/
  | smbusTemperature
  /-- R607. SMBus command 0x01 returns the mean draw. -/
  | smbusPower
  /-- R607. SMBus command 0x02 returns the status byte. -/
  | smbusStatus
  /-- R606. The target answers the Alert Response Address while alerting. -/
  | smbusAlertResponse
  /-- R605. Debug instruction BYPASS. -/
  | bypass (tdi : List Bool)
  /-- R605. Debug instruction IDCODE returns the part identity. -/
  | idcode
  /-- R605. Debug instruction SAMPLE/PRELOAD captures IO18 pin levels. -/
  | samplePreload (levels preload : Bytes)
  /-- R605. Debug instruction EXTEST drives IO18 pins while SERVICE is clear. -/
  | extest
  /-- R605. Debug instruction CLAMP holds IO18 outputs while SERVICE is clear. -/
  | clamp
  /-- R19. Device Time advances by one on every ACLK period in every mode and every reset but battery reset. -/
  | deviceTimeAdvance
  /-- R321. The 1 MHz strobe samples each noise source, the repetition count test runs on the sample and the 10 µs liveness windows end. -/
  | rawBitStrobe (levels : List (Bool × Bool)) (freqs : List (Nat × Nat))
  /-- R373. A memory, queue or datapath reports a single-bit error that is corrected and counted as a Corrected fault, with a threshold event when the count in one second is exceeded. -/
  | singleBitError (unit cause index : Nat)
  /-- R461. A parity error in a datapath, list, key register, the MRAM bus or the security die link raises the Contained or Fatal fault its unit defines. -/
  | parityError (unit cause index : Nat)
  /-- R457. No heartbeat from the security die on its link for 10 µs while main power is present raises a Fatal fault of unit 0x10. -/
  | securityDieHeartbeatLoss
  /-- R366. A Fife core fetches, predicts and retires an ordinary instruction, counting FETCHED and IBFILL and trapping on an illegal instruction or a fetch access fault. -/
  | instructionFetch (core : Nat) (wrongPath fills : Nat) (missed : Bool) (fetched : Fetched)
  /-- R345. A BRK instruction raises a breakpoint trap while DEBUG-OPEN is set and an illegal-instruction trap otherwise. -/
  | brk (core : Nat)
  /-- R605. A device-specific debug instruction runs the Fife cores, accesses scratchpads and device registers through the A11 paths, or provisions fuses in BLANK. -/
  | deviceSpecificInstruction (op : DebugOp)
  /-- R253. An SPDM or IDE_KM message over the DOE mailbox of PF0 is answered, keying an IDE stream and moving it into the Secure state. -/
  | spdmRequest (stream first last : Nat) (keyed : Bool) (answer : Bytes)
  /-- R231. PCIe link training completes at a negotiated rate and width and the link reaches L0. -/
  | pcieLinkUp (rate width : Nat)
  /-- R274. A host write to a mailbox slot's body or W1, or a W0 write with an invalid STATE or form, is stored or discarded and counted. -/
  | mailboxBodyWrite (w : HostWrite)
  /-- R485. The 10BASE-T1S PHY link comes up and the link state of OD 0x7800:05 becomes up. -/
  | custodyLinkUp
  /-- R505. Jabber lasting 100 ms on the custody segment records a Contained fault of unit 0x0C and withdraws the controller. -/
  | jabber
  /-- R534. While the Clasp link is up and no session has opened, HELLO is repeated every 100 ms. -/
  | helloRetry
  /-- R491. An enrolment within ceremony 3 whose ENROL_CONF does not arrive within 1 s ends with the console slot left EMPTY. -/
  | enrolConfTimeout
  /-- R403. A region erase of the MRAM ends after up to 1 µs per page, letting the transition, zeroisation or clearing that waited on it continue. -/
  | regionEraseEnd
  /-- R445. The persistent key store reload that step 6 of the unlock ceremony starts ends, after which SERVICE may be entered. -/
  | unlockReloadEnd
  /-- R409. During start-up the MRAM controller finds the tail of the Locket, allowing the boot record to be written. -/
  | locketTailFound
  /-- R477. During start-up the MRAM controller finds the Event Log tail and next SEQ, allowing the boot event and staged records to be appended. -/
  | eventLogTailFound
  /-- R300. The key store controller finishes settling and zeroising the staged slots of a drained epoch, and a commit that waited for it takes effect. -/
  | settlingComplete
  deriving DecidableEq, Repr

end Sys2Proof
end

