-- ==== Sys2Proof/Machine/Bytes.lean ====
section
/-!
DEFINITION. Byte strings: the little-endian order of R10, the big-endian order of the standards it
excepts, bit fields numbered as R9 numbers them, and the CRC-32C of R616.
-/
namespace Sys2Proof.Machine

/-- `n` zero bytes. -/
def zeros (n : Nat) : Bytes := List.replicate n 0

/-- The byte of value `n` modulo 256. -/
def byte (n : Nat) : Byte := BitVec.ofNat 8 n

/-- `n` as `len` bytes, least significant first (R10). -/
def natLE : Nat → Nat → Bytes
  | 0, _ => []
  | len + 1, n => byte n :: natLE len (n / 256)

/-- `n` as `len` bytes, most significant first (the exceptions of R10). -/
def natBE (len n : Nat) : Bytes := (natLE len n).reverse

/-- The integer that bytes spell, least significant first (R10). -/
def leNat : Bytes → Nat
  | [] => 0
  | b :: bs => b.toNat + 256 * leNat bs

/-- The integer that bytes spell, most significant first. -/
def beNat (bs : Bytes) : Nat := bs.foldl (fun a b => a * 256 + b.toNat) 0

/-- `len` bytes from offset `off`. -/
def slice (off len : Nat) (bs : Bytes) : Bytes := (bs.drop off).take len

/-- The first `n` bytes, filled with zeros to `n`. -/
def padTo (n : Nat) (bs : Bytes) : Bytes := bs.take n ++ zeros (n - bs.length)

/-- `bs` with `v` placed from offset `off`; a string that is too short grows with zeros. -/
def overlay (off : Nat) (v bs : Bytes) : Bytes :=
  padTo off bs ++ v ++ bs.drop (off + v.length)

/-- Bytewise exclusive or, as long as the shorter operand. -/
def xorBytes (a b : Bytes) : Bytes := List.zipWith (· ^^^ ·) a b

/-- `bs` in pieces of `n` bytes, the last possibly shorter; `fuel` bounds the pieces. -/
def chunksFuel (n : Nat) : Nat → Bytes → List Bytes
  | 0, _ => []
  | fuel + 1, bs => if bs.isEmpty then [] else bs.take n :: chunksFuel n fuel (bs.drop n)

/-- `bs` in pieces of `n` bytes. -/
def chunks (n : Nat) (bs : Bytes) : List Bytes := chunksFuel n bs.length bs

/-- `a` divided by `b`, rounded up. -/
def ceilDiv (a b : Nat) : Nat := (a + b - 1) / b

/-- The field of `len` bits of `w` whose lowest bit is `lo` (R9). -/
def bits (w lo len : Nat) : Nat := (w >>> lo) % 2 ^ len

/-- Bit `i` of `w` (R9). -/
def bitOf (w i : Nat) : Bool := w.testBit i

/-- 1 for true and 0 for false. -/
def bit (b : Bool) : Nat := if b then 1 else 0

/-- The nibbles of a byte string, high nibble first (R80). -/
def nibbles (bs : Bytes) : List Nat := bs.flatMap fun b => [b.toNat / 16, b.toNat % 16]

/-- Nibbles packed two to a byte, the first in the high half (R80); a single last nibble stands high. -/
def packNibbles : List Nat → Bytes
  | [] => []
  | [a] => [byte (a * 16)]
  | a :: b :: ns => byte (a * 16 + b % 16) :: packNibbles ns

/-- The ASCII bytes of a string. -/
def ascii (s : String) : Bytes := s.toList.map fun c => byte c.toNat

/-- One step of the reflected CRC: eight shifts over the register (R616). -/
def crcShift : Nat → Nat → Nat
  | 0, r => r
  | k + 1, r => crcShift k (if r % 2 = 1 then (r / 2) ^^^ 0x82F63B78 else r / 2)

/-- The register after the bytes given; it is taken apart after each byte, so that an evaluation holds one number and no chain of
sums. -/
def crcBytes : Bytes → Nat → Nat
  | [], r => r
  | b :: t, r =>
    match crcShift 8 (r ^^^ b.toNat) with
    | 0 => crcBytes t 0
    | n + 1 => crcBytes t (n + 1)

/-- CRC-32C with the stated initial value (R616). -/
def crc32cFrom (init : Nat) (bs : Bytes) : Nat := crcBytes bs (init % 2 ^ 32) ^^^ 0xFFFFFFFF

/-- CRC-32C with the initial value of R616 where a rule states none. -/
def crc32c (bs : Bytes) : Nat := crc32cFrom 0xFFFFFFFF bs

/-- `f` applied `n` times. -/
def iter {α : Type} (f : α → α) : Nat → α → α
  | 0, a => a
  | n + 1, a => iter f n (f a)

/-- The element at position `i` replaced; a position past the end changes nothing. -/
def setAt {α : Type} (l : List α) (i : Nat) (a : α) : List α := l.set i a

end Sys2Proof.Machine
end

