-- ==== Sys2Proof/Config.lean ====
section
/-!
DEFINITION. What the spec leaves open. Each constant below has no body, so nothing can be proved of
its value; a claim that mentions one holds whatever it is. Values that must be fresh at every use are
applied to the counter `freeUses` of the state, which the command that takes one advances.
-/
namespace Sys2Proof.Config

/-- The fill nibbles 0x402 forms from its 8 B draw: format, draw, position (R85, R88; assumption 12). -/
opaque pinFill : Nat → Bytes → Nat → Nat

/-- The padding bytes of the key data in an exported X9.143 block: use number, position (assumption 13). -/
opaque blockPad : Nat → Nat → Byte

/-- The PUF response of the part, corrected, before its reduction to the device unique root (R304; assumption 81). -/
opaque pufResponse : Bytes

/-- A value the part draws outside any rule that names its bytes: use number, length (assumption 14). -/
opaque drawn : Nat → Nat → Bytes

/-- By how much the next interval between yield points exceeds 1,536 ECLK: yield seed, interval (R163, R333; assumption 82). -/
opaque yieldExcess : Bytes → Nat → Fin 1024

/-- The length in ECLK of the next interval between yield points: 1,536 to 2,559 (R163). -/
def yieldInterval (seed : Bytes) (interval : Nat) : Nat := 1536 + (yieldExcess seed interval).val

/-- The 448 bits derived from the root for the attestation key (0) and the transport key (1): root, which. R304 gives
the bits' use and their number, not how HMAC-SHA-384's 384 bits become 448 (assumption 22). -/
opaque derivedBits : Bytes → Nat → Bytes

/-- The firmware opcodes that an image's opcode table lists, each with whether it declares a verify result: R414 and R356
name the section and give no layout of it (assumption 24). -/
opaque opcodeTable : Bytes → List (Nat × Bool)

/-- One less than the fixed pattern of an open debug latch. The pattern is not zero, since zero closes the latch (R453, R454;
assumption 26). -/
opaque openPatternLess : Fin 18446744073709551615

/-- The fixed pattern of an open debug latch. -/
def openPattern : BitVec 64 := BitVec.ofNat 64 (openPatternLess.val + 1)

/-- Whether a read request of a function for an address carries Relaxed Ordering, and ID-Based Ordering (R232; assumption 93). -/
opaque readRelaxed : Nat → Nat → Bool
opaque readIdBased : Nat → Nat → Bool

/-- 32 B of the re-masking expander, AES-128 in counter mode: its seed, and the number of its first block. R303 gives neither the
counter's first value nor its layout (assumption 94). -/
opaque expander : Bytes → Nat → Bytes

/-- By how many requests the dispatcher's Fife request queue is deeper than one: R358 names the queue and not its depth
(assumption 97). -/
opaque requestQueueSpare : Nat

/-- The depth of the dispatcher's Fife request queue. -/
def requestQueueDepth : Nat := requestQueueSpare + 1

/-- The losses of a bank master that the commands do not show, by tick number and master (R220; assumption 102). -/
opaque bankLosses : Nat → Nat → BitVec 64

/-- 64 bits that no rule gives: use number (assumption 23). -/
opaque freeBits : Nat → BitVec 64

end Sys2Proof.Config
end

