-- ==== Sys2Proof/Machine/ServiceParts.lean ====
section
/-!
DEFINITION. The parts of the state that transactions use: modes, Chains, engines, dispatcher, energy, flow
control, host interface, tenants, key store and RNG (chapters 02 to 12). Plain data; each part ends with the
value a warm or cold reset gives it.
-/
namespace Sys2Proof.Machine

/-! ### The part and its operating modes (00, 01, 02) -/

/-- The grades, one silicon with units fused off (R4). -/
inductive Grade
  | sk9120
  | sk9080
  | sk9040
  deriving DecidableEq, Repr

/-- The life-cycle states that the fuses decode to (R42, R446). -/
inductive LifeCycle
  | blank
  | test
  | production
  | endOfLife
  | invalid
  deriving DecidableEq, Repr

/-- The Mode Word, one flag or qualifier a field (R33). -/
structure ModeWord where
  service : Bool
  custody : Bool
  shared : Bool
  paired : Bool
  debugOpen : Bool
  locked : Bool
  throttled : Bool
  epochSwitch : Bool
  auditHold : Bool
  update : Bool
  doze : Bool
  degraded : Bool
  dozeDepth : BitVec 2
  active : Bool
  lockCause : BitVec 2
  evlogFull : Bool
  locketFull : Bool
  deriving DecidableEq, Repr

/-- The Mode Word and the entries of OD 0x1200 (R33, R36), with the counts R38 and R39 rest on. -/
structure Modes where
  word : ModeWord
  updates : BitVec 32
  updateTime : Nat
  serviceEnable : Bool
  notifyMask : BitVec 32
  dozeIdle1 : Nat
  dozeIdle2 : Nat
  dozePermission : Nat
  /-- µs for which the part has been idle without a break (R39). -/
  idleFor : Nat
  /-- Device Time at the entry to DOZE depth 2 (R201). -/
  dozeAt : Nat
  /-- The Device Time at which the ACLK wake timer ends depth 2 (R201). -/
  wakeTimer : Option Nat := none
  /-- Chain-memory banks that powered down at the entry to depth 2 (R379). -/
  banksOff : List Nat := []
  /-- Consecutive ticks in which a Link was held back, and in which none was (R38). -/
  heldRun : Nat
  quietRun : Nat
  deriving DecidableEq, Repr

/-! ### Chains in flight (03, 07) -/

/-- The four words of a Link entry (R48). -/
structure LinkWords where
  w0 : Nat
  w1 : Nat
  w2 : Nat
  w3 : Nat
  deriving DecidableEq, Repr

/-- A Chain body: the eight header words and the Link entries (R44, R47). -/
structure Body where
  hdr : List Nat
  links : List LinkWords
  deriving DecidableEq, Repr

/-- The states of a Link (the table ahead of R57). -/
inductive LinkState
  | pending
  | ready
  | issued
  | done
  | skipped
  | failed
  deriving DecidableEq, Repr

/-- What the dispatcher records of one Link (R177, R181, R184) and what the Link received at issue. -/
structure LinkRun where
  st : LinkState
  verify : Option Bool
  /-- The 12 B nonce it took at issue (R117, R121), or the drawn IV of CBC (R120). -/
  nonce : Bytes
  /-- The bytes drawn for it at issue (R332). -/
  draw : Bytes
  /-- Position in its ready list: the number of its becoming READY (R180). -/
  readySeq : Nat
  age : Nat
  agedAt : Option Nat
  deferred : Bool
  /-- The engine that runs it: lane context, hash unit, pair or core number within its kind (R183). -/
  unit : Option Nat
  /-- The tick at which a DELAY Link falls due (R63). -/
  dueTick : Option Nat
  /-- The sequence number of that entry's insertion (R199). -/
  dueSeq : Nat := 0
  /-- The persistent entry reserved at issue (R308). -/
  entry : Option Nat
  /-- Whether an expiry, revocation or abort stops it at its next yield point (R65, R254). -/
  stopping : Bool
  deriving DecidableEq, Repr

/-- The record R81 makes of a key output range: where it lies, its length and its attribute word. -/
structure KeyRange where
  start : Nat
  len : Nat
  attr : Nat
  deriving DecidableEq, Repr

/-- One Chain context (R177) with what the Chain holds under R52 and R214. -/
structure Chain where
  body : Body
  epoch : Nat
  qp : Nat
  fn : Nat
  tag : Nat
  prio : Nat
  expiry : Nat
  admSeq : Nat
  inlineArea : Bytes
  inputAddr : Nat
  inputLen : Nat
  inputLanded : Bool
  resultAddr : Nat
  /-- The physical buffers, in the Chain's order (R49). -/
  buffers : List Nat
  links : List LinkRun
  /-- Engine Links that firmware Links of the Chain have requested (R358), numbered from 32. -/
  requested : List (Nat × LinkWords × LinkRun)
  keys : List KeyRange
  status : Nat
  firstFail : Nat
  debug : Bool
  /-- The uncharged part of the energy estimate, small and large (R178). -/
  small : Nat
  large : Nat
  /-- Use-counter decrements committed for it (R254 step 7). -/
  uses : Nat
  /-- Failed, expired, aborted or revoked: no further Link of it issues (R61, R65). -/
  closed : Bool
  /-- Its expiry has taken effect at a tick edge with Links not final (R200). -/
  expired : Bool := false
  /-- Revoked: it ends without completion or write-back (R226, R254). -/
  revoked : Bool
  /-- Every Link is final and the Chain waits for write-back and completion. -/
  finished : Bool
  /-- The place of its end in the order in which Chains finish (R249). -/
  finSeq : Nat := 0
  writtenBack : Bool
  /-- Bytes of the write-back items that have been written. -/
  wbSent : Nat
  /-- Replication records its completion waits for (R27, R308). -/
  waitRecords : List Nat
  /-- Logical MRAM pages its completion waits for (R308). -/
  waitPages : List Nat
  /-- Number of the event that its completion waits for, 0 for none (R27, R560). -/
  waitEvent : Nat
  deriving DecidableEq, Repr

/-- A template slot's bodies: in force, kept for the draining epoch, and staged (R69 to R71). -/
structure Template where
  owner : Nat
  body : Option Body
  buffers : List Nat
  oldOwner : Nat
  oldBody : Option Body
  oldBuffers : List Nat
  /-- What the shadow set holds: nothing, a clear, or a load with its owner, body and buffers. -/
  staged : Option (Option (Nat × Body × List Nat))
  deriving DecidableEq, Repr

/-- The record OD 0x2102 (R70). -/
structure TemplateRecord where
  slot : Nat
  owner : Nat
  addr : Nat
  len : Nat
  result : Nat
  /-- The result shown before, as long as the records that the last action replicates are not acknowledged (R557). -/
  before : Nat := 0
  await : List Nat := []
  deriving DecidableEq, Repr

/-- The values of the shadow set that a commit takes over (R67, R530): each is staged or unchanged. -/
structure Staged where
  maxDeadline : Option Nat
  defaultDeadline : Option Nat
  yieldLimit : Option Nat
  decTables : List (Nat × Bytes)
  pinDowngrade : Option Bool
  deriving DecidableEq, Repr

/-- The configuration values that an epoch names (R67): a Chain reads those of its own epoch. -/
structure EpochConfig where
  maxDeadline : Nat
  defaultDeadline : Nat
  yieldLimit : Nat
  decTables : List Bytes
  pinDowngrade : Bool
  deriving DecidableEq, Repr

/-- Epochs, templates and the shadow set (R67 to R71, OD 0x2100 and 0x2102). -/
structure Epochs where
  current : BitVec 16
  old : BitVec 16
  config : EpochConfig
  oldConfig : EpochConfig
  staged : Staged
  commitResult : Nat
  expiries : BitVec 64
  templates : SMap Template
  record : TemplateRecord
  /-- The key store controller has still to settle the slots of a drained epoch (R300). -/
  settling : Bool
  /-- A commit waits for the settling to end (R300): the source that asked. -/
  commitWaits : Bool
  deriving DecidableEq, Repr

/-! ### Engines (05, 06) -/

/-- A lane context: the Chain whose key it holds, the Link it runs and its key register (R109, R123). -/
structure LaneContext where
  chain : Nat
  link : Option Nat
  key0 : Option KeyVal
  key1 : Option KeyVal
  /-- The key buffer whose key stands in key0. -/
  keyBuffer : Option Nat
  /-- The CMAC subkeys K1 and K2 of key0, and its GCM hash subkey with its powers (R78, R123). -/
  subkeys : List Bytes := []
  hashKeys : List Bytes := []
  /-- The chaining state and the GHASH accumulator of the Link it runs (R109). -/
  chaining : Bytes := []
  accumulator : Bytes := []
  deriving DecidableEq, Repr

/-- A key buffer that a lane has loaded for a Chain, with the CMAC subkeys the lane keeps of the last one (R78). -/
structure LaneLoad where
  lane : Nat
  chain : Nat
  buffer : Nat
  subkeys : List Bytes
  deriving DecidableEq, Repr

/-- A hash unit: the Link it runs and its key register (R124, R125). -/
structure HashUnit where
  job : Option (Nat × Nat)
  key : Option KeyVal
  deriving DecidableEq, Repr

/-- The key a pair retains in a job region (R147). -/
structure Retained where
  src : Nat
  ref : Nat
  header : Bytes
  tag : Bytes
  owner : Nat
  attr : Nat
  param : Nat
  key : Bytes
  deriving DecidableEq, Repr

/-- A job region of a PKE pair, or the unit memory of a lattice pair (R164). -/
structure Region where
  job : Option (Nat × Nat)
  /-- The owner of the last Link that ran in the region (R169). -/
  owner : Option Nat
  retained : Option Retained
  /-- The key of the job as its loader or the key-slot port delivered it (R139, R145). -/
  key : Option KeyVal
  param : Nat
  /-- The operands IN0, IN1 and IN2 that the pair received at issue (R139). -/
  operands : List Bytes := []
  /-- What the key loader made of the job's private key: a status, or 0 with the clear key (R145). -/
  loadStatus : Nat := 0
  plain : Bytes := []
  /-- Yields the job has taken (R165), yield points it has passed, and its running time in ECLK. -/
  yields : Nat
  points : Nat
  ran : Nat
  /-- It has passed a yield point since it last resumed (R165). -/
  eligible : Bool
  deriving DecidableEq, Repr

/-- A PKE or lattice pair (R138, R164): the region that runs and the region that is suspended. -/
structure Pair where
  a : Region
  b : Region
  running : Option Bool
  suspended : Option Bool
  deriving DecidableEq, Repr

/-- The engines and their counters (R78, R117, R172). -/
structure Engines where
  lanes : SMap LaneContext
  /-- Key buffers that lanes have loaded, the last first (R78, R183). -/
  loads : List LaneLoad := []
  hashes : SMap HashUnit
  pke : SMap Pair
  lattice : SMap Pair
  /-- The next invocation value (R117). -/
  invocation : BitVec 64
  mismatches : BitVec 64
  yields : BitVec 64
  yieldLimits : BitVec 64
  wipes : BitVec 64
  retainedUses : BitVec 64
  deriving DecidableEq, Repr

/-! ### Dispatcher, delay lists and energy (07) -/

/-- The hold account of R194: its Link and its level. -/
structure Hold where
  chain : Nat
  link : Nat
  level : Nat
  deriving DecidableEq, Repr

/-- The kinds of delay-list entry in the order of processing (R198, R199). -/
inductive DueKind
  | lease
  | slotLock
  | waitTimeout
  | expiry
  | delayLink
  | firmwareTimer
  deriving DecidableEq, Repr

/-- A delay-list entry that has fallen due: its kind, what it concerns, its tick and the number of its insertion (R199). An entry of kind
`lease` is the lease of the holder (0), its renewal (1), a standby's takeover (2), or a retry of the Clasp link controller
(3). -/
structure Due where
  kind : DueKind
  a : Nat
  b : Nat
  tick : Nat
  seq : Nat := 0
  deriving DecidableEq, Repr

/-- The dispatcher: Chain contexts, counters of order and the entries of OD 0x2100 and 0x2101. -/
structure Dispatcher where
  chains : SMap Chain
  /-- Numbers handed to Chains at admission and to Links as they become READY (R176, R180). -/
  admSeq : Nat
  readySeq : Nat
  /-- OD 0x2100:08, counted from 0 at reset (R197). -/
  tick : Nat
  /-- The number of the next insertion in the delay lists (R199). -/
  insertSeq : Nat := 0
  /-- The number of the next Chain to finish (R249). -/
  finishSeq : Nat := 0
  /-- Some Link has been held back in this tick, and in the tick before it (R182). -/
  heldNow : Bool
  heldBefore : Bool
  hold : Option Hold
  /-- A hold account was open at the last tick edge (R193). -/
  holdAtEdge : Bool
  ageLimits : List Nat
  /-- Age limits written since the last tick edge (R210). -/
  newAgeLimits : List Nat
  agedIssues : BitVec 64
  holdIssues : BitVec 64
  deferrals : BitVec 64
  waitCycles : BitVec 32
  /-- Delay-list entries due at the last tick edge, in the order of R199. -/
  due : List Due
  /-- µs for which the conditions of R207 have held, and whether the detector may fire again (R208). -/
  allWaitingFor : Nat
  detectorArmed : Bool
  deriving DecidableEq, Repr

/-- The energy governor (R185 to R196, OD 0x2000). Units are those of the entries. -/
structure Energy where
  /-- Power limit, and the limit written since the last tick edge, in 0.1 W (R188). -/
  limit : Nat
  newLimit : Option Nat
  /-- The straps PWRLIM[1:0] as sampled (R188). -/
  pwrlim : Nat
  level : Nat
  k : Nat
  d : Nat
  samples : Nat
  /-- The eight sensors' latest samples, in 0.5 °C (R190). -/
  temps : List Int
  junction : Int
  /-- Mean draw over 10 ms in 0.5 W. -/
  measured : Nat
  heldTicks : BitVec 64
  charged : BitVec 64
  smallPool : Nat
  largePool : Nat
  /-- Bit n set: temperature sensor n withdrawn (R209). -/
  sensorsOut : Nat
  monitorOut : Bool
  /-- The share account of PF0 (R195). -/
  pf0Account : Int
  deriving DecidableEq, Repr

/-! ### Credits, buffers and arbitration (08) -/

/-- A working slot lock: the holder's tag and the tick at which its lease ends (R228). -/
structure SlotLock where
  holder : Nat
  lease : Nat
  seq : Nat := 0
  deriving DecidableEq, Repr

/-- A grant that its port has withdrawn and has still to return (R219). -/
structure WastedGrant where
  port : Nat
  owner : Nat
  buffers : List Nat
  deriving DecidableEq, Repr

/-- Flow control: the ownership table's buffers and locks, and OD 0x2200 (R211 to R230). -/
structure Flow where
  /-- The owner tag of every buffer in use (R225). -/
  buffers : SMap Nat
  /-- Buffers that the allocator counts as granted and not returned: what they leave of the pools is its free count (R229). -/
  granted : Nat := 0
  /-- A buffer that was free already has been returned (R229). -/
  freeTwice : Bool := false
  /-- The allocator port last granted (R217). -/
  lastPort : Option Nat
  wasted : List WastedGrant
  /-- Posted credits the link partner has advertised and the device has not used: header, data (R213). -/
  postedHdr : Nat
  postedData : Nat
  ranks : BitVec 32
  weights : BitVec 32
  keyWeights : BitVec 16
  pcieWeights : BitVec 16
  /-- Starvation thresholds and flags of the four arbiters (R223). -/
  thresholds : List Nat
  flags : List Nat
  conflicts : List (BitVec 64)
  /-- Requesters that have been granted since reset, with the number of the free value that their last wait is; none where they were
  granted without a loss (R221). -/
  lastWaits : SMap (Option Nat)
  /-- Requesters that have lost since their last grant (R221). -/
  lost : List Nat := []
  hdrReserve : Nat
  dataReserve : Nat
  lockLease : Nat
  locks : SMap SlotLock
  noneResults : BitVec 64
  wastedGrants : BitVec 64
  leaseExpiries : BitVec 32
  deriving DecidableEq, Repr

/-! ### Host interface (09) -/

/-- The states of a queue pair (R236, R237). -/
inductive QpState
  | disabled
  | active
  | draining
  | frozen
  | error
  deriving DecidableEq, Repr

/-- A queue-pair context (R236), with the entries its fetch engine holds. -/
structure QueuePair where
  sqSize : Nat
  cqSize : Nat
  state : QpState
  sqBase : Nat
  fn : Nat
  cqBase : Nat
  winSize : Nat
  winBase : Nat
  sqHead : Nat
  sqTail : Nat
  cqTail : Nat
  cqHead : Nat
  cqReserved : Nat
  phase : Bool
  vector : Nat
  modCount : Nat
  modTime : Nat
  irqPending : Nat
  errCause : Nat
  localNo : Nat
  admitted : BitVec 32
  completed : BitVec 32
  /-- The context has been set up: it stands in a function's pool with a local number (R238). -/
  isSet : Bool
  /-- Entries fetched and not consumed, from SQ_HEAD on (R242). -/
  fetched : List Bytes
  /-- Runs of entries that landed before an earlier run: first index and entries. -/
  early : List (Nat × List Bytes)
  /-- The first index past the entries fetched or being fetched. -/
  fetchTo : Nat
  /-- The descriptor of the entry at SQ_HEAD once it has landed, or the error its fetch met (R244, R252). -/
  descriptor : Option (Option Bytes)
  /-- The tick at which the moderation timer falls due (R250). -/
  modDue : Option Nat
  /-- The port passes it over until its wait hint has run out (R244), for so many more of the port's admission cycles (R222). -/
  passedOver : Bool
  hintLeft : Nat := 0
  deriving DecidableEq, Repr

/-- What a read of host memory is for (R46, R52, R70, R242, R422). -/
inductive ReadKind
  | entries (qp first count : Nat)
  | descriptor (qp : Nat)
  | input (chain : Nat)
  | template (slot owner : Nat)
  | image (offset : Nat)
  deriving DecidableEq, Repr

/-- An outstanding read of host memory. -/
structure HostRead where
  ident : Nat
  kind : ReadKind
  fn : Nat
  addr : Nat
  len : Nat
  /-- Its requests have been issued, each under a tag; a read that is not sent waits for tags (R211, R231). -/
  sent : Bool := true
  deriving DecidableEq, Repr

/-- A completion waiting on C0 that no Chain context holds: a refusal at admission (R55) or an abort (R24). -/
structure QueuedCompletion where
  qp : Nat
  tag : Nat
  status : Nat
  firstFail : Nat
  flags : Nat
  finSeq : Nat := 0
  deriving DecidableEq, Repr

/-- The states of an IDE stream (R253). -/
structure IdeStream where
  secure : Bool
  firstFn : Nat
  lastFn : Nat
  deriving DecidableEq, Repr

/-- The MSI-X table of a function: vectors the host has unmasked, pending ones, and the message address and data of each vector; a
vector not listed has zeros (R233, R250; assumption 10). -/
structure Msix where
  unmasked : List Nat
  pending : List Nat
  table : SMap (BitVec 64 × BitVec 32)
  deriving DecidableEq, Repr

/-- The record OD 0x4020 (R260). -/
structure QpRecord where
  qp : Nat
  fn : Nat
  localNo : Nat
  sqBase : Nat
  cqBase : Nat
  winBase : Nat
  sizes : Nat
  vector : Nat
  modCount : Nat
  modTime : Nat
  result : Nat
  /-- The result shown before, as long as the records that the last action replicates are not acknowledged (R557). -/
  before : Nat := 0
  await : List Nat := []
  deriving DecidableEq, Repr

/-- The host interface (R231 to R260). -/
structure HostIf where
  linkUp : Bool
  rate : Nat
  width : Nat
  /-- PERST_N is asserted (R254, R259). -/
  perst : Bool
  /-- A host reset's internal work has still to end before training may begin (R259). -/
  resetBusy : Bool
  vfEnable : Bool
  numVfs : Nat
  qps : SMap QueuePair
  msix : SMap Msix
  /-- The next queue pair in each admission port's round robin (R244). -/
  rrNext : List Nat
  reads : List HostRead
  readSeq : Nat
  queued : List QueuedCompletion
  /-- MSI-X messages that wait for posted credits above the reserve: function and vector (R213). -/
  posted : List (Nat × Nat)
  causes : BitVec 32
  discarded : BitVec 64
  hostResets : BitVec 32
  fnResets : BitVec 32
  /-- Function resets that are still to be reported complete: the VF, and the records to be acknowledged (R258). -/
  resetReports : List (Nat × List Nat) := []
  /-- The records of the last host reset (R258). -/
  resetRecords : List Nat := []
  chainsRevoked : BitVec 64
  usesRevoked : BitVec 64
  record : QpRecord
  ide : List IdeStream
  ideRequired : Bool
  ideFailures : BitVec 32
  deriving DecidableEq, Repr

/-! ### Tenant instances and mailboxes (10) -/

/-- The states of an instance (R264). -/
inductive InstState
  | free
  | active
  | destroying
  deriving DecidableEq, Repr

/-- The record of an instance (R261, R283). -/
structure Inst where
  state : InstState
  qpBase : Nat
  qpCount : Nat
  slotBase : Nat
  slotCount : Nat
  quota : Nat
  share : Nat
  rights : Nat
  /-- Rights the draining epoch's Chains run under, and rights staged for the next commit (R67). -/
  oldRights : Nat
  stagedRights : Nat
  account : Int
  chains : BitVec 64
  charged : BitVec 64
  deferrals : BitVec 64
  note : Bytes
  /-- The records by which a destroy tells the standby that the instance is FREE, once sent (R267). -/
  told : Option (List Nat) := none
  deriving DecidableEq, Repr

/-- One message slot of a mailbox (R273). -/
structure MailSlot where
  w0 : BitVec 64
  w1 : BitVec 64
  body : Bytes
  /-- DOZE_DEPTH as it stood when the message in the slot arrived (R36). -/
  depth : Nat := 0
  deriving DecidableEq, Repr

/-- A mailbox: its header and its slots that are not in their reset value (R272, R273). -/
structure Mailbox where
  lastExec : BitVec 32
  cause : BitVec 32
  mask : BitVec 32
  rejected : BitVec 32
  slots : SMap MailSlot
  deriving DecidableEq, Repr

/-- The record OD 0x4100 (R283). -/
structure InstRecord where
  number : Nat
  qpBase : Nat
  qpCount : Nat
  slotBase : Nat
  slotCount : Nat
  quota : Nat
  share : Nat
  rights : Nat
  result : Nat
  /-- The result shown before, as long as the records that the last action replicates are not acknowledged (R557). -/
  before : Nat := 0
  await : List Nat := []
  deriving DecidableEq, Repr

/-- Tenant instances, their mailboxes and the manager's (R261 to R283). -/
structure Tenants where
  insts : SMap Inst
  mailboxes : SMap Mailbox
  record : InstRecord
  deriving DecidableEq, Repr

/-! ### Key store (11) -/

/-- The states of a working slot (R284). -/
inductive SlotState
  | empty
  | valid
  | bad
  deriving DecidableEq, Repr

/-- A working slot: key, attribute word, state, key check value and CHECK (R284). -/
structure Slot where
  key : Bytes
  attr : Nat
  state : SlotState
  kcv : Bytes
  check : Nat
  deriving DecidableEq, Repr

/-- A vault slot: the masked value and the mask, and its attribute word (R301). -/
structure VaultSlot where
  v : Bytes
  m : Bytes
  attr : Nat
  valid : Bool
  kcv : Bytes
  deriving DecidableEq, Repr

/-- What OD 0x3001 holds for one function (R320). -/
structure SlotSelect where
  slot : Nat
  result : Nat
  deriving DecidableEq, Repr

/-- A floor write that has been started and is not yet durable: slot and new floor (R296). -/
structure FloorWrite where
  slot : Nat
  floor : Nat
  page : Nat
  deriving DecidableEq, Repr

/-- The key slot memory, the vault and the persistent key store's live side (R284 to R320). -/
structure KeyStore where
  slots : SMap Slot
  vault : SMap VaultSlot
  /-- The slot each persistent entry in use holds, and its floor (R296, R307). -/
  entries : SMap (Nat × Nat)
  /-- Entries reserved by issued Links (R308). -/
  reserved : List Nat
  floorWrites : List FloorWrite
  /-- The staging list: marked slots, entering or leaving (R300). -/
  staging : List Nat
  granule : Nat
  forfeited : BitVec 64
  seedTime : Nat
  remaskCycles : BitVec 64
  /-- The re-masking expander: its seed and the blocks it has given (R303). -/
  expanderSeed : Bytes
  expanderCount : Nat
  /-- V and M of the EMPTY vault slots, which are equal: zeros where none is listed (R303). -/
  emptyMasks : SMap Bytes := []
  /-- The Device Time at which the last re-masking cycle started (R303). -/
  remaskedAt : Option Nat := none
  zeroiseResult : Nat
  selects : SMap SlotSelect
  vaultSelect : Nat
  /-- Which derived keys the key derivation unit holds (R304). -/
  rootHeld : Bool
  storageHeld : Bool
  /-- A tamper response erased them and the 1 ms without a live source is running (R304). -/
  rootPending : Bool
  /-- The manifest reload has been done (R32, R309). -/
  reloaded : Bool
  deriving DecidableEq, Repr

/-! ### Random numbers (12) -/

/-- One noise source: its health-test counters and its windows (R321 to R324). -/
structure Source where
  /-- Samples of the running window, oldest first. -/
  window : List Bool
  run : Nat
  last : Option Bool
  /-- The start-up window has been tested and discarded (R323). -/
  started : Bool
  /-- A released window that no seed has taken yet (R324). -/
  released : Option (List Bool)
  /-- A bit of the running window has left through the debug port (R338). -/
  streamed : Bool := false
  /-- Windows that have ended since the sources started (R323). -/
  windows : Nat := 0
  /-- Frequencies of oscillators A and B in kHz (R340). -/
  freqA : Nat
  freqB : Nat
  deriving DecidableEq, Repr

/-- The RNG (R321 to R341, OD 0x3100). -/
structure Rng where
  state : Nat
  sources : List Source
  drbg : Option Drbg
  katPassed : Bool
  /-- A conditioned seed that waits for its reseed (R328). -/
  seed : Option Bytes
  reserve : Bytes
  buffer : Bytes
  reseeds : BitVec 64
  calls : Nat
  stretched : BitVec 64
  hardLimited : BitVec 64
  passOvers : BitVec 64
  drawn : BitVec 64
  seedTime : Nat
  capture : Nat
  /-- Reserve and buffer have been full since the reset: Links and system draws are served (R339). -/
  filled : Bool := false
  deriving DecidableEq, Repr

/-! ### Reset values -/

/-- The Mode Word after a warm or cold reset, but for the fields R33 calls held. -/
def ModeWord.reset : ModeWord :=
  { service := false, custody := false, shared := false, paired := false, debugOpen := false, locked := false,
    throttled := false, epochSwitch := false, auditHold := false, update := false, doze := false,
    degraded := false, dozeDepth := 0, active := false, lockCause := 0, evlogFull := false, locketFull := false }

/-- OD 0x1200 at its defaults (R36). -/
def Modes.reset : Modes :=
  { word := ModeWord.reset, updates := 0, updateTime := 0, serviceEnable := false, notifyMask := 0xFFF,
    dozeIdle1 := 2, dozeIdle2 := 1000, dozePermission := 2, idleFor := 0, dozeAt := 0, heldRun := 0, quietRun := 0 }

/-- A lane context, hash unit, region and pair that hold nothing. -/
def Region.empty : Region :=
  { job := none, owner := none, retained := none, key := none, param := 0, yields := 0, points := 0, ran := 0,
    eligible := false }

/-- A pair with both regions cleared (R170). -/
def Pair.empty : Pair := { a := Region.empty, b := Region.empty, running := none, suspended := none }

/-- The engines after a reset: every key register and memory cleared, counters 0 (R117, R124, R170). -/
def Engines.reset : Engines :=
  { lanes := [], hashes := [], pke := [], lattice := [], invocation := 0, mismatches := 0, yields := 0,
    yieldLimits := 0, wipes := 0, retainedUses := 0 }

/-- Decimalisation tables: table 0 is 01 23 45 67 89 01 23 45, the others are empty (R94). -/
def decTablesDefault : List Bytes :=
  [[0x01, 0x23, 0x45, 0x67, 0x89, 0x01, 0x23, 0x45]] ++ List.replicate 7 (List.replicate 8 0)

/-- The defaults of the staged entries (R523, R525). -/
def EpochConfig.default : EpochConfig :=
  { maxDeadline := 50000, defaultDeadline := 10000, yieldLimit := 64, decTables := decTablesDefault,
    pinDowngrade := false }

/-- Nothing staged. -/
def Staged.none : Staged :=
  { maxDeadline := .none, defaultDeadline := .none, yieldLimit := .none, decTables := [], pinDowngrade := .none }

/-- A template slot that holds nothing. -/
def Template.empty : Template :=
  { owner := 0, body := none, buffers := [], oldOwner := 0, oldBody := none, oldBuffers := [], staged := none }

/-- Epoch 0x0000, defaults in force, nothing staged, no template (R525, R570). -/
def Epochs.reset : Epochs :=
  { current := 0, old := 0, config := EpochConfig.default, oldConfig := EpochConfig.default,
    staged := Staged.none, commitResult := 0, expiries := 0, templates := [],
    record := { slot := 0, owner := 0, addr := 0, len := 0, result := 0 }, settling := false,
    commitWaits := false }

/-- The dispatcher with no Chain, tick 0, age limits at their defaults (R197, R210). -/
def Dispatcher.reset : Dispatcher :=
  { chains := [], admSeq := 0, readySeq := 0, tick := 0, heldNow := false, heldBefore := false, hold := none, holdAtEdge := false,
    ageLimits := [50, 200, 1000, 5000], newAgeLimits := [50, 200, 1000, 5000], agedIssues := 0,
    holdIssues := 0, deferrals := 0, waitCycles := 0, due := [], allWaitingFor := 0, detectorArmed := true }

/-- The governor with an empty bucket, k and d at 1 and no thermal history, at 95 W until RESET_RELEASE samples PWRLIM (R188, R191,
R210). DESIGN CHOICE (assumption 98): R210 gives OD 0x2000:09 no default; before the first sample it reads 0x7FFF. -/
def Energy.reset : Energy :=
  { limit := 950, newLimit := none, pwrlim := 0, level := 0, k := 4096, d := 4096, samples := 0, temps := [],
    junction := 0x7FFF, measured := 0, heldTicks := 0, charged := 0,
    smallPool := 0, largePool := 0, sensorsOut := 0, monitorOut := false, pf0Account := 0 }

/-- Flow control with every buffer, credit and lock free, OD 0x2200 at its defaults (R230). -/
def Flow.reset : Flow :=
  { buffers := [], lastPort := none, wasted := [], postedHdr := 0,
    postedData := 0, ranks := 0x003F5710, weights := 0x11111110, keyWeights := 0x0114, pcieWeights := 0x2118,
    thresholds := [4096, 4096, 15000000, 1500000], flags := [0, 0, 0, 0],
    conflicts := List.replicate 8 0, lastWaits := [], hdrReserve := 16, dataReserve := 64, lockLease := 1000,
    locks := [], noneResults := 0, wastedGrants := 0, leaseExpiries := 0 }

/-- A queue-pair context at its reset value: DISABLED, every field zero (R236). -/
def QueuePair.reset : QueuePair :=
  { sqSize := 0, cqSize := 0, state := .disabled, sqBase := 0, fn := 0, cqBase := 0, winSize := 0,
    winBase := 0, sqHead := 0, sqTail := 0, cqTail := 0, cqHead := 0, cqReserved := 0, phase := false,
    vector := 0, modCount := 0, modTime := 0, irqPending := 0, errCause := 0, localNo := 0, admitted := 0,
    completed := 0, isSet := false, fetched := [], early := [], fetchTo := 0, descriptor := none, modDue := none,
    passedOver := false }

/-- The host interface with its link down and nothing set up (R236, R260). -/
def HostIf.reset : HostIf :=
  { linkUp := false, rate := 0, width := 0, perst := false, resetBusy := false, vfEnable := false, numVfs := 0,
    qps := [], msix := [], rrNext := [0, 0], reads := [], readSeq := 0, queued := [], posted := [], causes := 0,
    discarded := 0, hostResets := 0, fnResets := 0, chainsRevoked := 0, usesRevoked := 0,
    record := { qp := 0, fn := 0, localNo := 0, sqBase := 0, cqBase := 0, winBase := 0, sizes := 0,
                vector := 1, modCount := 1, modTime := 0, result := 0 },
    ide := [], ideRequired := false, ideFailures := 0 }

/-- The record of an instance that does not exist (R283). -/
def Inst.empty : Inst :=
  { state := .free, qpBase := 0, qpCount := 0, slotBase := 0, slotCount := 0, quota := 0, share := 0,
    rights := 0, oldRights := 0, stagedRights := 0, account := 0, chains := 0, charged := 0, deferrals := 0,
    note := List.replicate 32 0 }

/-- A mailbox with every slot FREE (R272, R273). -/
def Mailbox.empty : Mailbox := { lastExec := 0, cause := 0, mask := 0, rejected := 0, slots := [] }

/-- No instance, empty mailboxes, OD 0x4100 at its defaults (R283). -/
def Tenants.reset : Tenants :=
  { insts := [], mailboxes := [],
    record := { number := 1, qpBase := 0, qpCount := 1, slotBase := 0, slotCount := 0, quota := 0, share := 0,
                rights := 0, result := 0 } }

/-- The key store before the reload: slots EMPTY, no root yet derived (R284, R320). -/
def KeyStore.reset : KeyStore :=
  { slots := [], vault := [], entries := [], reserved := [], floorWrites := [], staging := [], granule := 1024,
    forfeited := 0, seedTime := 0, remaskCycles := 0, expanderSeed := List.replicate 48 0, expanderCount := 0,
    zeroiseResult := 0, selects := [], vaultSelect := 8, rootHeld := false, storageHeld := false,
    rootPending := false, reloaded := false }

/-- A source before its start-up window (R323). -/
def Source.reset : Source :=
  { window := [], run := 0, last := none, started := false, released := none, freqA := 0, freqB := 0 }

/-- The RNG in start-up testing (R340). -/
def Rng.reset : Rng :=
  { state := 0, sources := List.replicate 4 Source.reset, drbg := none, katPassed := false, seed := none,
    reserve := [], buffer := [], reseeds := 0, calls := 0, stretched := 0, hardLimited := 0, passOvers := 0,
    drawn := 0, seedTime := 0, capture := 0xFF }

end Sys2Proof.Machine
end

