-- ==== Sys2Proof/Machine/ControlParts.lean ====
section
/-!
DEFINITION. The parts of the state that control, storage, protection and pairing use: Fife cores, memories,
MRAM, security die, life cycle, faults and Event Log, custody bus, object dictionary, Clasp link, start-up and
pins (chapters 13 to 22). Plain data; each part ends with its reset value.
-/
namespace Sys2Proof.Machine

/-! ### Fife cores (13) -/

/-- What a core is doing: running, or blocked in WAITW or WAITE with its mask and the tick of its timeout. -/
inductive CoreWait
  | running
  | waitw (accept : Nat) (due : Option Nat)
  | waite (mask : Nat) (due : Option Nat)
  deriving DecidableEq, Repr

/-- What a core predicts branches with (R366): direction counters and targets by the branch's PC, and the return stack. A branch not
listed is weakly not-taken and has no target. The spec gives neither sizes nor counter widths: two-bit counters, 0 strongly and 1
weakly not-taken, 2 weakly and 3 strongly taken, and no limit of entries (PRESUMED, assumption 96). -/
structure Predictors where
  directions : SMap Nat
  targets : SMap Nat
  returns : List Nat
  deriving DecidableEq, Repr

/-- Every predictor weakly not-taken (R365, R368). -/
def Predictors.cold : Predictors := { directions := [], targets := [], returns := [] }

/-- A Fife core: registers, windows, CSRs, events, timers and the Link it holds (R343 to R369). -/
structure Core where
  /-- g0 to g15. -/
  globals : List (BitVec 64)
  /-- Register n of window w at 16w + n; one not listed holds zero. -/
  windows : SMap (BitVec 64)
  pc : BitVec 64
  tcause : BitVec 64
  epc : BitVec 64
  tval : BitVec 64
  cwp : Nat
  winuse : Nat
  ssp : BitVec 64
  ssl : BitVec 64
  hint : BitVec 64
  erej : BitVec 64
  rndst : BitVec 64
  tmrf : BitVec 64
  pwp : Nat
  spilln : Nat
  /-- ENGST0 to ENGST3, and whether each tag has a request outstanding (R358, R359). -/
  engst : List (BitVec 64)
  engBusy : List Bool
  /-- The tick at which each of the eight firmware timers falls due (R361). -/
  timers : List (Option Nat)
  /-- The sequence number of each timer's insertion (R199). -/
  timerSeqs : List Nat := List.replicate 8 0
  /-- CSR 0x100 to 0x109. -/
  counters : List (BitVec 64)
  wait : CoreWait
  /-- The sequence number of the wait's insertion in the delay lists (R199). -/
  waitSeq : Nat := 0
  /-- The register that the wait's result code goes to. -/
  waitRd : Nat
  /-- Pending events of the core's own, bits 0 to 3 (R205). -/
  events : BitVec 16
  /-- The Chain context and Link it holds. -/
  link : Option (Nat × Nat)
  /-- Byte offsets into OUT that the held Link has stored (R352). -/
  stored : List Nat
  /-- A LEND that waits for engine requests still outstanding (R356). -/
  lending : Option Nat
  lastOwner : Option Nat
  /-- Tick at which it last executed WAITW or WAITE, or started (R364). -/
  waitedAt : Nat
  /-- Tick at which ABORT was posted for the held Link (R363). -/
  abortAt : Option Nat
  halted : Bool
  /-- Direction counters, target buffer and return stack (R365, R366, R368). -/
  predictors : Predictors := Predictors.cold
  deriving DecidableEq, Repr

/-- The cores, the device's pending events and OD 0x2103 (R205, R371). -/
structure Cores where
  cores : SMap Core
  /-- Events of bits 4 to 9 posted and not delivered, one entry a posting (R205). -/
  deviceEvents : List Nat
  watchdog : Nat
  doubleTraps : BitVec 32
  abortTimeouts : BitVec 32
  handed : BitVec 64
  engineReqs : BitVec 64
  deriving DecidableEq, Repr

/-! ### Memories and access control (14) -/

/-- A background test engine: its next region, and the region under test with its start tick (R383). -/
structure TestEngine where
  next : Nat
  active : Option (Nat × Nat)
  overdue : Bool
  /-- The tick at which the last region ended. -/
  ended : Nat
  deriving DecidableEq, Repr

/-- Memory test, repair and the entries of OD 0x8000 (R375 to R387, R397). -/
structure MemTest where
  enable : Bool
  pace : Nat
  overdueTime : Nat
  /-- Engines 0 to 3 test chain memory, 4 key slots, 5 ring contexts, 6 PKE and lattice, 7 scratchpads. -/
  engines : SMap TestEngine
  tested : List (BitVec 64)
  failures : List (BitVec 32)
  overdueCount : BitVec 64
  /-- Chain-memory regions retired, in order of retirement. -/
  retired : List Nat
  corrected : List (BitVec 64)
  sparesAssigned : Nat
  deriving DecidableEq, Repr

/-- Access control: the entries of OD 0x8010 that change (R391, R393, R397). -/
structure AccessControl where
  loaded : Bool
  refusals : List (BitVec 64)
  last : Bytes
  deriving DecidableEq, Repr

/-! ### MRAM, images and the Locket (15) -/

/-- A page that is not blank: header, payload, and whether one of its words is poisoned (R399, R401). -/
structure Page where
  seq : Nat
  crc : Nat
  payload : Bytes
  poisoned : Bool
  deriving DecidableEq, Repr

/-- The regions a page write or a lost page names (R398); an image slot has one copy. -/
inductive Store
  | imageA
  | imageB
  | keys
  | log
  | locket
  | config
  deriving DecidableEq, Repr

/-- A page write that waits or runs: priority (R408), store, logical page, payload, retries (R407). -/
structure PageWrite where
  prio : Nat
  store : Store
  page : Nat
  payload : Bytes
  retried : Bool
  deriving DecidableEq, Repr

/-- What a region erase serves (R317, R428, R449, R454, R482, R547). -/
inductive ErasePurpose
  | zeroise
  | transition
  | latch
  | logClear
  | locketClear
  | peerStore
  | seed
  deriving DecidableEq, Repr

/-- An erase that runs: its store and the logical pages it still erases, first to last (R403). -/
structure Erase where
  purpose : ErasePurpose
  store : Store
  pages : List Nat
  /-- SOURCE of the event that ends what the erase serves. -/
  source : Nat
  deriving DecidableEq, Repr

/-- The MRAM and its controller (R398 to R412, OD 0x8020). -/
structure Mram where
  /-- Physical pages; one not listed is blank. -/
  pages : SMap Page
  queue : List PageWrite
  current : Option PageWrite
  erases : List Erase
  /-- Failed physical page and the spare that replaces it (R407). -/
  replaced : SMap Nat
  pwrfail : Bool
  bootCounter : BitVec 64
  active : Nat
  pendingSlot : Nat
  writes : BitVec 64
  corrected : BitVec 64
  torn : BitVec 32
  lost : BitVec 32
  deriving DecidableEq, Repr

/-- Image staging and OD 0x9000 (R421 to R423, R430). -/
structure Images where
  slotA : Nat
  slotB : Nat
  stageAddr : Nat
  stageLen : Nat
  stageResult : Nat
  timeout : Nat
  /-- The path that began the staging (R522), and whether it runs by DMA. -/
  byPath : Nat
  dma : Bool
  /-- Image bytes received in this staging: offset and data, newest first. -/
  chunks : List (Nat × Bytes)
  /-- Pages of the staged image whose write has been queued. -/
  queuedPages : List Nat
  /-- Tick at which the staging timer expires. -/
  stageDue : Option Nat
  inactiveVersion : Nat
  runningVersion : Nat
  runningSecurity : Nat
  /-- Opcodes of group 0xB that the running image lists, and which of them declare a verify result. -/
  firmwareOps : List (Nat × Bool)
  activationResult : Nat
  /-- Length and host address in force when the begin action executed (R521). -/
  imageLen : Nat := 0
  imageAddr : Nat := 0
  deriving DecidableEq, Repr

/-- The Locket and OD 0x6300 (R424 to R428). -/
structure Locket where
  records : Nat
  statement : Bytes
  covers : Bool
  clearResult : Nat
  /-- The boot record held pending (R425), as far as its signature. -/
  pendingRecord : Option Bytes
  tailFound : Bool
  /-- This boot's record has been queued as the next record. -/
  recordQueued : Bool
  deriving DecidableEq, Repr

/-! ### Security die, tamper and life cycle (16, 20) -/

/-- The pair record beside vault slot 2 (R546). -/
structure PairRecord where
  peer : Nat
  deriving DecidableEq, Repr

/-- What the battery keeps, besides the vault (R19, R431 to R435, R453, R470, R539, R546, R549, R574). -/
structure SecurityDie where
  deviceTime : BitVec 64
  sticky : Nat
  extArmed : Nat
  sealArmed : Bool
  latch : BitVec 64
  sigValue : BitVec 64
  sigComplement : BitVec 64
  lightDisagreements : BitVec 32
  decisionDisagreements : BitVec 32
  lastResponse : BitVec 64
  lastSource : Nat
  responses : BitVec 32
  reopenings : BitVec 32
  lastFatal : Nat
  lastFatalTime : BitVec 64
  escalations : Nat
  pair : Option PairRecord
  generation : BitVec 64
  genSide : Nat
  takings : BitVec 32
  lastTaking : BitVec 64
  domainId : Nat
  member : Nat
  issued : List Nat
  /-- It draws from VDD_AON, and not from VBAT (R20). -/
  onMain : Bool
  deriving DecidableEq, Repr

/-- The decisions of R438, in the order event 0x0304 numbers them. -/
inductive Decision
  | tamper (source : Nat)
  | lifeCycle
  | debugEnable
  | presence (input : Nat)
  | signature (staged : Bool)
  | keyExport (chain link : Nat)
  deriving DecidableEq, Repr

/-- Tamper response and the entries of OD 0x6000 that no battery keeps (R431 to R445). -/
structure Tamper where
  live : Nat
  /-- First decisions whose second has still to be taken, with their outcomes. -/
  decisions : List (Decision × Bool)
  /-- Arming asked for and not yet in effect: external pairs, seal loop (R434). -/
  arming : Option (Nat × Bool)
  unlockResult : Nat
  /-- µs since a source was last live, while the root is still erased (R304). -/
  quietFor : Nat
  /-- The reload of step 6 of the unlock is running (R445). -/
  reloading : Bool
  /-- The light detector asserted alone, the Device Time since when, and whether its event has been appended (R436). -/
  lightAlone : Option (Nat × Nat × Bool) := none
  deriving DecidableEq, Repr

/-- A transition of the life cycle in progress (R449). -/
structure Transition where
  fromState : LifeCycle
  target : LifeCycle
  /-- Bits of bank 0 still to blow, in order: L first to last after the intent field. -/
  bits : List Nat
  attempts : Nat
  skipped : Nat
  /-- A bit is being blown (R449). -/
  running : Bool
  /-- SOURCE of its event. -/
  source : Nat
  deriving DecidableEq, Repr

/-- The life-cycle fuses and OD 0x1100 (R446 to R455). -/
structure Life where
  state : LifeCycle
  /-- Blown bits of bank 0: L[255:0], then the three intent fields. -/
  bank0 : BitVec 280
  secver : BitVec 64
  /-- Next bit of the security version to blow, and the version before the advance (R416). -/
  advance : Option (Nat × Nat)
  transition : Option Transition
  transitionResult : Nat
  latchResult : Nat
  skipped : Nat
  /-- Tick at which a ceremony's warm reset is due (R449, R454). -/
  resetDue : Option Nat
  /-- DEBUG-OPEN as start-up decided it (R453). -/
  debugOpen : Bool
  /-- The decision on debug disagreed: the port stays closed (R438). -/
  portClosed : Bool
  deriving DecidableEq, Repr

/-- The fused constants of the part (R4, R455, R528, R605). -/
structure Fuses where
  grade : Grade
  /-- Bank 2 as fused. The rule gives its contents, the grade and the units fused off, and no bit places: DESIGN CHOICE, the model
  keeps the bank's bits beside the grade, which no programming of the bank changes (R455; assumption 20). -/
  gradeBank : BitVec 64
  serial : BitVec 64
  dateCode : BitVec 32
  wafer : BitVec 32
  vendorId : BitVec 16
  deviceId : BitVec 16
  bootRom : BitVec 32
  tempGrade : Nat
  manufacturer : Nat
  stepping : Nat
  /-- SHA-384 digests of the two image keys (R415). -/
  ecdsaDigest : Bytes
  mldsaDigest : Bytes
  helper : Bytes
  repair : Bytes
  repairs : Nat
  /-- Region entries: table t (A0 to A11, then T0 to T7), entry e at 16t + e. -/
  regions : SMap (BitVec 64)
  matrix : BitVec 192
  /-- The CRC-32C fused after each bank but LC and SECVER (R455). -/
  crcs : SMap (BitVec 32)
  /-- Banks whose check failed at the last reset (R456). -/
  badBanks : List Nat
  deriving DecidableEq, Repr

/-! ### Faults and the Event Log (17) -/

/-- A fault record (R462) and the units its response withdrew (R473). -/
structure FaultRecord where
  code : Nat
  index : Nat
  state : Nat
  merges : Nat
  sources : Nat
  lastCode : Nat
  lastIndex : Nat
  first : BitVec 64
  last : BitVec 64
  args : Bytes
  units : List (Nat × Nat)
  /-- Units whose test after the clear has still to end. -/
  testing : List (Nat × Nat)
  /-- Tick at which it opened (R470). -/
  opened : Nat
  deriving DecidableEq, Repr

/-- The fault controller and OD 0x6100 (R462 to R473). -/
structure Faults where
  records : SMap FaultRecord
  /-- Withdrawn units: unit code and index (R467). -/
  withdrawn : List (Nat × Nat)
  corrected : List (BitVec 64)
  /-- Corrected counts in the running Device Time second, and that second. -/
  inSecond : List Nat
  second : Nat
  /-- Unit codes whose threshold event stands for that second (R465). -/
  noted : List Nat
  threshold : Nat
  withoutRecord : BitVec 32
  delay : Nat
  clearResult : Nat
  /-- The delay of R470 has run out and event 0x0205 is staged. -/
  escalating : Bool
  /-- Tick by which the reset no longer waits for the log (R470). -/
  escalateBy : Nat
  /-- Number of the escalation event, after which the reset waits for nothing (R470). -/
  escalateEvent : Nat
  deriving DecidableEq, Repr

/-- An event staged for the log (R474, R475). -/
structure LogEvent where
  time : BitVec 64
  code : Nat
  source : Nat
  boot : Nat
  args : Bytes
  deriving DecidableEq, Repr

/-- The Event Log and OD 0x6200 (R474 to R484). -/
structure EventLog where
  records : Nat
  nextSeq : BitVec 32
  last : Bytes
  staged : List LogEvent
  /-- Events missed since the queue filled, for the missed-events record (R475). -/
  missed : Nat
  notRecorded : BitVec 64
  sinceClear : BitVec 32
  statement : Bytes
  covers : Bool
  /-- Tick at which the hold ends, while one is in force (R481). -/
  hold : Option Nat
  holdTime : Nat
  clearResult : Nat
  /-- The next record appended is the 90 % warning (R480). -/
  warn : Bool
  tailFound : Bool
  /-- Events ever staged, and those whose page write has still to end: an event is durable once all up to it are. -/
  total : Nat
  inFlight : Nat
  deriving DecidableEq, Repr

/-! ### Custody bus and presence (18) -/

/-- The states of a session (R494). -/
inductive Session
  | none
  | opening
  | opened
  deriving DecidableEq, Repr

/-- An enrolment under way: console number, key, label, and whether it opens a session (R491). -/
structure Enrolment where
  console : Nat
  key : Bytes
  label : Bytes
  opens : Bool
  kmac : Bytes
  mac : Bytes
  due : Nat
  deriving DecidableEq, Repr

/-- The custody controller, presence and ceremonies (R485 to R507). -/
structure Custody where
  linkUp : Bool
  plcaNode : Nat
  plcaCount : Nat
  /-- PLCA settings written in the session and not yet in effect (R485). -/
  newPlca : Option (Nat × Nat)
  session : Session
  console : Nat
  sessionId : Nat
  kmac : Bytes
  kwrap : Bytes
  peerMac : Bytes
  seq : Nat
  cached : Bytes
  tagFails : Nat
  /-- The console in session has been removed: the session closes once the reply is sent (R492). -/
  closing : Bool
  /-- Tick by which an opening session must be confirmed, or an open one hear a frame. -/
  due : Nat
  idle : Nat
  enrol : Option Enrolment
  /-- Console labels as enrolled. -/
  labels : SMap Bytes
  rejected : BitVec 64
  opened : BitVec 32
  /-- Device Time of validation of each input, while validated: the security die samples them (R499, R500). -/
  presA : Option Nat
  presB : Option Nat
  dual : Bool
  ceremony : Nat
  ceremonyResult : Nat
  /-- Tick at which ceremony 3 opened (R491). -/
  ceremonyAt : Nat
  components : List Bytes
  loadTarget : Nat
  loadAttr : Nat
  loadCount : Nat
  lastKcv : Bytes
  loadResult : Nat
  /-- Device Time of the last ANNOUNCE (R489). -/
  announcedAt : Option Nat := none
  deriving DecidableEq, Repr

/-! ### Object dictionary (19) -/

/-- The per-path entries of one path (R521). -/
structure PathSel where
  cert : Nat
  readOffset : Nat
  readShadow : Bool
  vaultSel : Nat
  faultSel : Nat
  logSel : Nat
  locketSel : Nat
  consoleSel : Nat
  tableSel : Nat
  deriving DecidableEq, Repr

/-- An answer that waits for pages to be durable or for the peer (R524, R557). -/
structure HeldReply where
  path : Path
  slot : Nat
  seq : Nat
  result : Nat
  value : Bytes
  pages : List (Store × Nat)
  records : List Nat
  /-- Number of the event that must be durable first, 0 for none. -/
  event : Nat
  deriving DecidableEq, Repr

/-- What the dictionary service keeps (R519 to R530). -/
structure Dictionary where
  paths : SMap PathSel
  held : List HeldReply
  /-- Certificate data bytes written: offset and data, newest first (R529). -/
  certData : List (Nat × Bytes)
  certResult : Nat
  board : Bytes
  /-- Subsystem vendor ID and subsystem ID, as start-up loaded them (R528, R530). -/
  subsystem : Bytes
  configSource : Nat
  deriving DecidableEq, Repr

/-! ### Pairs and domains (20) -/

/-- A record replicated and not yet acknowledged (R557, R558). -/
structure SentRecord where
  number : Nat
  kind : Nat
  content : Bytes
  queuedAt : Nat
  deriving DecidableEq, Repr

/-- A binding under way (R545, R546). -/
structure Binding where
  source : Bool
  ephemeral : Bytes
  peerPoint : Bytes
  key : Bytes
  due : Nat
  deriving DecidableEq, Repr

/-- A control frame repeated until it is acknowledged (R537): type, body, first and last sending, FSEQ then
acknowledged. -/
structure Repeated where
  kind : Nat
  body : Bytes
  firstAt : Nat
  lastAt : Nat
  seen : Nat
  deriving DecidableEq, Repr

/-- The Clasp link and its session (R533 to R537). -/
structure Clasp where
  /-- 0 down, 1 training, 2 up without a session, 3 unbound session, 4 bound session. -/
  link : Nat
  lanes : Nat
  myHello : Bytes
  peerHello : Option Bytes
  confSent : Bool
  txKey : Bytes
  rxKey : Bytes
  bindKey : Bytes
  txSeq : Nat
  rxSeq : Nat
  fails : Nat
  rejected : BitVec 64
  repeated : List Repeated
  deriving DecidableEq, Repr

/-- The pair: sync state, lease, replication and OD 0x7000 (R545 to R567). -/
structure Twin where
  /-- TWIN_SIDE as sampled (R591). -/
  side : Nat
  holder : Bool
  /-- The entry 0x7000:02 of a bound part, 1 to 4 (R549). -/
  sync : Nat
  /-- The peer's sync state as this holder knows it: 1 Detached, 2 Resynchronising, 3 in sync. -/
  peerSync : Nat
  renewal : Nat
  /-- Renewals sent and not acknowledged: number and tick. -/
  renewSent : List (Nat × Nat)
  renewDue : Nat
  leaseEnd : Nat
  takeoverAt : Nat
  inSyncAt : Nat
  renewSeen : Bool
  /-- A takeover time passed with AUDIT-HOLD alone in the way (R553). -/
  holdStopped : Bool
  nextRecord : Nat
  unacked : List SentRecord
  ackedTo : Nat
  /-- Highest record that the standby acknowledges in RSEQ, and the highest it has taken in. -/
  applied : Nat
  processed : Nat
  /-- Records taken in whose pages or event are not yet durable: number, pages, number of the event. -/
  ackWaits : List (Nat × List (Store × Nat) × Nat)
  /-- A vault slot's masked value whose mask has still to come: slot, attribute word, value (R558). -/
  vaultHalf : Option (Nat × Nat × Bytes)
  binding : Option Binding
  /-- Public key and tick of a BIND_REQ that came before this part's own action (R545). -/
  offer : Option (Bytes × Nat)
  actionResult : Nat
  drain : Nat
  drainDue : Option Nat
  resyncStart : Nat
  resyncItems : Nat
  recordsSent : BitVec 64
  recordsApplied : BitVec 64
  longest : Nat
  revoked : BitVec 64
  deriving DecidableEq, Repr

/-- Domain actions and OD 0x7100 (R539 to R544, R568). -/
structure Domain where
  result : Nat
  candKey : Bytes
  candSerial : Nat
  memberReq : Nat
  packageOut : Bytes
  packageIn : Bytes
  deriving DecidableEq, Repr

/-! ### Start-up, pins and telemetry (21, 22) -/

/-- The stages of a reset and the start-up after it (R576 to R578). -/
inductive Phase
  /-- Reset asserted, or main power absent. -/
  | inReset
  /-- Released, straps and fuses read; the PLLs are not yet locked. -/
  | released
  /-- BLANK: start-up has stopped and the boot ROM serves provisioning. -/
  | provisioning
  /-- Locked PLLs, memories cleared, boot counter written; the first seed is awaited. -/
  | seeding
  /-- Boot images are being verified. -/
  | verifying
  /-- The firmware runs; tails, boot record and reload are awaited. -/
  | loading
  /-- A Fatal fault or an RNG failure has stopped start-up. -/
  | stopped
  | recovery
  | complete
  deriving DecidableEq, Repr

/-- Start-up's own record of the boot (R418, R425, R574, R577). -/
structure Boot where
  phase : Phase
  /-- A cold reset is in force: a main supply is absent. -/
  cold : Bool
  /-- BOOT_COUNTER of this boot is durable (R418 step 1). -/
  counterDurable : Bool
  /-- Locket FLAGS of this boot, but for DEBUG-OPEN and LOCKED. -/
  flags : Nat
  slot : Nat
  /-- SHA-384 over the booted image (R424). -/
  imageDigest : Bytes
  imageVersion : Nat
  imageSecurity : Nat
  /-- Image slots that this boot has verified and not accepted, with their check codes (R415, R418). -/
  rejected : List (Nat × Nat)
  /-- The security version of the booted image has been advanced to (R416). -/
  advanced : Bool
  /-- Device Time at the last tick edge, which refreshes the compute-die watchdog (R572). -/
  watchdogAt : Nat
  deriving DecidableEq, Repr

/-- Pin levels the part drives or reads (R471, R472, R589, R606). -/
structure Pins where
  faultN : Bool
  svcOk : Bool
  tamperN : Bool
  smbAlertN : Bool
  /-- Levels that EXTEST or CLAMP drives from the boundary register, while one is in force (R605). -/
  boundary : Option Bytes
  deriving DecidableEq, Repr

/-- The SMBus target's values, as last updated (R606, R607). -/
structure Telemetry where
  temperature : BitVec 16
  power : BitVec 16
  status : BitVec 8
  deriving DecidableEq, Repr

/-- The debug port's instruction register and boundary register (R605). -/
structure Tap where
  instruction : Nat
  shift : Bytes
  boundary : Bytes
  deriving DecidableEq, Repr

/-! ### What leaves the part -/

/-- A transfer, message or frame that the part has sent. -/
inductive Sent
  | memRead (fn addr len : Nat)
  | memWrite (fn addr : Nat) (data : Bytes)
  | msix (fn vector : Nat) (address : BitVec 64) (data : BitVec 32)
  | aer (fn kind : Nat)
  | barRead (fn offset : Nat) (data : Bytes)
  | llyno (dest : Bytes) (frame : Bytes)
  | clasp (frame : Bytes)
  | smbus (data : Bytes)
  | tap (data : Bytes)
  | doe (data : Bytes)
  deriving DecidableEq, Repr

/-- The ordering attributes of a TLP: Relaxed Ordering, ID-Based Ordering, No Snoop (R232). -/
structure TlpOrder where
  relaxed : Bool
  idBased : Bool
  noSnoop : Bool
  deriving DecidableEq, Repr

/-! ### Reset values -/

/-- A core after a unit, warm or cold reset (R343, R365, R369). -/
def Core.reset : Core :=
  { globals := List.replicate 16 0, windows := [], pc := 0, tcause := 0, epc := 0, tval := 0, cwp := 0,
    winuse := 1, ssp := 0, ssl := 0, hint := 0xF, erej := 0, rndst := 0, tmrf := 0, pwp := 0, spilln := 0,
    engst := List.replicate 4 0, engBusy := List.replicate 4 false, timers := List.replicate 8 none,
    counters := List.replicate 10 0, wait := .running, waitRd := 0, events := 0, link := none, stored := [], lending := none,
    lastOwner := none, waitedAt := 0, abortAt := none, halted := false,
    predictors := Predictors.cold }

/-- Every core at its reset value, OD 0x2103 at its defaults (R371). -/
def Cores.reset : Cores :=
  { cores := [], deviceEvents := [], watchdog := 100000, doubleTraps := 0, abortTimeouts := 0, handed := 0,
    engineReqs := 0 }

/-- An engine that starts at region 0 (R383). -/
def TestEngine.reset : TestEngine := { next := 0, active := none, overdue := false, ended := 0 }

/-- OD 0x8000 at its defaults, every engine at region 0 (R383, R397). -/
def MemTest.reset : MemTest :=
  { enable := true, pace := 100, overdueTime := 10000, engines := [], tested := List.replicate 5 0,
    failures := List.replicate 5 0, overdueCount := 0, retired := [], corrected := List.replicate 5 0,
    sparesAssigned := 0 }

/-- Tables not yet loaded, no refusal (R391, R397). -/
def AccessControl.reset : AccessControl :=
  { loaded := false, refusals := List.replicate 12 0, last := List.replicate 16 0 }

/-- A blank page (R402). -/
def Page.blank : Page := { seq := 0, crc := 0, payload := List.replicate 504 0, poisoned := false }

/-- A blank MRAM with nothing queued; no selector page yet, so PENDING names no slot (R398, R417, R430). -/
def Mram.reset : Mram :=
  { pages := [], queue := [], current := none, erases := [], replaced := [], pwrfail := false, bootCounter := 0,
    active := 0, pendingSlot := 0xFF, writes := 0, corrected := 0, torn := 0, lost := 0 }

/-- No staging, both slots EMPTY, OD 0x9000 at its defaults (R430). -/
def Images.reset : Images :=
  { slotA := 0, slotB := 0, stageAddr := 0, stageLen := 0, stageResult := 0, timeout := 10000000, byPath := 0,
    dma := false, chunks := [], queuedPages := [], stageDue := none, inactiveVersion := 0, runningVersion := 0,
    runningSecurity := 0, firmwareOps := [], activationResult := 0 }

/-- No statement, no pending record (R430). -/
def Locket.reset : Locket :=
  { records := 0, statement := List.replicate 192 0, covers := false, clearResult := 0, pendingRecord := none,
    tailFound := false, recordQueued := false }

/-- The battery domain as R435 initialises it; the signature is not yet written. -/
def SecurityDie.reset : SecurityDie :=
  { deviceTime := 0, sticky := 0, extArmed := 0, sealArmed := false, latch := 0, sigValue := 0,
    sigComplement := 0, lightDisagreements := 0, decisionDisagreements := 0, lastResponse := 0,
    lastSource := 0xFF, responses := 0, reopenings := 0, lastFatal := 0, lastFatalTime := 0, escalations := 0,
    pair := none, generation := 0, genSide := 0, takings := 0, lastTaking := 0, domainId := 0, member := 0,
    issued := [], onMain := true }

/-- No source live, no decision open (R458). -/
def Tamper.reset : Tamper :=
  { live := 0, decisions := [], arming := none, unlockResult := 0, quietFor := 0, reloading := false }

/-- The bits of bank 0 blown in a PRODUCTION part: S_T, S_P and the intents of TEST and PRODUCTION (R446). -/
def Life.productionBank : BitVec 280 :=
  BitVec.ofNat 280 (((List.range 64).map fun i => 2 ^ (4 * i) + 2 ^ (4 * i + 2)).foldl (· + ·) 0
    + 0xFFFF * 2 ^ 256)

/-- A PRODUCTION part with its debug latch closed (R452, R615). -/
def Life.reset : Life :=
  { state := .production, bank0 := Life.productionBank, secver := 0, advance := none, transition := none,
    transitionResult := 0, latchResult := 0, skipped := 0, resetDue := none, debugOpen := false,
    portClosed := false }

/-- Region entry of pages `base` to `limit` with access bits and initiators (R389). -/
def regionEntry (access base limit initiators : Nat) : BitVec 64 :=
  BitVec.ofNat 64 (1 + access * 2 + base * 2 ^ 4 + limit * 2 ^ 28 + initiators * 2 ^ 52)

/-- First and last page of targets T0 to T7 (R388). -/
def targetPages : List (Nat × Nat) :=
  [(0x0, 0x7FF), (0x40000, 0x40FFF), (0x10000, 0x11801), (0x20000, 0x204FF), (0x30000, 0x303FF),
   (0x50000, 0x5FFFF), (0x60000, 0x6FFFF), (0x70000, 0x7FFFF)]

/-- The path matrix of R390, row by row: 0 closed, 1 M, 2 G, 3 B. -/
def pathCodes : List (List Nat) :=
  [[3, 0, 1, 0, 0, 0, 0, 0], [1, 0, 0, 0, 0, 0, 0, 0], [1, 0, 0, 0, 0, 0, 0, 0], [1, 0, 0, 1, 0, 0, 0, 0],
   [1, 0, 0, 0, 0, 0, 0, 0], [2, 3, 2, 0, 3, 3, 2, 0], [0, 3, 0, 0, 0, 0, 3, 3], [0, 0, 0, 0, 2, 0, 0, 0],
   [3, 3, 3, 3, 3, 3, 3, 0], [0, 0, 0, 0, 0, 2, 0, 0], [0, 0, 0, 0, 0, 2, 0, 0], [0, 0, 0, 0, 2, 2, 0, 0]]

/-- The path code of master `i` to target `j` (R390). -/
def pathCode (i j : Nat) : Nat := (pathCodes.getD i []).getD j 0

/-- The matrix as OD 0x8010:03 shows it: two bits a path at 16i + 2j (R397). -/
def pathMatrix : BitVec 192 :=
  BitVec.ofNat 192 (((List.range 12).flatMap fun i => (List.range 8).map fun j =>
    pathCode i j * 2 ^ (16 * i + 2 * j)).foldl (· + ·) 0)

/-- Masters that the gate of target `j` checks, as INITIATORS (R389, R390). -/
def gateInitiators (j : Nat) : Nat :=
  ((List.range 12).filter fun i => pathCode i j ≥ 2).foldl (fun a i => a + 2 ^ i) 0

/-- The region tables the model takes as fused: one region a target, with fetches
permitted in the scratchpads (DESIGN CHOICE, assumption 21). -/
def regionTables : SMap (BitVec 64) :=
  ((List.range 12).flatMap fun i =>
    ((List.range 8).filter fun j => pathCode i j % 2 == 1).map fun j =>
      let p := targetPages.getD j (0, 0)
      (16 * i + j, regionEntry (if i == 5 && j == 4 then 7 else 3) p.1 p.2 0)) ++
  ((List.range 8).map fun j =>
    let p := targetPages.getD j (0, 0)
    (16 * (12 + j), regionEntry (if j == 4 then 7 else 3) p.1 p.2 (gateInitiators j)))

/-- The checks of the banks of `Fuses.initial`: CRC-32C with the bank number as initial value (R455, R616). -/
def fuseCrcs : SMap (BitVec 32) := [(1, 234091009), (2, 1837565361), (4, 3820378480), (5, 3170276357), (6, 4034961357), (7, 2407019852)]

/-- The fused constants the model takes, an SK9120 of serial number 0 (DESIGN CHOICE, assumption 20). -/
def Fuses.initial : Fuses :=
  { grade := .sk9120, gradeBank := 0, serial := 0, dateCode := 0, wafer := 0, vendorId := 0, deviceId := 0, bootRom := 0,
    tempGrade := 0, manufacturer := 0, stepping := 0, ecdsaDigest := List.replicate 48 0,
    mldsaDigest := List.replicate 48 0, helper := List.replicate 512 0, repair := List.replicate 1024 0,
    repairs := 0, regions := regionTables, matrix := pathMatrix, crcs := fuseCrcs, badBanks := [] }

/-- No record, no unit withdrawn, OD 0x6100 at its defaults (R462, R484). -/
def Faults.reset : Faults :=
  { records := [], withdrawn := [], corrected := List.replicate 17 0, inSecond := List.replicate 17 0,
    second := 0, noted := [], threshold := 100, withoutRecord := 0, delay := 10, clearResult := 0, escalating := false,
    escalateBy := 0, escalateEvent := 0 }

/-- An empty log that next appends SEQ 1, OD 0x6200 at its defaults (R474, R484). -/
def EventLog.reset : EventLog :=
  { records := 0, nextSeq := 1, last := List.replicate 64 0, staged := [], missed := 0, notRecorded := 0,
    sinceClear := 0, statement := List.replicate 192 0, covers := false, hold := none, holdTime := 60,
    clearResult := 0, warn := false, tailFound := false, total := 0, inFlight := 0 }

/-- The custody bus with its link down and no session, OD 0x3003, 0x7800, 0x7801 and 0x7810 at their defaults
(R507). -/
def Custody.reset : Custody :=
  { linkUp := false, plcaNode := 0xFF, plcaCount := 8, newPlca := none, session := .none, console := 0xFF,
    sessionId := 0, kmac := [], kwrap := [], peerMac := [], seq := 0, cached := [], tagFails := 0, closing := false, due := 0,
    idle := 60, enrol := none, labels := [], rejected := 0, opened := 0, presA := none, presB := none,
    dual := false, ceremony := 0, ceremonyResult := 0, ceremonyAt := 0, components := [], loadTarget := 8,
    loadAttr := 0, loadCount := 2, lastKcv := [0, 0, 0], loadResult := 0 }

/-- Per-path entries at their defaults (R521). -/
def PathSel.reset : PathSel :=
  { cert := 0, readOffset := 0, readShadow := false, vaultSel := 8, faultSel := 0, logSel := 0, locketSel := 0,
    consoleSel := 0, tableSel := 0 }

/-- The dictionary service with no answer held and blank board data (R525, R527, R528). -/
def Dictionary.reset : Dictionary :=
  { paths := [], held := [], certData := [], certResult := 0, board := List.replicate 64 0,
    subsystem := [0, 0, 0, 0], configSource := 1 }

/-- The Clasp link down (R533). -/
def Clasp.reset : Clasp :=
  { link := 0, lanes := 0, myHello := [], peerHello := none, confSent := false, txKey := [], rxKey := [],
    bindKey := [], txSeq := 0, rxSeq := 0, fails := 0, rejected := 0, repeated := [] }

/-- An unbound part that holds no Signet, OD 0x7000 at its defaults (R567, R581). -/
def Twin.reset : Twin :=
  { side := 0, holder := false, sync := 0, peerSync := 1, renewal := 0, renewSent := [], renewDue := 0,
    leaseEnd := 0, takeoverAt := 0, inSyncAt := 0, renewSeen := false, holdStopped := false, nextRecord := 1,
    unacked := [], ackedTo := 0, applied := 0, processed := 0, ackWaits := [], vaultHalf := none, binding := none,
    offer := none, actionResult := 0, drain := 1000, drainDue := none, resyncStart := 0, resyncItems := 0,
    recordsSent := 0, recordsApplied := 0, longest := 0, revoked := 0 }

/-- OD 0x7100 at its defaults (R568). -/
def Domain.reset : Domain :=
  { result := 0, candKey := List.replicate 97 0, candSerial := 0, memberReq := 0,
    packageOut := List.replicate 192 0, packageIn := List.replicate 192 0 }

/-- A part whose reset is still asserted. -/
def Boot.reset : Boot :=
  { phase := .inReset, cold := false, counterDurable := false, flags := 0, slot := 0,
    imageDigest := List.replicate 48 0, imageVersion := 0, imageSecurity := 0, rejected := [], advanced := false,
    watchdogAt := 0 }

/-- Pin levels in reset: FAULT_N released, SVC_OK low, TAMPER_N and SMB_ALERT_N released (R589). -/
def Pins.reset : Pins := { faultN := true, svcOk := false, tamperN := true, smbAlertN := true, boundary := none }

/-- Telemetry before the first sample: 0x7FFF, no power, STALE (R607). -/
def Telemetry.reset : Telemetry := { temperature := 0x7FFF, power := 0, status := 1 }

/-- The test access port in Test-Logic-Reset, with IDCODE selected (R605). -/
def Tap.reset : Tap := { instruction := 1, shift := [], boundary := [] }

end Sys2Proof.Machine
end

