-- ==== Sys2Proof/Machine/State.lean ====
section
/-!
DEFINITION. The whole state of the block, as plain data, and its value at reset; the ways a step can stop.
-/
namespace Sys2Proof.Machine

/-- The faults a step can end in. The spec names no condition on which the block stops: its own faults, Fatal
ones too, are states it goes on from. `none` therefore has no constructor that a command raises; a run that
meets `absent` has met a defect of the model (safe: nothing follows from it). -/
inductive Fault
  /-- Raised by no command. Safe. -/
  | absent
  deriving DecidableEq, Repr

/-- The refusals a step can end in. -/
inductive Refusal
  /-- Raised by an arm of `exec` whose command has no meaning yet. Safe. -/
  | notModelled (mnemonic : String)
  deriving DecidableEq, Repr

/-- The block: every register, memory, queue, mode and pin the spec gives it, what it has sent, and the
commands that wait. -/
structure State where
  modes : Modes
  fuses : Fuses
  boot : Boot
  disp : Dispatcher
  /-- Chain memory: byte j of buffer b at 256b + j; a byte not listed is zero (R372, R378). -/
  chainMem : List Host.Cell
  /-- Fife scratchpads: byte j of core c at 0x4_0000 c + j; a byte not listed is zero (R372, R378). -/
  scratch : List Host.Cell
  epochs : Epochs
  engines : Engines
  energy : Energy
  flow : Flow
  host : HostIf
  tenants : Tenants
  keys : KeyStore
  rng : Rng
  cores : Cores
  memTest : MemTest
  access : AccessControl
  mram : Mram
  images : Images
  locket : Locket
  sec : SecurityDie
  tamper : Tamper
  life : Life
  faults : Faults
  log : EventLog
  custody : Custody
  dict : Dictionary
  clasp : Clasp
  twin : Twin
  domain : Domain
  pins : Pins
  telemetry : Telemetry
  tap : Tap
  /-- Everything the part has sent, newest first. -/
  sent : List Sent
  /-- Result code and value of the last dictionary access made without a mailbox message or frame. -/
  reply : Nat × Bytes
  /-- Free values taken so far (the model's own; no rule of the spec). -/
  freeUses : Nat
  /-- The commands that wait, first in first out (the model's own). -/
  pending : List Instr
  deriving DecidableEq, Repr

/-- The part under a warm or cold reset, before its release: every entry at its reset value, memories clear,
nothing listed in MRAM. -/
def State.reset : State :=
  { modes := Modes.reset, fuses := Fuses.initial, boot := Boot.reset, disp := Dispatcher.reset, chainMem := [],
    scratch := [], epochs := Epochs.reset, engines := Engines.reset, energy := Energy.reset, flow := Flow.reset,
    host := HostIf.reset, tenants := Tenants.reset, keys := KeyStore.reset, rng := Rng.reset,
    cores := Cores.reset, memTest := MemTest.reset, access := AccessControl.reset, mram := Mram.reset,
    images := Images.reset, locket := Locket.reset, sec := SecurityDie.reset, tamper := Tamper.reset,
    life := Life.reset, faults := Faults.reset, log := EventLog.reset, custody := Custody.reset,
    dict := Dictionary.reset, clasp := Clasp.reset, twin := Twin.reset, domain := Domain.reset,
    pins := Pins.reset, telemetry := Telemetry.reset, tap := Tap.reset, sent := [], reply := (0, []),
    freeUses := 0, pending := [] }

end Sys2Proof.Machine
end

