-- ==== Sys2Proof/Machine/Tables.lean ====
section
/-!
DEFINITION. Sparse tables and memories in one canonical form: keys strictly rising, and no entry equal to
what an unlisted key reads as. Every table and memory of the state is read and written through these.
-/
namespace Sys2Proof.Machine

/-- The entry of `k`, when it is listed. -/
def SMap.find {α : Type} (m : SMap α) (k : Nat) : Option α :=
  match m with
  | [] => none
  | (k', v) :: t => if k' = k then some v else SMap.find t k

/-- The entry of `k`, or `d` when it is not listed. -/
def SMap.get {α : Type} (d : α) (m : SMap α) (k : Nat) : α := (SMap.find m k).getD d

/-- Lists `v` at `k`. -/
def SMap.put {α : Type} (m : SMap α) (k : Nat) (v : α) : SMap α :=
  match m with
  | [] => [(k, v)]
  | (k', v') :: t =>
    if k < k' then (k, v) :: (k', v') :: t
    else if k = k' then (k, v) :: t
    else (k', v') :: SMap.put t k v

/-- Unlists `k`. -/
def SMap.erase {α : Type} (m : SMap α) (k : Nat) : SMap α := m.filter fun kv => decide (kv.1 ≠ k)

/-- Makes `k` read as `v` in a table whose unlisted keys read as `d`. -/
def SMap.set {α : Type} [DecidableEq α] (d : α) (m : SMap α) (k : Nat) (v : α) : SMap α :=
  if v = d then SMap.erase m k else SMap.put m k v

/-- Changes what `k` reads as by `f`. -/
def SMap.modify {α : Type} [DecidableEq α] (d : α) (m : SMap α) (k : Nat) (f : α → α) : SMap α :=
  SMap.set d m k (f (SMap.get d m k))

/-- Changes the entry of `k`, if it is listed. -/
def SMap.adjust {α : Type} (m : SMap α) (k : Nat) (f : α → α) : SMap α :=
  match SMap.find m k with
  | some v => SMap.put m k (f v)
  | none => m

/-- Changes every listed entry. -/
def SMap.mapValues {α β : Type} (m : SMap α) (f : Nat → α → β) : SMap β := m.map fun kv => (kv.1, f kv.1 kv.2)

/-- Keeps the listed entries that `p` accepts. -/
def SMap.keep {α : Type} (m : SMap α) (p : Nat → α → Bool) : SMap α := m.filter fun kv => p kv.1 kv.2

/-- Keys strictly rising from `lo` on. -/
def SMap.rising {α : Type} (lo : Nat) : SMap α → Bool
  | [] => true
  | (k, _) :: t => decide (lo ≤ k) && SMap.rising (k + 1) t

/-- The canonical form of a table whose unlisted keys read as `d`. -/
def SMap.wf {α : Type} [DecidableEq α] (d : α) (m : SMap α) : Bool :=
  SMap.rising 0 m && m.all fun kv => decide (kv.2 ≠ d)

/-- The byte at `a`; a byte not listed is zero (R378). -/
def Memory.read (m : List Host.Cell) (a : Nat) : Byte := SMap.get 0 m a

/-- Writes one byte; a zero is not listed. -/
def Memory.write (m : List Host.Cell) (a : Nat) (v : Byte) : List Host.Cell := SMap.set 0 m a v

/-- The `n` bytes from `a` on. -/
def Memory.readN (m : List Host.Cell) (a n : Nat) : Bytes := (List.range n).map fun i => Memory.read m (a + i)

/-- Writes bytes from `a` on. -/
def Memory.writeN (m : List Host.Cell) (a : Nat) (data : Bytes) : List Host.Cell :=
  match data with
  | [] => m
  | b :: t => Memory.writeN (Memory.write m a b) (a + 1) t

/-- Clears `n` bytes from `a` on. -/
def Memory.clear (m : List Host.Cell) (a n : Nat) : List Host.Cell :=
  m.filter fun c => !(decide (a ≤ c.1) && decide (c.1 < a + n))

/-- The canonical form of a memory: addresses strictly rising, no byte listed as zero. -/
def Memory.wf (m : List Host.Cell) : Bool := SMap.wf (0 : Byte) m

end Sys2Proof.Machine
end

