-- ==== Sys2Proof/Machine/Flags.lean ====
section
/-!
DEFINITION. Every mode, flag and pin level as a function of the rest of the state (R33 to R43, R444, R453, R471, R472, R605).
-/
namespace Sys2Proof.Machine

/-! ### Conditions (R33 to R43) -/

/-- The Event Log holds 65,536 records (R479). -/
def evlogFull (s : State) : Bool := decide (s.log.records ≥ 65536)

/-- This boot's record is held pending (R425). -/
def locketFull (s : State) : Bool := s.locket.pendingRecord.isSome

/-- LOCKED: a sticky flag stands, or the life-cycle state is INVALID (R38, R445, R450). -/
def lockedNow (s : State) : Bool := decide (s.sec.sticky ≠ 0) || decide (s.life.state = .invalid)

/-- Sources of class 2, bits 0 to 5 (R431). -/
def classTwoMask : Nat := 0x3F

/-- LOCK_CAUSE, the strongest of the causes that stand (R34). -/
def lockCauseNow (s : State) : BitVec 2 :=
  if s.life.state = .invalid then 3
  else if s.sec.sticky &&& classTwoMask ≠ 0 then 2
  else if s.sec.sticky ≠ 0 then 1
  else 0

/-- A record of class Fatal (bits [15:14] of its code are 11, R459). -/
def FaultRecord.isFatal (r : FaultRecord) : Bool := decide (r.code / 0x4000 = 3)

/-- The Fatal safe state: a Fatal record is open (R468, OD 0x6100:0D). -/
def fatalOpen (s : State) : Bool := s.faults.records.any fun r => r.2.isFatal

/-- Start-up has gone as far as the life-cycle decode (R577). -/
def decoded (s : State) : Bool :=
  match s.boot.phase with
  | .inReset | .released => false
  | _ => true

/-- Start-up is complete (R581). -/
def startedUp (s : State) : Bool := decide (s.boot.phase = .complete)

/-- PAIRED: the pair record stands, and with it the pair key of vault slot 2 (R548), in a life-cycle state and
debug state that permit it (R42, rule 18). -/
def pairedNow (s : State) : Bool :=
  decoded s && s.sec.pair.isSome && (SMap.find s.keys.vault 2).isSome && !s.life.debugOpen &&
    decide (s.life.state = .production)

/-- ACTIVE: PAIRED, and the part holds the Signet (R33). -/
def activeNow (s : State) : Bool := pairedNow s && s.twin.holder

/-- The standby of a pair (R41). -/
def standbyNow (s : State) : Bool := pairedNow s && !s.twin.holder

/-- SHARED: VF Enable is set and an instance exists (R38), in a state that permits it (R42). -/
def sharedNow (s : State) : Bool :=
  s.host.vfEnable && s.tenants.insts.any (fun i => decide (i.2.state ≠ .free)) &&
    (decide (s.life.state = .test) || decide (s.life.state = .production))

/-- CUSTODY: a session is open and dual presence stands (R38, R500), never in BLANK (R42). -/
def custodyNow (s : State) : Bool :=
  decide (s.custody.session = .opened) && s.custody.dual && decide (s.life.state ≠ .blank)

/-- UPDATE: an image slot is STAGING or VERIFYING (R38, R421). -/
def updateNow (s : State) : Bool :=
  (decide (s.images.slotA = 1) || decide (s.images.slotA = 3) || decide (s.images.slotB = 1) ||
    decide (s.images.slotB = 3)) &&
    (decide (s.life.state = .test) || decide (s.life.state = .production))

/-- The conditions of SERVICE other than AUDIT-HOLD's (R38): start-up complete and the store reloaded, permission
given, not LOCKED, no Fatal record, the Signet held when PAIRED, no planned release draining (R554). -/
def serviceBase (s : State) : Bool :=
  startedUp s && s.keys.reloaded && !s.tamper.reloading && s.modes.serviceEnable && !lockedNow s &&
    !fatalOpen s && (!pairedNow s || s.twin.holder) && s.twin.drainDue.isNone &&
    (decide (s.life.state = .test) || decide (s.life.state = .production))

/-- SERVICE: AUDIT-HOLD keeps it from being entered, and one from a full Event Log does not end it (R38, rule 7). -/
def serviceNow (s : State) : Bool :=
  serviceBase s && !locketFull s && (!evlogFull s || s.modes.word.service)

/-- The Mode Word that the part's condition gives: modes that latch keep their value, THROTTLED and EPOCH-SWITCH
never stand beside DOZE (R43, rules 30 and 32). -/
def modeWordNow (s : State) : ModeWord :=
  let w := s.modes.word
  let doze := w.doze && !w.epochSwitch
  { service := serviceNow s, custody := custodyNow s, shared := sharedNow s, paired := pairedNow s,
    debugOpen := s.life.debugOpen, locked := lockedNow s, throttled := w.throttled && !doze,
    epochSwitch := w.epochSwitch, auditHold := evlogFull s || locketFull s, update := updateNow s, doze := doze,
    degraded := !s.faults.withdrawn.isEmpty, dozeDepth := if doze then w.dozeDepth else 0,
    active := activeNow s, lockCause := lockCauseNow s, evlogFull := evlogFull s, locketFull := locketFull s }

/-- The Mode Word as OD 0x1200:01 shows it (R33). -/
def ModeWord.toNat (w : ModeWord) : Nat :=
  bit w.service + bit w.custody * 2 ^ 1 + bit w.shared * 2 ^ 2 + bit w.paired * 2 ^ 3 + bit w.debugOpen * 2 ^ 4 +
    bit w.locked * 2 ^ 5 + bit w.throttled * 2 ^ 6 + bit w.epochSwitch * 2 ^ 7 + bit w.auditHold * 2 ^ 8 +
    bit w.update * 2 ^ 9 + bit w.doze * 2 ^ 10 + bit w.degraded * 2 ^ 11 + w.dozeDepth.toNat * 2 ^ 12 +
    bit w.active * 2 ^ 14 + w.lockCause.toNat * 2 ^ 16 + bit w.evlogFull * 2 ^ 18 + bit w.locketFull * 2 ^ 19

/-! ### The debug port and the pins (R444, R453, R471, R472, R605) -/

/-- The numbers by which the model keeps the port's instruction; the rule gives no encodings (assumption 32). -/
def tapExtest : Nat := 0
def tapIdcode : Nat := 1
def tapSample : Nat := 2
def tapBypass : Nat := 3
def tapClamp : Nat := 4
def tapDevice : Nat := 5

/-- The debug port is enabled (R453): DEBUG-OPEN set and LOCKED clear, the decisions on it in agreement (R438). -/
def portOpen (s : State) : Bool := decoded s && s.life.debugOpen && !lockedNow s && !s.life.portClosed

/-- EXTEST or CLAMP is in force: the port is open and SERVICE clear (R605). -/
def boundaryDrives (s : State) : Bool :=
  portOpen s && !s.modes.word.service && (decide (s.tap.instruction = tapExtest) || decide (s.tap.instruction = tapClamp))

/-- The pin levels that modes, records, flags and boundary scan give (R444, R471, R472, R605). -/
def pinsNow (s : State) : Pins :=
  { s.pins with
    faultN := s.faults.records.isEmpty
    svcOk := s.modes.word.service && !fatalOpen s
    tamperN := decide (s.sec.sticky = 0)
    boundary := if boundaryDrives s then some s.tap.boundary else none }

end Sys2Proof.Machine
end

