-- ==== Sys2Proof/Machine/Activity.lean ====
section
/-!
DEFINITION. The sizes of each grade, and what the part is busy with: Links that still run, entries not consumed, cores that wait; the
counts that such activity breaks (R4, R39, R46, R207, R372).
-/
namespace Sys2Proof.Machine

/-! ### Sizes by grade (R4, R372) -/

/-- The value of the part's grade. -/
def byGrade {α : Type} (s : State) (a b c : α) : α :=
  match s.fuses.grade with
  | .sk9120 => a
  | .sk9080 => b
  | .sk9040 => c

/-- AEAD lanes (R4). -/
def laneCount (s : State) : Nat := byGrade s 32 16 8
/-- Hash units (R4). -/
def hashCount (s : State) : Nat := byGrade s 16 8 4
/-- PKE pairs (R4). -/
def pkeCount (s : State) : Nat := byGrade s 32 16 8
/-- Lattice pairs (R4). -/
def latticeCount (s : State) : Nat := byGrade s 8 4 2
/-- Fife cores (R4). -/
def coreCount (s : State) : Nat := byGrade s 16 8 8
/-- Queue pairs (R4). -/
def qpCount (s : State) : Nat := byGrade s 65536 32768 16384
/-- Tenant instances (R4). -/
def instCount (s : State) : Nat := byGrade s 1024 512 256
/-- Working slots (R4). -/
def slotCount (s : State) : Nat := byGrade s 262144 131072 65536
/-- Chain-memory buffers (R372). -/
def bufferCount (s : State) : Nat := byGrade s 32768 32768 16384
/-- Buffers of one allocation pool, the reserve among them left out (R216). -/
def poolBuffers (s : State) : Nat := byGrade s 8176 8176 4080
/-- Pools of chain memory (R216). -/
def poolCount : Nat := 4

/-- Reserve buffers in use (R227): the staging queue of the Event Log, four 64 B records to a buffer (DEDUCED, assumption 88). -/
def reserveInUse (s : State) : Nat := (s.log.staged.length + 3) / 4

/-! ### Links, cores and entries (R46, R48, R57, R179, R246) -/

/-- OPCODE of a Link (R48). -/
def LinkWords.opcode (l : LinkWords) : Nat := bits l.w0 0 12

/-- The engine kind that serves an opcode (R129, R179, R314, R341). -/
def engineKind (op : Nat) : Nat :=
  match op / 256 with
  | 0x0 => 0
  | 0x1 => if op = 0x110 then 2 else 1
  | 0x3 => if op ≤ 0x303 then 2 else 1
  | 0x7 => 5
  | 0x8 => 4
  | 0x9 => 0
  | 0xA => if op = 0xA11 ∨ op = 0xA13 then 2 else 0
  | 0xB => 3
  | _ => 1

/-- The final states of a Link. -/
def LinkState.final : LinkState → Bool
  | .done | .skipped | .failed => true
  | _ => false

/-- Every Link's number, words and record, the requested Links among them. -/
def Chain.all (ch : Chain) : List (Nat × LinkWords × LinkRun) :=
  (((List.range ch.links.length).zip (ch.body.links.zip ch.links)).map fun x => (x.1, x.2.1, x.2.2)) ++ ch.requested

/-- A core. -/
def getCore (s : State) (k : Nat) : Core := SMap.get Core.reset s.cores.cores k

/-- Entries of a ring of a size field. -/
def ringSize (k : Nat) : Nat := 2 ^ k

/-- Steps in ring order from `a` to `b`. -/
def ringSteps (size a b : Nat) : Nat := (b + size - a) % size

/-- Words of a submission entry (R246). -/
def entryWord (e : Bytes) (i : Nat) : Nat := leNat (slice (8 * i) 8 e)
/-- BODY of an entry. -/
def entryBody (e : Bytes) : Nat := bits (entryWord e 0) 0 2
/-- LINK_COUNT of an entry. -/
def entryLinks (e : Bytes) : Nat := bits (entryWord e 0) 4 6
/-- BODY_REF of an entry. -/
def entryRef (e : Bytes) : Nat := bits (entryWord e 1) 0 32

/-- OPCODE of each Link entry of a body as it lies in host memory (R45, R48). -/
def bodyOpcodes (b : Bytes) : List Nat :=
  (List.range ((b.length - 64) / 32)).map fun i => bits (leNat (slice (64 + 32 * i) 8 b)) 0 12

/-- An entry not yet consumed may hold a firmware Link: its template has one, its descriptor has landed and has one, or its body has
still to be fetched (DESIGN CHOICE, assumption 52: what the part has not fetched it cannot tell). -/
def entryMayHold (s : State) (descriptor : Option (Option Bytes)) (e : Bytes) : Bool :=
  let firmware := fun (op : Nat) => decide (engineKind op = 3)
  if entryBody e = 0 then
    match (SMap.get Template.empty s.epochs.templates (entryRef e % 4096)).body with
    | some b => b.links.any fun l => firmware l.opcode
    | none => false
  else
    match descriptor with
    | some (some d) => (bodyOpcodes d).any firmware
    | some none => false
    | none => true

/-- An entry of a queue pair that has not been consumed may hold a firmware Link. -/
def ringMayHold (s : State) (x : QueuePair) : Bool :=
  decide (x.fetched.length < ringSteps (ringSize x.sqSize) x.sqHead x.sqTail) ||
    match x.fetched with
    | [] => false
    | e :: t => entryMayHold s x.descriptor e || t.any (entryMayHold s none)

/-! ### All cores waiting (R207) -/

/-- Some Link of a Chain in flight, or an entry not consumed, has still to run on a core (R207). -/
def firmwareWork (s : State) : Bool :=
  s.disp.chains.any (fun x => x.2.all.any fun y => decide (engineKind y.2.1.opcode = 3) && !y.2.2.st.final) ||
    s.host.qps.any fun x => decide (x.2.state ≠ .disabled) && ringMayHold s x.2

/-- A core is blocked on other cores (R207). -/
def blockedOnCores (k : Core) : Bool :=
  match k.wait with
  | .waite mask none => decide (mask &&& 0xFFF8 = 0) && !(k.engBusy.any id) && k.timers.all (·.isNone) && k.link.isNone
  | _ => false

/-- A core is idle (R207). -/
def coreIdle (s : State) (k : Core) : Bool :=
  k.halted ||
    match k.wait with
    | .waitw _ none => !firmwareWork s
    | _ => false

/-- The conditions under which the all-waiting detector counts (R207). -/
def allWaiting (s : State) : Bool :=
  let cores := (List.range (coreCount s)).map (getCore s)
  let signalled := cores.any fun k =>
    match k.wait with
    | .waite mask _ => decide (mask % 2 = 1) && k.events.getLsbD 0
    | _ => false
  cores.all (fun k => blockedOnCores k || coreIdle s k) && cores.any blockedOnCores && !signalled

/-! ### Idleness (R39) -/

/-- STATE of a slot (R273). -/
def MailSlot.state (v : MailSlot) : Nat := v.w0.toNat % 8

/-- The part is idle (R39). -/
def partIdle (s : State) : Bool :=
  let waits := fun (k : Core) => k.halted || decide (k.wait ≠ .running)
  s.disp.chains.isEmpty && s.host.queued.isEmpty &&
    s.host.qps.all (fun x => decide (x.2.state = .disabled) || decide (x.2.sqHead = x.2.sqTail)) &&
    ((List.range (coreCount s)).all fun k => waits (getCore s k)) &&
    s.mram.current.isNone && s.mram.queue.isEmpty && s.mram.erases.isEmpty &&
    s.tenants.mailboxes.all (fun m => m.2.slots.all fun x => decide (x.2.state ≠ 1) && decide (x.2.state ≠ 2)) &&
    s.dict.held.isEmpty

/-- Activity breaks the counts that run only without a break: the idle time of R39 and the all-waiting time of R207. -/
def noteActivity (s : State) : State :=
  { s with modes := { s.modes with idleFor := if partIdle s then s.modes.idleFor else 0 }
           disp := { s.disp with allWaitingFor := if allWaiting s then s.disp.allWaitingFor else 0 } }

end Sys2Proof.Machine
end

