-- ==== Sys2Proof/Machine/Ciphers.lean ====
section
/-!
DEFINITION. The block ciphers of the lanes (R110): AES as FIPS 197 defines it and TDES as SP 800-67
defines it. The spec names the ciphers and their key lengths and leaves their definition to these
standards (assumption 2).
-/
namespace Sys2Proof.Machine

/-! ### AES -/

/-- The AES S-box, entry `i` in bits 8i+7 to 8i (FIPS 197). -/
def aesSbox : Nat :=
  0x16bb54b00f2d99416842e6bf0d89a18cdf2855cee9871e9b948ed9691198f8e19e1dc186b95735610ef6034866b53e708a8bbd4b1f74dde8c6b4a61c2e2578ba08ae7a65eaf4566ca94ed58d6d37c8e779e4959162acd3c25c2406490a3a32e0db0b5ede14b8ee4688902a22dc4f816073195d643d7ea7c41744975fec130ccdd2f3ff1021dab6bcf5389d928f40a351a89f3c507f02f94585334d43fbaaefd0cf584c4a39becb6a5bb1fc20ed00d153842fe329b3d63b52a05a6e1b1a2c830975b227ebe28012079a059618c323c7041531d871f1e5a534ccf73f362693fdb7c072a49cafa2d4adf04759fa7dc982ca76abd7fe2b670130c56f6bf27b777c63

/-- The inverse AES S-box, packed as `aesSbox`. -/
def aesInvSbox : Nat :=
  0x7d0c2155631469e126d677ba7e042b17619953833cbbebc8b0f52aae4d3be0a0ef9cc9939f7ae52d0d4ab519a97f51605fec8027591012b131c7078833a8dd1ff45acd78fec0db9a2079d2c64b3e56fc1bbe18aa0e62b76f89c5291d711af1476edf751ce837f9e28535ade72274ac9673e6b4f0cecff297eadc674f4111913a6b8a130103bdafc1020f3fca8f1e2cd00645b3b80558e4f70ad3bc8c00abd890849d8da75746155edab9edfd5048706c92b6655dcc5ca4d41698688664f6f87225d18b6d49a25b76b224d92866a12e084ec3fa420b954cee3d23c2a632947b54cbe9dec444438e3487ff2f9b8239e37cfbd7f3819ea340bf38a53630d56a0952

/-- Entry `b` of a packed table of bytes. -/
def boxAt (box : Nat) (b : Byte) : Byte := byte (box >>> (8 * b.toNat))

/-- Multiplication by x in the AES field. -/
def xtime (b : Byte) : Byte := if b.msb then (b <<< 1) ^^^ 0x1B else b <<< 1

/-- Multiplication in the AES field by the small constants of MixColumns. -/
def gfMul (k : Nat) (b : Byte) : Byte :=
  (if k.testBit 0 then b else 0) ^^^ (if k.testBit 1 then xtime b else 0)
    ^^^ (if k.testBit 2 then xtime (xtime b) else 0)
    ^^^ (if k.testBit 3 then xtime (xtime (xtime b)) else 0)

/-- One column multiplied by a circulant matrix whose first row is `r`. -/
def mixColumn (r0 r1 r2 r3 : Nat) : Bytes → Bytes
  | [a, b, c, d] =>
    [ gfMul r0 a ^^^ gfMul r1 b ^^^ gfMul r2 c ^^^ gfMul r3 d,
      gfMul r3 a ^^^ gfMul r0 b ^^^ gfMul r1 c ^^^ gfMul r2 d,
      gfMul r2 a ^^^ gfMul r3 b ^^^ gfMul r0 c ^^^ gfMul r1 d,
      gfMul r1 a ^^^ gfMul r2 b ^^^ gfMul r3 c ^^^ gfMul r0 d ]
  | col => col

/-- The bytes of `s` in the order of `order`. -/
def permute (order : List Nat) (s : Bytes) : Bytes := order.map fun i => s.getD i 0

/-- Where ShiftRows takes each byte of the state from. -/
def shiftRowsOrder : List Nat := [0, 5, 10, 15, 4, 9, 14, 3, 8, 13, 2, 7, 12, 1, 6, 11]

/-- Where InvShiftRows takes each byte of the state from. -/
def invShiftRowsOrder : List Nat := [0, 13, 10, 7, 4, 1, 14, 11, 8, 5, 2, 15, 12, 9, 6, 3]

/-- The next word of the key schedule after `i` words; `ws` holds the words so far, newest first. -/
def aesNextWord (nk i : Nat) (rcon : Byte) (ws : List Bytes) : Bytes :=
  let prev := ws.getD 0 []
  let back := ws.getD (nk - 1) []
  let t :=
    if i % nk = 0 then
      let r := (prev.drop 1 ++ prev.take 1).map (boxAt aesSbox)
      (r.take 1).map (· ^^^ rcon) ++ r.drop 1
    else if nk = 8 ∧ i % nk = 4 then prev.map (boxAt aesSbox)
    else prev
  xorBytes back t

/-- The key schedule, newest word first. -/
def aesExpandFuel (nk : Nat) : Nat → Nat → Byte → List Bytes → List Bytes
  | 0, _, _, ws => ws
  | fuel + 1, i, rcon, ws =>
    aesExpandFuel nk fuel (i + 1) (if i % nk = 0 then xtime rcon else rcon)
      (aesNextWord nk i rcon ws :: ws)

/-- The round keys of a 16, 24 or 32 B key, 16 B each. -/
def aesRoundKeys (key : Bytes) : List Bytes :=
  let nk := key.length / 4
  let words := (aesExpandFuel nk (4 * (nk + 7) - nk) nk 1 (chunks 4 key).reverse).reverse
  chunks 16 words.flatten

/-- One middle round of the cipher. -/
def aesRound (s rk : Bytes) : Bytes :=
  xorBytes ((chunks 4 (permute shiftRowsOrder (s.map (boxAt aesSbox)))).flatMap
    (mixColumn 2 3 1 1)) rk

/-- One middle round of the inverse cipher. -/
def aesInvRound (s rk : Bytes) : Bytes :=
  (chunks 4 (xorBytes ((permute invShiftRowsOrder s).map (boxAt aesInvSbox)) rk)).flatMap
    (mixColumn 14 11 13 9)

/-- AES encryption of one 16 B block under expanded keys. -/
def aesEncryptWith (rks : List Bytes) (block : Bytes) : Bytes :=
  let s := xorBytes block (rks.headD [])
  let s := (rks.drop 1).dropLast.foldl aesRound s
  xorBytes (permute shiftRowsOrder (s.map (boxAt aesSbox))) (rks.getLastD [])

/-- AES decryption of one 16 B block under expanded keys. -/
def aesDecryptWith (rks : List Bytes) (block : Bytes) : Bytes :=
  let s := xorBytes block (rks.getLastD [])
  let s := (rks.drop 1).dropLast.reverse.foldl aesInvRound s
  xorBytes ((permute invShiftRowsOrder s).map (boxAt aesInvSbox)) (rks.headD [])

/-- AES encryption of one block. -/
def aesEncrypt (key block : Bytes) : Bytes := aesEncryptWith (aesRoundKeys key) block

/-- AES decryption of one block. -/
def aesDecrypt (key block : Bytes) : Bytes := aesDecryptWith (aesRoundKeys key) block

/-! ### DES and TDES -/

/-- The initial permutation of DES, bit 1 being the most significant. -/
def desIp : List Nat :=
  [ 58, 50, 42, 34, 26, 18, 10, 2, 60, 52, 44, 36, 28, 20, 12, 4,
    62, 54, 46, 38, 30, 22, 14, 6, 64, 56, 48, 40, 32, 24, 16, 8,
    57, 49, 41, 33, 25, 17, 9, 1, 59, 51, 43, 35, 27, 19, 11, 3,
    61, 53, 45, 37, 29, 21, 13, 5, 63, 55, 47, 39, 31, 23, 15, 7 ]

/-- The final permutation of DES. -/
def desFp : List Nat :=
  [ 40, 8, 48, 16, 56, 24, 64, 32, 39, 7, 47, 15, 55, 23, 63, 31,
    38, 6, 46, 14, 54, 22, 62, 30, 37, 5, 45, 13, 53, 21, 61, 29,
    36, 4, 44, 12, 52, 20, 60, 28, 35, 3, 43, 11, 51, 19, 59, 27,
    34, 2, 42, 10, 50, 18, 58, 26, 33, 1, 41, 9, 49, 17, 57, 25 ]

/-- The expansion of DES. -/
def desE : List Nat :=
  [ 32, 1, 2, 3, 4, 5, 4, 5, 6, 7, 8, 9, 8, 9, 10, 11,
    12, 13, 12, 13, 14, 15, 16, 17, 16, 17, 18, 19, 20, 21, 20, 21,
    22, 23, 24, 25, 24, 25, 26, 27, 28, 29, 28, 29, 30, 31, 32, 1 ]

/-- The permutation of the DES round function. -/
def desP : List Nat :=
  [ 16, 7, 20, 21, 29, 12, 28, 17, 1, 15, 23, 26, 5, 18, 31, 10,
    2, 8, 24, 14, 32, 27, 3, 9, 19, 13, 30, 6, 22, 11, 4, 25 ]

/-- Permuted choice 1 of the DES key schedule. -/
def desPc1 : List Nat :=
  [ 57, 49, 41, 33, 25, 17, 9, 1, 58, 50, 42, 34, 26, 18, 10, 2,
    59, 51, 43, 35, 27, 19, 11, 3, 60, 52, 44, 36, 63, 55, 47, 39,
    31, 23, 15, 7, 62, 54, 46, 38, 30, 22, 14, 6, 61, 53, 45, 37,
    29, 21, 13, 5, 28, 20, 12, 4 ]

/-- Permuted choice 2 of the DES key schedule. -/
def desPc2 : List Nat :=
  [ 14, 17, 11, 24, 1, 5, 3, 28, 15, 6, 21, 10, 23, 19, 12, 4,
    26, 8, 16, 7, 27, 20, 13, 2, 41, 52, 31, 37, 47, 55, 30, 40,
    51, 45, 33, 48, 44, 49, 39, 56, 34, 53, 46, 42, 50, 36, 29, 32 ]

/-- The eight S-boxes, S1 first; entry `i` of a box, indexed by its six input bits, is nibble `i`. -/
def desS : List Nat :=
  [ 0xd0650aa3e739bc5f7b12964d288ec1f487305995bcc66aa318db2fe2417df40e,
    0x9fe25309c67c68b5214df43a1ba78ed05ab5906cad1207c9e4832bf67e48d13f,
    0xc72e5ab53ce2f14b70839f6809d4a61d18f2b4cbe75c8d21a56f43369e0970da,
    0xe42872c5be53419f8dd71bac6009f63a9fe4ac1bc52872413a09f66053be8dd7,
    0x3e5043a6950cf96fd827ed1a7bc182b4698e903daff3055816db7a47c124bce2,
    0xd68b0d617a14e0b7a3fc5892c52f3e498b35b70ee4d31d605896c2792f4af1ac,
    0xc23925e0f8065f9a7ea7431c8ddbb4616186fa25c7593ce3ad18904f7eb20bd4,
    0xb865533f0d9ac6f0d28eac4971e41b27279ce005be6359ca417b3fa684d8f21d ]

/-- The bits of an `n`-bit value chosen by a table that counts from the most significant bit, as 1. -/
def pickBits (n : Nat) (table : List Nat) (x : Nat) : Nat :=
  table.foldl (fun r i => 2 * r + bit (x.testBit (n - i))) 0

/-- A 28-bit half of the DES key register rotated left by `k`. -/
def rotl28 (k x : Nat) : Nat := (x <<< k ||| x >>> (28 - k)) % 2 ^ 28

/-- The left rotations of the sixteen rounds of the DES key schedule. -/
def desShifts : List Nat := [1, 1, 2, 2, 2, 2, 2, 2, 1, 2, 2, 2, 2, 2, 2, 1]

/-- The round keys that follow the halves `c` and `d`. -/
def desKeysFrom : List Nat → Nat → Nat → List Nat
  | [], _, _ => []
  | k :: ks, c, d =>
    let c := rotl28 k c
    let d := rotl28 k d
    pickBits 56 desPc2 (c <<< 28 ||| d) :: desKeysFrom ks c d

/-- The sixteen 48-bit round keys of an 8 B DES key. -/
def desKeys (key : Bytes) : List Nat :=
  let cd := pickBits 64 desPc1 (beNat key)
  desKeysFrom desShifts (cd >>> 28) (cd % 2 ^ 28)

/-- The DES round function. -/
def desF (r k : Nat) : Nat :=
  let x := pickBits 32 desE r ^^^ k
  let y := (List.zip [42, 36, 30, 24, 18, 12, 6, 0] desS).foldl
    (fun acc p => 16 * acc + bits p.2 (4 * bits x p.1 6) 4) 0
  pickBits 32 desP y

/-- DES of one 8 B block under round keys in the order given. -/
def desCrypt (keys : List Nat) (block : Bytes) : Bytes :=
  let x := pickBits 64 desIp (beNat block)
  let lr := keys.foldl (fun (p : Nat × Nat) k => (p.2, p.1 ^^^ desF p.2 k))
    (x >>> 32, x % 2 ^ 32)
  natBE 8 (pickBits 64 desFp (lr.2 <<< 32 ||| lr.1))

/-- Single DES encryption. -/
def desEncrypt (key block : Bytes) : Bytes := desCrypt (desKeys key) block

/-- Single DES decryption. -/
def desDecrypt (key block : Bytes) : Bytes := desCrypt (desKeys key).reverse block

/-- The three 8 B keys of a 16 or 24 B TDES key; a 2-key TDES key repeats its first. -/
def tdesParts (key : Bytes) : Bytes × Bytes × Bytes :=
  (key.take 8, slice 8 8 key, if key.length ≤ 16 then key.take 8 else slice 16 8 key)

/-- TDES encryption of one block: encrypt, decrypt, encrypt. -/
def tdesEncrypt (key block : Bytes) : Bytes :=
  let (a, b, c) := tdesParts key
  desEncrypt c (desDecrypt b (desEncrypt a block))

/-- TDES decryption of one block. -/
def tdesDecrypt (key block : Bytes) : Bytes :=
  let (a, b, c) := tdesParts key
  desDecrypt a (desEncrypt b (desDecrypt c block))

/-- A byte with its lowest bit set to give odd parity, as TDES keys carry it (R99). -/
def oddParity (b : Byte) : Byte :=
  let ones := (List.range 7).foldl (fun n i => n + bit (b.toNat.testBit (i + 1))) 0
  (b &&& 0xFE) ||| byte (1 - ones % 2)

/-- A TDES key with every byte parity-adjusted (R99). -/
def parityAdjust (key : Bytes) : Bytes := key.map oddParity

/-! ### One block of either cipher -/

/-- The two ciphers of the lanes (R110). -/
inductive Cipher
  | aes
  | tdes
  deriving DecidableEq, Repr

/-- The block length of a cipher in bytes. -/
def blockLen : Cipher → Nat
  | .aes => 16
  | .tdes => 8

/-- One block encrypted. -/
def encryptBlock : Cipher → Bytes → Bytes → Bytes
  | .aes, key, block => aesEncrypt key block
  | .tdes, key, block => tdesEncrypt key block

/-- One block decrypted. -/
def decryptBlock : Cipher → Bytes → Bytes → Bytes
  | .aes, key, block => aesDecrypt key block
  | .tdes, key, block => tdesDecrypt key block

end Sys2Proof.Machine
end

