-- ==== Sys2Proof/Machine/CipherModes.lean ====
section
/-!
DEFINITION. The modes of the lanes (R110): ECB, CBC, CTR (R113), GCM (SP 800-38D), CCM (SP 800-38C),
CMAC (SP 800-38B), the ISO 9797-1 MAC algorithms 1 and 3, the ISO 9797-1 and PKCS #7 paddings and
FF1 (SP 800-38G). The counter blocks of CTR are those R113 gives; the rest follows the standards the
spec names (assumption 2).
-/
namespace Sys2Proof.Machine

/-! ### ECB, CBC and CTR -/

/-- ECB encryption of whole blocks. -/
def ecbEncrypt (c : Cipher) (key data : Bytes) : Bytes :=
  (chunks (blockLen c) data).flatMap (encryptBlock c key)

/-- ECB decryption of whole blocks. -/
def ecbDecrypt (c : Cipher) (key data : Bytes) : Bytes :=
  (chunks (blockLen c) data).flatMap (decryptBlock c key)

/-- CBC encryption of whole blocks from the chaining value `iv`. -/
def cbcEncryptBlocks (c : Cipher) (key : Bytes) : Bytes → List Bytes → Bytes
  | _, [] => []
  | iv, b :: bs =>
    let y := encryptBlock c key (xorBytes iv b)
    y ++ cbcEncryptBlocks c key y bs

/-- CBC encryption of whole blocks. -/
def cbcEncrypt (c : Cipher) (key iv data : Bytes) : Bytes :=
  cbcEncryptBlocks c key iv (chunks (blockLen c) data)

/-- CBC decryption of whole blocks from the chaining value `iv`. -/
def cbcDecryptBlocks (c : Cipher) (key : Bytes) : Bytes → List Bytes → Bytes
  | _, [] => []
  | iv, b :: bs => xorBytes iv (decryptBlock c key b) ++ cbcDecryptBlocks c key b bs

/-- CBC decryption of whole blocks. -/
def cbcDecrypt (c : Cipher) (key iv data : Bytes) : Bytes :=
  cbcDecryptBlocks c key iv (chunks (blockLen c) data)

/-- AES in counter mode: block `j` is masked with the encryption of `ctr j`. -/
def ctrWith (key : Bytes) (ctr : Nat → Bytes) (data : Bytes) : Bytes :=
  ((chunks 16 data).mapIdx fun j b => xorBytes b (aesEncrypt key (ctr j))).flatten

/-- CTR: the counter block of payload block j is the nonce and j + 1, big-endian (R113). -/
def ctrCrypt (key nonce data : Bytes) : Bytes :=
  ctrWith key (fun j => nonce ++ natBE 4 (j + 1)) data

/-! ### GCM -/

/-- The GCM product; the field element's first bit is its most significant. -/
def gf128Step : Nat → Nat → Nat → Nat → Nat
  | 0, _, _, z => z
  | k + 1, x, v, z =>
    gf128Step k x (if v % 2 = 1 then (v / 2) ^^^ (0xE1 <<< 120) else v / 2)
      (if x.testBit k then z ^^^ v else z)

/-- The product of two GCM field elements. -/
def gf128Mul (x y : Nat) : Nat := gf128Step 128 x y 0

/-- `data` filled with zeros to a whole number of 16 B blocks. -/
def fill16 (data : Bytes) : Bytes := data ++ zeros ((16 - data.length % 16) % 16)

/-- GHASH of whole blocks under the hash subkey `h`. -/
def ghash (h : Nat) (data : Bytes) : Nat :=
  (chunks 16 data).foldl (fun y b => gf128Mul (y ^^^ beNat b) h) 0

/-- The 16 B tag of GCM over a header and a ciphertext. -/
def gcmTag (key nonce header ct : Bytes) : Bytes :=
  let h := beNat (aesEncrypt key (zeros 16))
  let s := ghash h (fill16 header ++ fill16 ct ++ natBE 8 (8 * header.length) ++ natBE 8 (8 * ct.length))
  xorBytes (natBE 16 s) (aesEncrypt key (nonce ++ natBE 4 1))

/-- The GCM keystream applied to data; payload blocks count from 2. -/
def gcmCrypt (key nonce data : Bytes) : Bytes :=
  ctrWith key (fun j => nonce ++ natBE 4 (j + 2)) data

/-- GCM encryption: the ciphertext and the tag cut to `tagLen` bytes. -/
def gcmSeal (key nonce header data : Bytes) (tagLen : Nat) : Bytes × Bytes :=
  let ct := gcmCrypt key nonce data
  (ct, (gcmTag key nonce header ct).take tagLen)

/-- GCM decryption: the plaintext when the tag matches. -/
def gcmOpen (key nonce header ct tag : Bytes) : Option Bytes :=
  if (gcmTag key nonce header ct).take tag.length = tag then some (gcmCrypt key nonce ct) else none

/-! ### CCM with a 12 B nonce -/

/-- A CCM counter block: the 3 B counter `i` behind the nonce. -/
def ccmCounter (nonce : Bytes) (i : Nat) : Bytes := byte 2 :: nonce ++ natBE 3 i

/-- The blocks CCM feeds its CBC-MAC. -/
def ccmBlocks (nonce header data : Bytes) (tagLen : Nat) : Bytes :=
  let flags := (if header.isEmpty then 0 else 64) + 8 * ((tagLen - 2) / 2) + 2
  let b0 := byte flags :: nonce ++ natBE 3 data.length
  let a := if header.isEmpty then [] else fill16 (natBE 2 header.length ++ header)
  b0 ++ a ++ fill16 data

/-- The last chaining value of a CBC-MAC with a zero start. -/
def cbcMac (c : Cipher) (key data : Bytes) : Bytes :=
  (chunks (blockLen c) data).foldl (fun y b => encryptBlock c key (xorBytes y b)) (zeros (blockLen c))

/-- The CCM tag of a plaintext. -/
def ccmTag (key nonce header data : Bytes) (tagLen : Nat) : Bytes :=
  xorBytes ((cbcMac .aes key (ccmBlocks nonce header data tagLen)).take tagLen)
    (aesEncrypt key (ccmCounter nonce 0))

/-- The CCM keystream applied to data; payload blocks count from 1. -/
def ccmCrypt (key nonce data : Bytes) : Bytes :=
  ctrWith key (fun j => ccmCounter nonce (j + 1)) data

/-- CCM encryption: the ciphertext and the tag. -/
def ccmSeal (key nonce header data : Bytes) (tagLen : Nat) : Bytes × Bytes :=
  (ccmCrypt key nonce data, ccmTag key nonce header data tagLen)

/-- CCM decryption: the plaintext when the tag matches. -/
def ccmOpen (key nonce header ct tag : Bytes) : Option Bytes :=
  let pt := ccmCrypt key nonce ct
  if ccmTag key nonce header pt tag.length = tag then some pt else none

/-! ### CMAC and the ISO 9797-1 MACs -/

/-- A CMAC subkey: the value doubled in the field of the block length. -/
def cmacDouble (c : Cipher) (l : Bytes) : Bytes :=
  let n := 8 * blockLen c
  let x := 2 * beNat l
  natBE (blockLen c) (if x.testBit n then (x % 2 ^ n) ^^^ (match c with | .aes => 0x87 | .tdes => 0x1B) else x)

/-- CMAC. -/
def cmac (c : Cipher) (key msg : Bytes) : Bytes :=
  let b := blockLen c
  let k1 := cmacDouble c (encryptBlock c key (zeros b))
  let k2 := cmacDouble c k1
  let whole := msg.length ≠ 0 ∧ msg.length % b = 0
  let lastLen := if whole then b else msg.length % b
  let front := msg.take (msg.length - lastLen)
  let tail := msg.drop (msg.length - lastLen)
  let last := if whole then xorBytes tail k1 else xorBytes (padTo b (tail ++ [0x80])) k2
  cbcMac c key (front ++ last)

/-- ISO 9797-1 padding method 1: zeros to the next multiple, one zero block for empty data (R130). -/
def isoPad1 (b : Nat) (data : Bytes) : Bytes :=
  if data.isEmpty then zeros b else data ++ zeros ((b - data.length % b) % b)

/-- ISO 9797-1 padding method 2: 0x80 and zeros to the next multiple (R130). -/
def isoPad2 (b : Nat) (data : Bytes) : Bytes :=
  data ++ 0x80 :: zeros (b - 1 - data.length % b)

/-- PKCS #7 padding (R130). -/
def pkcs7Pad (b : Nat) (data : Bytes) : Bytes :=
  let n := b - data.length % b
  data ++ List.replicate n (byte n)

/-- ISO 9797-1 MAC algorithm 3 of padded data under a 2-key TDES key (R102). -/
def isoMac3 (key data : Bytes) : Bytes :=
  let l := key.take 8
  let y := (chunks 8 data).foldl (fun y b => desEncrypt l (xorBytes y b)) (zeros 8)
  desEncrypt l (desDecrypt (slice 8 8 key) y)

/-! ### FF1 -/

/-- The number that digits spell in a radix, most significant first. -/
def numRadix (radix : Nat) (ds : List Nat) : Nat := ds.foldl (fun a d => a * radix + d) 0

/-- `n` as `len` digits in a radix, least significant first. -/
def digitsLE (radix : Nat) : Nat → Nat → List Nat
  | 0, _ => []
  | len + 1, n => n % radix :: digitsLE radix len (n / radix)

/-- `n` as `len` digits in a radix, most significant first. -/
def strRadix (radix len n : Nat) : List Nat := (digitsLE radix len n).reverse

/-- The least `k` with `2 ^ k` at least `n`. -/
def clog2 (n : Nat) : Nat := if n ≤ 1 then 0 else Nat.log2 (n - 1) + 1

/-- The round value y of FF1 for round `i` over the half `half` (SP 800-38G). -/
def ff1Round (key tweak : Bytes) (radix n u b d i : Nat) (half : List Nat) : Nat :=
  let p := [1, 2, 1].map byte ++ natBE 3 radix ++ [10, byte u] ++ natBE 4 n ++ natBE 4 tweak.length
  let fill := (16 - (tweak.length + b + 1) % 16) % 16
  let q := tweak ++ zeros fill ++ [byte i] ++ natBE b (numRadix radix half)
  let r := cbcMac .aes key (p ++ q)
  let s := r ++ (List.range (ceilDiv d 16 - 1)).flatMap fun j =>
    aesEncrypt key (xorBytes r (natBE 16 (j + 1)))
  beNat (s.take d)

/-- The bytes one half of FF1 occupies. -/
def ff1HalfBytes (radix v : Nat) : Nat := ceilDiv (clog2 (radix ^ v)) 8

/-- FF1 encryption of a string of digits. -/
def ff1Encrypt (key tweak : Bytes) (radix : Nat) (x : List Nat) : List Nat :=
  let n := x.length
  let u := n / 2
  let v := n - u
  let b := ff1HalfBytes radix v
  let d := 4 * ceilDiv b 4 + 4
  let r := (List.range 10).foldl (fun (p : List Nat × List Nat) i =>
      let m := if i % 2 = 0 then u else v
      let c := (numRadix radix p.1 + ff1Round key tweak radix n u b d i p.2) % radix ^ m
      (p.2, strRadix radix m c)) (x.take u, x.drop u)
  r.1 ++ r.2

/-- FF1 decryption of a string of digits. -/
def ff1Decrypt (key tweak : Bytes) (radix : Nat) (x : List Nat) : List Nat :=
  let n := x.length
  let u := n / 2
  let v := n - u
  let b := ff1HalfBytes radix v
  let d := 4 * ceilDiv b 4 + 4
  let r := (List.range 10).reverse.foldl (fun (p : List Nat × List Nat) i =>
      let m := if i % 2 = 0 then u else v
      let y := ff1Round key tweak radix n u b d i p.1 % radix ^ m
      let c := (numRadix radix p.2 + radix ^ m - y) % radix ^ m
      (strRadix radix m c, p.1)) (x.take u, x.drop u)
  r.1 ++ r.2

end Sys2Proof.Machine
end

