-- ==== Sys2Proof/Machine/Ops.lean ====
section
/-!
DEFINITION. The named operations every family shares: sizes by grade, Event Log
staging, notifications, MRAM pages, mailbox slots, and `settle`, with which every command ends.
-/
namespace Sys2Proof.Machine

/-! ### Event Log staging (R474, R475, R479) -/

/-- The source code of an event of the device itself (R474). -/
def deviceSource : Nat := 0xFFFF

/-- The events up to number `n` are durable, or are counted as not recorded (R475, R479); 0 numbers no event. -/
def eventDurable (s : State) (n : Nat) : Bool :=
  evlogFull s || n == 0 || decide (n + s.log.staged.length + s.log.inFlight ≤ s.log.total)

/-- An event occurs: it is staged, or counted as not recorded when the log or the staging queue is full. A hold
ends when the queue fills (R481). -/
def logEvent (code source : Nat) (args : Bytes) (s : State) : State :=
  if evlogFull s then
    { s with log := { s.log with notRecorded := s.log.notRecorded + 1, sinceClear := s.log.sinceClear + 1 } }
  else if s.log.staged.length ≥ 256 then
    { s with log := { s.log with notRecorded := s.log.notRecorded + 1, sinceClear := s.log.sinceClear + 1,
                                 missed := s.log.missed + 1 } }
  else
    let e : LogEvent := { time := s.sec.deviceTime, code := code, source := source,
                          boot := s.mram.bootCounter.toNat % 2 ^ 32, args := padTo 32 args }
    { s with log := { s.log with staged := s.log.staged ++ [e], total := s.log.total + 1,
                                 hold := if s.log.staged.length = 255 then none else s.log.hold } }

/-- An event that its action requires to be recorded: it waits for queue space rather than be lost (R475). The state
answered numbers it as its last event. -/
def logRequired (code source : Nat) (args : Bytes) (s : State) : State :=
  if evlogFull s || decide (s.log.staged.length < 256) then logEvent code source args s
  else
    let e : LogEvent := { time := s.sec.deviceTime, code := code, source := source,
                          boot := s.mram.bootCounter.toNat % 2 ^ 32, args := padTo 32 args }
    { s with log := { s.log with staged := s.log.staged ++ [e], total := s.log.total + 1 } }

/-! ### What leaves the part, and notifications (R37, R213, R250, R260, R272) -/

/-- The ordering attributes of a TLP that the part sends (R232): none on a posted write, never No Snoop; on a read request Relaxed and
ID-Based Ordering are the implementation's (assumption 93). -/
def Sent.order : Sent → Option TlpOrder
  | .memWrite _ _ _ => some { relaxed := false, idBased := false, noSnoop := false }
  | .msix _ _ _ _ => some { relaxed := false, idBased := false, noSnoop := false }
  | .memRead fn addr _ =>
    some { relaxed := Config.readRelaxed fn addr, idBased := Config.readIdBased fn addr, noSnoop := false }
  | _ => none

/-- Records a transfer, message or frame as sent. -/
def send (o : Sent) (s : State) : State := { s with sent := o :: s.sent }

/-- Posted credits above the reserve cover a message of one header and one data credit (R213). -/
def creditsAboveReserve (s : State) : Bool :=
  decide (s.flow.postedHdr ≥ s.flow.hdrReserve + 1) && decide (s.flow.postedData ≥ s.flow.dataReserve + 1)

/-- No MSI-X vector unmasked or pending: the table after a reset. -/
def Msix.reset : Msix := { unmasked := [], pending := [], table := [] }

/-- Some stream in the Secure state covers a function (R253). -/
def ideCovered (s : State) (fn : Nat) : Bool :=
  s.host.ide.any fun i => i.secure && decide (i.firstFn ≤ fn) && decide (fn ≤ i.lastFn)

/-- What a function sends may go out: the link is up and, with IDE required, a Secure stream carries the function's traffic (R253). -/
def maySend (s : State) (fn : Nat) : Bool := s.host.linkUp && (!s.host.ideRequired || ideCovered s fn)

/-- Kinds of AER report (R252). -/
def aerPoisoned : Nat := 1
def aerTimeout : Nat := 2
def aerUnexpected : Nat := 3
def aerIde : Nat := 4
def aerInternal : Nat := 5
def aerCorrected : Nat := 6

/-- A vector's message as its entry of the table gives it: address and data (R250). -/
def msixMessage (s : State) (fn vector : Nat) : Sent :=
  let e := SMap.get (0, 0) (SMap.get Msix.reset s.host.msix fn).table vector
  .msix fn vector e.1 e.2

/-- The part sends an MSI-X message: a masked vector sets its pending bit; otherwise the message leaves when the
posted credits allow it, and waits for them when they do not (R213, R250). -/
def sendMsix (fn vector : Nat) (s : State) : State :=
  let m := SMap.get Msix.reset s.host.msix fn
  if !m.unmasked.contains vector then
    { s with host := { s.host with
        msix := SMap.put s.host.msix fn { m with pending := if m.pending.contains vector then m.pending
                                                           else m.pending ++ [vector] } } }
  else if maySend s fn && creditsAboveReserve s then
    send (msixMessage s fn vector)
      { s with flow := { s.flow with postedHdr := s.flow.postedHdr - 1, postedData := s.flow.postedData - 1 } }
  else { s with host := { s.host with posted := s.host.posted ++ [(fn, vector)] } }

/-- Sets a bit of OD 0x4000:04; vector 0 of PF0 is sent when it becomes set (R260). -/
def managerNotify (bitNo : Nat) (s : State) : State :=
  if s.host.causes.getLsbD bitNo then s
  else sendMsix 0 0 { s with host := { s.host with causes := s.host.causes ||| BitVec.ofNat 32 (2 ^ bitNo) } }

/-- Sets a bit of the NOTIFY_CAUSE of VFn; vector 0 of the function is sent when it becomes set and its mask bit is
1 (R272). -/
def tenantNotify (fn bitNo : Nat) (s : State) : State :=
  if fn = 0 then s else
  let m := SMap.get Mailbox.empty s.tenants.mailboxes fn
  if m.cause.getLsbD bitNo then s else
  let s := { s with tenants := { s.tenants with
    mailboxes := SMap.put s.tenants.mailboxes fn { m with cause := m.cause ||| BitVec.ofNat 32 (2 ^ bitNo) } } }
  if m.mask.getLsbD bitNo then sendMsix fn 0 s else s

/-- Notifies every ACTIVE instance. -/
def notifyTenants (bitNo : Nat) (s : State) : State :=
  s.tenants.insts.foldl (fun s i => if i.2.state = .active then tenantNotify i.1 bitNo s else s) s

/-- Posts an event of bits 4 to 9, which the device owns (R205). -/
def postDeviceEvent (bitNo : Nat) (s : State) : State :=
  { s with cores := { s.cores with deviceEvents := s.cores.deviceEvents ++ [bitNo] } }

/-- Posts an event of bits 0 to 3 to a core (R205). -/
def postCoreEvent (core bitNo : Nat) (s : State) : State :=
  let post := fun (c : Core) => { c with events := c.events ||| BitVec.ofNat 16 (2 ^ bitNo) }
  { s with cores := { s.cores with cores := SMap.modify Core.reset s.cores.cores core post } }

/-! ### Free values -/

/-- The number of the next free value, and the state that has taken it. -/
def takeFree (s : State) : Nat × State := (s.freeUses, { s with freeUses := s.freeUses + 1 })

/-! ### Units withdrawn (R467) -/

/-- A unit is withdrawn: unit code and index. -/
def isWithdrawn (unit index : Nat) (s : State) : Bool := s.faults.withdrawn.contains (unit, index)

/-! ### MRAM pages (R398 to R408) -/

/-- First page of each copy, copies, and logical pages of a region (R398). -/
def Store.copyA : Store → Nat
  | .imageA => 0 | .imageB => 16384 | .keys => 32768 | .log => 65536 | .locket => 84262 | .config => 100646
/-- First page of copy B; an image has none. -/
def Store.copyB : Store → Nat
  | .imageA => 0 | .imageB => 16384 | .keys => 49152 | .log => 74899 | .locket => 92454 | .config => 108838
/-- Logical pages of a region. -/
def Store.size : Store → Nat
  | .imageA => 16384 | .imageB => 16384 | .keys => 16384 | .log => 9363 | .locket => 8192 | .config => 8192
/-- Whether a region has two copies. -/
def Store.two : Store → Bool
  | .imageA | .imageB => false
  | _ => true
/-- The number events and records name a region by: its place in the table of R398. -/
def Store.number : Store → Nat
  | .imageA => 0 | .imageB => 1 | .keys => 2 | .log => 3 | .locket => 4 | .config => 5

/-- The page that replaces page `p`, through spares that failed in their turn. -/
def replacement (m : SMap Nat) : Nat → Nat → Nat
  | 0, p => p
  | fuel + 1, p =>
    match SMap.find m p with
    | some spare => replacement m fuel (126977 + spare)
    | none => p

/-- The physical page an access to page `p` goes to: the spare that replaces it, when it has one (R407). -/
def physical (s : State) (p : Nat) : Nat := replacement s.mram.replaced s.mram.replaced.length p

/-- The CRC of a page at physical page `p` (R399). -/
def pageCrc (p seq : Nat) (payload : Bytes) : Nat := crc32cFrom p (natLE 4 seq ++ payload)

/-- A page is valid (R402). -/
def Page.valid (p : Nat) (g : Page) : Bool :=
  !g.poisoned && decide (g.seq ≠ 0) && decide (g.crc = pageCrc p g.seq g.payload)

/-- A page is blank or erased: its header is zero (R402, R403). -/
def Page.emptyHeader (g : Page) : Bool := !g.poisoned && decide (g.seq = 0) && decide (g.crc = 0)

/-- What a logical page reads as (R404): a copy in use at a physical page, nothing, or lost. -/
inductive PageView
  | used (phys : Nat) (page : Page)
  | empty
  | lost
  deriving DecidableEq, Repr

/-- SEQ `a` is newer than `b` (R404). -/
def seqNewer (a b : Nat) : Bool :=
  let d := (a + 2 ^ 32 - b) % 2 ^ 32
  decide (1 ≤ d) && decide (d < 2 ^ 31)

/-- The copy the controller uses for a logical page (R404). -/
def pageView (s : State) (st : Store) (q : Nat) : PageView :=
  let pa := physical s (st.copyA + q)
  let a := SMap.get Page.blank s.mram.pages pa
  if !st.two then
    if Page.valid pa a then .used pa a else if a.emptyHeader then .empty else .lost
  else
    let pb := physical s (st.copyB + q)
    let b := SMap.get Page.blank s.mram.pages pb
    match Page.valid pa a, Page.valid pb b with
    | true, true => if seqNewer b.seq a.seq then .used pb b else .used pa a
    | true, false => .used pa a
    | false, true => .used pb b
    | false, false => if a.emptyHeader && b.emptyHeader then .empty else .lost

/-- The payload of a logical page as a reader sees it: the copy in use, else zeros (R405, R410). -/
def readPage (s : State) (st : Store) (q : Nat) : Bytes :=
  match pageView s st q with
  | .used _ g => g.payload
  | _ => zeros 504

/-- The payload a new update of a page builds on: the update already queued or running, else the copy in use. -/
def latestPage (s : State) (st : Store) (q : Nat) : Bytes :=
  match s.mram.queue.find? (fun w => decide (w.store = st) && decide (w.page = q)) with
  | some w => w.payload
  | none =>
    match s.mram.current with
    | some w => if w.store = st ∧ w.page = q then w.payload else readPage s st q
    | none => readPage s st q

/-- Queues a page write; an update of a page queued and not yet started is merged into it (R406). -/
def queuePage (prio : Nat) (st : Store) (q : Nat) (payload : Bytes) (s : State) : State :=
  let w : PageWrite := { prio := prio, store := st, page := q, payload := padTo 504 payload, retried := false }
  let hit := fun (x : PageWrite) => decide (x.store = st) && decide (x.page = q)
  if s.mram.queue.any hit then
    let merged := s.mram.queue.map fun x => if hit x then { w with prio := min prio x.prio } else x
    { s with mram := { s.mram with queue := merged } }
  else { s with mram := { s.mram with queue := s.mram.queue ++ [w] } }

/-- An erase runs that ends with a write of page `q`, or erases it. -/
def eraseWaiting (e : Erase) (st : Store) (q : Nat) : Bool :=
  decide (e.store = st) &&
    (e.pages.contains q || (decide (q = 0) && (decide (e.purpose = .logClear) || decide (e.purpose = .locketClear))))

/-- A page is queued or being written, or an erase under way still concerns it. -/
def pageWaiting (s : State) (st : Store) (q : Nat) : Bool :=
  s.mram.queue.any (fun w => decide (w.store = st) && decide (w.page = q)) ||
    s.mram.erases.any (fun e => eraseWaiting e st q) ||
    match s.mram.current with
    | some w => decide (w.store = st) && decide (w.page = q)
    | none => false

/-- The write of highest priority, first in first out (R408), and the queue without it. -/
def takeWrite : List PageWrite → Option (PageWrite × List PageWrite)
  | [] => none
  | w :: t =>
    match takeWrite t with
    | none => some (w, [])
    | some (v, rest) => if v.prio < w.prio then some (v, w :: rest) else some (w, t)

/-- Starts the next page write when neither a write nor an erase runs, PWRFAIL_N is deasserted and the part is out of reset
(R400, R403, R408, R411). -/
def kickMram (s : State) : State :=
  if s.mram.current.isSome || !s.mram.erases.isEmpty || s.mram.pwrfail || decide (s.boot.phase = .inReset) then s
  else
    match takeWrite s.mram.queue with
    | none => s
    | some (w, rest) => { s with mram := { s.mram with queue := rest, current := some w } }

/-! ### Mailbox slots (R272 to R276) -/

/-- A slot at its reset value. -/
def MailSlot.free : MailSlot := { w0 := 0, w1 := 0, body := [] }

/-- The mailbox of a function. -/
def mailbox (s : State) (fn : Nat) : Mailbox := SMap.get Mailbox.empty s.tenants.mailboxes fn

/-- A message slot. -/
def mailSlot (s : State) (fn slot : Nat) : MailSlot := SMap.get MailSlot.free (mailbox s fn).slots slot

/-- Writes the mailbox of a function. -/
def setMailbox (fn : Nat) (m : Mailbox) (s : State) : State :=
  { s with tenants := { s.tenants with mailboxes := SMap.set Mailbox.empty s.tenants.mailboxes fn m } }

/-- Writes a message slot. -/
def setMailSlot (fn slot : Nat) (v : MailSlot) (s : State) : State :=
  let m := mailbox s fn
  setMailbox fn { m with slots := SMap.set MailSlot.free m.slots slot v } s

/-- LENGTH of a slot. -/
def MailSlot.length (v : MailSlot) : Nat := bits v.w0.toNat 8 8
/-- COMMAND of a slot. -/
def MailSlot.command (v : MailSlot) : Nat := bits v.w0.toNat 16 8
/-- RESULT of a slot. -/
def MailSlot.result (v : MailSlot) : Nat := bits v.w0.toNat 24 8
/-- SEQ of a slot. -/
def MailSlot.seq (v : MailSlot) : Nat := bits v.w0.toNat 32 32

/-- W0 from its fields (R273). -/
def mailW0 (state length command result seq : Nat) : BitVec 64 :=
  BitVec.ofNat 64 (state % 8 + (length % 256) * 2 ^ 8 + (command % 256) * 2 ^ 16 + (result % 256) * 2 ^ 24 +
    (seq % 2 ^ 32) * 2 ^ 32)

/-- CHECK over W0, with STATE and RESULT taken as zero, and the body (R273). -/
def mailCheck (length command seq : Nat) (body : Bytes) : Nat :=
  crc32c (natLE 8 (mailW0 0 length command 0 seq).toNat ++ body.take length)

/-- The reply of one message is written: body, LENGTH, RESULT and CHECK, then LAST_EXEC advances and STATE becomes
011 (R275); the function is told that a reply is ready (R260, R272). -/
def writeReply (fn slot seq result : Nat) (value : Bytes) (s : State) : State :=
  let v := mailSlot s fn slot
  let n := value.length
  let s := setMailSlot fn slot
    { w0 := mailW0 3 n v.command result seq, w1 := BitVec.ofNat 64 (mailCheck n v.command seq value),
      body := value } s
  let m := mailbox s fn
  let s := setMailbox fn { m with lastExec := BitVec.ofNat 32 seq } s
  if fn = 0 then managerNotify 7 s else tenantNotify fn 2 s

/-- The firmware or the boot ROM serves mailboxes (R419, R574, R580). -/
def mailServed (s : State) : Bool :=
  match s.boot.phase with
  | .loading | .recovery | .complete | .stopped => true
  | _ => false

/-- The message in a slot is the next its mailbox executes (R275). -/
def mailNext (s : State) (fn slot : Nat) : Bool :=
  let v := mailSlot s fn slot
  mailServed s && decide (v.state = 1) && decide (v.seq = ((mailbox s fn).lastExec + 1).toNat) &&
    !(mailbox s fn).slots.any fun x => decide (x.2.state = 2)

/-- NOP, and commands that do not exist: they have no row of their own (R276). -/
def plainCommand (c : Nat) : Bool := decide (c = 0) || decide (c ≥ 6)

/-- RESULT of NOP and of unknown commands (R277, R419). -/
def plainResult (s : State) (fn : Nat) (v : MailSlot) : Nat :=
  if lockedNow s ∧ v.command ≠ 0 then 7
  else if s.boot.phase = .recovery ∧ (fn ≠ 0 ∨ v.command ≠ 0) then 3
  else if v.command ≠ 0 then 1
  else if v.length ≠ 0 then 2 else 0

/-- Executes the messages of NOP and of unknown commands that are next. -/
def runPlain (fn : Nat) : Nat → State → State
  | 0, s => s
  | fuel + 1, s =>
    match (mailbox s fn).slots.find? fun x => mailNext s fn x.1 && plainCommand x.2.command with
    | some (slot, v) => runPlain fn fuel (writeReply fn slot v.seq (plainResult s fn v) [] s)
    | none => s

/-- A reply is written, and the messages behind it that have no row of their own are executed. -/
def mailReply (fn slot seq result : Nat) (value : Bytes) (s : State) : State :=
  runPlain fn 16 (writeReply fn slot seq result value s)

/-! ### Waits for durability and for the peer (R524, R557, R560) -/

/-- The peer is in sync or eligible as this holder knows it, so that the waits of R557 apply (R560, R562). -/
def replicating (s : State) : Bool := activeNow s && decide (s.twin.peerSync = 3)

/-- Every record of the list is acknowledged, or no wait of R557 applies. -/
def recordsDone (s : State) (rs : List Nat) : Bool :=
  !replicating s || rs.all fun r => decide (r ≤ s.twin.ackedTo)

/-- None of the pages waits to be durable. -/
def pagesDone (s : State) (ps : List (Store × Nat)) : Bool := ps.all fun p => !pageWaiting s p.1 p.2

/-! ### Clasp frames and replication records (R534, R535, R557, R558, R562) -/

/-- The side number of this part in the link session: its TWIN_SIDE, or by serial number when both sides are equal
(assumption 31). -/
def sessionSide (s : State) : Nat :=
  match s.clasp.peerHello with
  | none => s.twin.side
  | some h =>
    if (h.getD 9 0).toNat ≠ s.twin.side then s.twin.side
    else if s.fuses.serial.toNat < leNat (h.take 8) then 0 else 1

/-- The tag, with the body as it travels: encrypted in a bound session, in clear under a CMAC in an unbound one. -/
def claspProtect (s : State) (side : Nat) (key head body : Bytes) (fseq : Nat) : Bytes :=
  if s.clasp.link = 4 then
    let r := gcmSeal key (natBE 4 side ++ natBE 8 fseq) head body 16
    r.1 ++ r.2
  else if s.clasp.link = 3 then body ++ cmac .aes s.clasp.bindKey (head ++ body)
  else body ++ zeros 16

/-- Sends a frame: the next FSEQ of the session, and the highest record applied. -/
def claspSend (kind : Nat) (body : Bytes) (s : State) : State :=
  let fseq := s.clasp.txSeq + 1
  let head := [byte kind, 0] ++ natLE 2 body.length ++ natLE 8 fseq ++ natLE 8 s.twin.applied
  send (.clasp (head ++ claspProtect s (sessionSide s) s.clasp.txKey head body fseq))
    { s with clasp := { s.clasp with txSeq := fseq } }

/-- A replication record (R558). -/
def replRecord (number kind : Nat) (content : Bytes) : Bytes :=
  [byte kind, 0] ++ natLE 2 content.length ++ natLE 8 number ++ content

/-- The holder replicates a change to a peer that is in sync or resynchronising (R557, R562); answers the records to
wait for. -/
def replicate (kind : Nat) (content : Bytes) (s : State) : List Nat × State :=
  if activeNow s && decide (s.twin.peerSync ≥ 2) then
    let n := s.twin.nextRecord
    let r : SentRecord := { number := n, kind := kind, content := content, queuedAt := s.disp.tick }
    let s := { s with twin := { s.twin with nextRecord := n + 1, unacked := s.twin.unacked ++ [r],
                                            recordsSent := s.twin.recordsSent + 1 } }
    ([n], if s.clasp.link = 4 then claspSend 0x20 (replRecord n kind content) s else s)
  else ([], s)

/-- The highest record with which everything up to it is applied and durable. -/
def appliedNow (s : State) : Nat :=
  match s.twin.ackWaits.find? fun w => !pagesDone s w.2.1 || !eventDurable s w.2.2 with
  | some w => w.1 - 1
  | none => s.twin.processed

/-- The copy is complete (R549, R562): the part is in sync, and event 0x0909 gives the items and the time they took. -/
def becomeInSync (s : State) : State :=
  logEvent 0x0909 0xFFFF (natLE 4 s.twin.resyncItems ++ natLE 4 (s.disp.tick - s.twin.resyncStart))
    { s with twin := { s.twin with sync := 3, inSyncAt := s.disp.tick, renewSeen := false, holdStopped := false } }

/-- The standby acknowledges what has become durable (R557, R559). -/
def advanceApplied (s : State) : State :=
  if !standbyNow s || decide (s.twin.sync < 2) || decide (appliedNow s = s.twin.applied) then s
  else
    let t := { s with twin := { s.twin with applied := appliedNow s } }
    let t := if s.twin.sync = 2 ∧ s.twin.resyncItems ≠ 0 ∧ appliedNow s ≥ s.twin.resyncItems then becomeInSync t else t
    if s.clasp.link = 4 then claspSend 0x03 [] t else t

/-! ### Held answers (R524) -/

/-- The device's MAC address (R486). -/
def deviceMac (s : State) : Bytes := byte 2 :: natBE 5 (s.fuses.serial.toNat % 2 ^ 40)

/-- The Llyno part of a frame of the device: TAG under a key, or zero in untagged types (R487). -/
def llynoFrame (s : State) (type session seq : Nat) (body : Bytes) (key : Option Bytes) : Bytes :=
  let head := [byte 1, byte type] ++ natLE 2 body.length ++ natLE 4 session ++ natLE 4 seq ++ body
  match key with
  | some k => head ++ cmac .aes k (deviceMac s ++ head)
  | none => head ++ zeros 16

/-- The REPLY to the frame last executed in the session, which is kept for a repetition (R488, R495). -/
def custodyReply (result : Nat) (value : Bytes) (s : State) : State :=
  let frame := llynoFrame s 0x11 s.custody.sessionId s.custody.seq ([byte result, 0, 0, 0] ++ value) (some s.custody.kmac)
  send (.llyno s.custody.peerMac frame)
    { s with reply := (result, value), custody := { s.custody with cached := frame } }

/-- The slot number by which a held answer of the custody path shows that a REQUEST waits for it. -/
def requestSlot : Nat := 17

/-- Gives one answer that was held. -/
def giveReply (h : HeldReply) (s : State) : State :=
  match h.path with
  | .mailbox fn => mailReply fn h.slot h.seq h.result h.value s
  | .custody =>
    if h.slot = requestSlot ∧ s.custody.session = .opened then custodyReply h.result h.value s
    else { s with reply := (h.result, h.value) }

/-- Gives every held answer whose pages are durable and whose records are acknowledged. -/
def releaseReplies (s : State) : State :=
  let done := fun (h : HeldReply) => pagesDone s h.pages && recordsDone s h.records && eventDurable s h.event
  let ready := s.dict.held.filter done
  let waiting := s.dict.held.filter fun h => !done h
  ready.foldl (fun s h => giveReply h s) { s with dict := { s.dict with held := waiting } }

/-- A function reset is complete: its Chains are revoked and the peer has acknowledged its record (R256, R258). -/
def resetReported (s : State) (x : Nat × List Nat) : Bool :=
  recordsDone s x.2 && s.disp.chains.all fun c => decide (c.2.fn ≠ x.1) || !c.2.revoked

/-- Function resets that are complete are reported to the manager and to the tenant (R256, R260, R272). -/
def reportResets (s : State) : State :=
  let ready := s.host.resetReports.filter (resetReported s)
  let rest := s.host.resetReports.filter fun x => !resetReported s x
  ready.foldl (fun s x => tenantNotify x.1 5 (managerNotify 4 s)) { s with host := { s.host with resetReports := rest } }

/-- The result that an action's entry shows: the one before, until the action's records are acknowledged (R557). -/
def shownResult (s : State) (result before : Nat) (await : List Nat) : Nat :=
  if recordsDone s await then result else before

/-! ### The end of every command -/

/-- A source of the generator. -/
def getSource (s : State) (i : Nat) : Source := s.rng.sources.getD i Source.reset

/-- Writes a source. -/
def putSource (i : Nat) (x : Source) (s : State) : State :=
  { s with rng := { s.rng with sources := setAt s.rng.sources i x } }

/-- Capture of raw bits ends; the running window, of which bits have left the device, will not be released (R338). -/
def endCapture (s : State) : State := if s.rng.capture = 0xFF then s else { s with rng := { s.rng with capture := 0xFF } }

/-- While the debug port is closed, the test access port is held in Test-Logic-Reset, and no bits are captured (R338, R605). -/
def holdPort (s : State) : State :=
  if portOpen s then s else endCapture { s with tap := { s.tap with instruction := tapIdcode, shift := [] } }

/-- Drives the pins. -/
def drivePins (s : State) : State := { s with pins := pinsNow s }

/-- What an update of the Mode Word brings with it (R36, R37): count, time, event 0x0101, the manager notification
when a changed bit is not masked off, the tenants' cause bit 0, and the MODE event. -/
def modeChanged (old new : ModeWord) (s : State) : State :=
  let changed := (BitVec.ofNat 32 old.toNat ^^^ BitVec.ofNat 32 new.toNat) &&& s.modes.notifyMask
  let s := { s with modes := { s.modes with updates := s.modes.updates + 1,
                                            updateTime := s.sec.deviceTime.toNat } }
  let s := logEvent 0x0101 deviceSource (natLE 4 old.toNat ++ natLE 4 new.toNat) s
  let s := if changed = 0 then s else managerNotify 0 s
  postDeviceEvent 8 (notifyTenants 0 s)

/-- The modes as the part's condition now gives them, in one whole update (R35). -/
def updateModes (s : State) : State :=
  let old := s.modes.word
  let new := modeWordNow s
  if new = old then s else
    let s := modeChanged old new s
    { s with modes := { s.modes with word := new } }

/-- One whole update of the Mode Word in which modes that latch change by `f` (R35, R38). -/
def latchModes (f : ModeWord → ModeWord) (s : State) : State :=
  let old := s.modes.word
  let new := modeWordNow { s with modes := { s.modes with word := f old } }
  if new = old then s else
    let s := modeChanged old new s
    { s with modes := { s.modes with word := new } }

/-- The end of every command: acknowledgements to the peer, held answers and reports, the next page write, the counts that activity breaks, the
debug port, the Mode Word, the pins. -/
def settle (s : State) : State :=
  drivePins (updateModes (holdPort (noteActivity (kickMram (reportResets (releaseReplies (advanceApplied s)))))))

/-- A command that has had its effect. -/
def complete (s : State) : Host.Outcome State Fault Refusal := .next (settle s)

end Sys2Proof.Machine
end

