-- ==== Sys2Proof/Machine/FaultRecords.lean ====
section
/-!
DEFINITION. Fault codes, the counting of Corrected faults, and the opening, merging and latching of fault
records (R459 to R465, R467). The responses of the classes stand in `FaultOps`.
-/
namespace Sys2Proof.Machine

/-- A fault code from its class (1 Corrected, 2 Contained, 3 Fatal), unit and cause (R459). -/
def faultCode (cls unit cause : Nat) : Nat := cls * 0x4000 + unit * 0x100 + cause

/-- Class, unit and cause of a code. -/
def codeClass (code : Nat) : Nat := code / 0x4000
def codeUnit (code : Nat) : Nat := code / 0x100 % 64

/-- The state of a record (R462). -/
def recHandling : Nat := 1
def recLatched : Nat := 2
def recClearing : Nat := 3

/-- Record `a` opened before record `b`: by time, then by entry. -/
def openedBefore (a b : Nat × FaultRecord) : Bool :=
  decide (a.2.first.toNat < b.2.first.toNat) || (decide (a.2.first = b.2.first) && decide (a.1 < b.1))

/-- The first-opened of the records given. -/
def firstOpened : List (Nat × FaultRecord) → Option (Nat × FaultRecord)
  | [] => none
  | r :: t => match firstOpened t with
    | none => some r
    | some q => if openedBefore q r then some q else some r

/-- The record a fault merges into: in handling, with the fault's unit in SOURCES, or Fatal (R464). -/
def mergeTarget (s : State) (code : Nat) : Option (Nat × FaultRecord) :=
  firstOpened (s.faults.records.filter fun r =>
    decide (r.2.state = recHandling) && (bitOf r.2.sources (codeUnit code) || r.2.isFatal))

/-- The lowest free entry from `lo` up to `hi`. -/
def freeEntry (s : State) (lo hi : Nat) : Option Nat :=
  (List.range (hi - lo)).map (· + lo) |>.find? fun e => (SMap.find s.faults.records e).isNone

/-- Writes one record. -/
def putRecord (e : Nat) (r : FaultRecord) (s : State) : State :=
  { s with faults := { s.faults with records := SMap.put s.faults.records e r } }

/-- Frees one record. -/
def freeRecord (e : Nat) (s : State) : State :=
  { s with faults := { s.faults with records := SMap.erase s.faults.records e } }

/-- ARGS of the events 0x0201 and 0x0202. -/
def faultEventArgs (entry index : Nat) (args : Bytes) : Bytes :=
  [byte entry, byte index, 0, 0] ++ (padTo 32 args).take 28

/-- An internal fault of the host interface is reported through AER as well (R252). -/
def reportInternal (code : Nat) (s : State) : State :=
  if codeUnit code = 0x0A ∧ s.host.linkUp then send (.aer 0 (if codeClass code = 1 then aerCorrected else aerInternal)) s else s

/-- Counts a Corrected fault; a count of its unit above the threshold stages one event in a Device Time second (R465). -/
def countCorrected (code : Nat) (s : State) : State :=
  let s := reportInternal code s
  let u := codeUnit code
  let now := s.sec.deviceTime.toNat / 32768
  let counts := if s.faults.second = now then s.faults.inSecond else List.replicate 17 0
  let noted := if s.faults.second = now then s.faults.noted else []
  let n := counts.getD (u - 1) 0 + 1
  let total := s.faults.corrected.getD (u - 1) 0 + 1
  let above := decide (n > s.faults.threshold) && !noted.contains u
  let s := { s with faults := { s.faults with corrected := setAt s.faults.corrected (u - 1) total,
                                              inSecond := setAt counts (u - 1) n, second := now,
                                              noted := if above then noted ++ [u] else noted } }
  if above then logEvent 0x0204 (u * 0x100) (natLE 4 n) s else s

/-- A merge (R464): SOURCES, MERGES, LAST fields, the units to test at the clear, and the class. -/
def mergeFault (e : Nat) (r : FaultRecord) (code index : Nat) (args : Bytes) (units : List (Nat × Nat))
    (s : State) : Option Nat × State :=
  let r := { r with sources := r.sources ||| 2 ^ codeUnit code, merges := min (r.merges + 1) 0xFFFFFFFF,
                    lastCode := code, lastIndex := index, last := s.sec.deviceTime,
                    units := r.units ++ units.filter fun u => !r.units.contains u }
  let raised := decide (codeClass code = 3) && !r.isFatal
  let r := if raised then { r with code := 0xC000 + r.code % 0x4000 } else r
  let target := if raised then (freeEntry s 56 64).getD e else e
  let s := putRecord target r (if target = e then s else freeRecord e s)
  (some target, logEvent 0x0202 code (faultEventArgs target index args) s)

/-- A fault of class Contained or Fatal is recorded (R462 to R464), with its event, notification and AER report; answers the
entry that holds it. -/
def recordFault (code index : Nat) (args : Bytes) (units : List (Nat × Nat)) (s : State) : Option Nat × State :=
  let note := fun (s : State) => managerNotify 5 (postDeviceEvent 7 s)
  let s := reportInternal code s
  match mergeTarget s code with
  | some (e, r) => mergeFault e r code index args units s
  | none =>
    let entry := if codeClass code = 3 then freeEntry s 56 64 else freeEntry s 0 56
    match entry with
    | none =>
      let s := { s with faults := { s.faults with withoutRecord := s.faults.withoutRecord + 1 } }
      (none, note (logEvent 0x0201 code (faultEventArgs 0xFF index args) s))
    | some e =>
      let r : FaultRecord :=
        { code := code, index := index, state := recHandling, merges := 0, sources := 2 ^ codeUnit code,
          lastCode := code, lastIndex := index, first := s.sec.deviceTime, last := s.sec.deviceTime,
          args := padTo 32 args, units := units, testing := [], opened := s.disp.tick }
      (some e, note (logEvent 0x0201 code (faultEventArgs e index args) (putRecord e r s)))

/-- The response has been carried out: a Contained record in handling is latched; a Fatal one stays in handling
(R463). -/
def latchRecord (entry : Option Nat) (s : State) : State :=
  match entry with
  | none => s
  | some e =>
    match SMap.find s.faults.records e with
    | none => s
    | some r => if r.isFatal || decide (r.state ≠ recHandling) then s
                else putRecord e { r with state := recLatched } s

/-- Withdraws units (R467). -/
def withdraw (units : List (Nat × Nat)) (s : State) : State :=
  { s with faults := { s.faults with
      withdrawn := s.faults.withdrawn ++ units.filter fun u => !s.faults.withdrawn.contains u } }

/-- Returns a unit to service. -/
def restoreUnit (unit : Nat × Nat) (s : State) : State :=
  { s with faults := { s.faults with withdrawn := s.faults.withdrawn.filter fun u => decide (u ≠ unit) } }

/-- A Contained fault with its response: recorded, answered and latched. -/
def containFault (unit cause index : Nat) (args : Bytes) (units : List (Nat × Nat)) (respond : State → State)
    (s : State) : State :=
  let (e, s) := recordFault (faultCode 2 unit cause) index args units s
  latchRecord e (respond (withdraw units s))

end Sys2Proof.Machine
end

