-- ==== Sys2Proof/Machine/Hashes.lean ====
section
/-!
DEFINITION. The digests of the hash units (R125): SHA-2 as FIPS 180-4 defines it, SHA-3 and SHAKE as
FIPS 202 defines them, HMAC as FIPS 198-1 defines it, and the mask function MGF1 of RFC 8017. The
spec names them and leaves their definition to these standards (assumption 2).
-/
namespace Sys2Proof.Machine

/-! ### SHA-2 -/

/-- The highest `x` below `2 ^ k` above the `x` given whose power `d` does not exceed `n`, bit by bit from bit k - 1 down. -/
def rootBits (d n : Nat) : Nat → Nat → Nat
  | 0, x => x
  | k + 1, x => rootBits d n k (if (x + 2 ^ k) ^ d ≤ n then x + 2 ^ k else x)

/-- The first 64 fractional bits of root `d` of a number below 8 ^ d. -/
def rootFraction (d p : Nat) : Nat := rootBits d (p * 2 ^ (64 * d)) 67 0 % 2 ^ 64

/-- A prime number below 441. -/
def smallPrime (n : Nat) : Bool :=
  decide (n > 1) && (List.range 21).all fun d => decide (d < 2) || decide (n ≤ d) || decide (n % d ≠ 0)

/-- The first eighty primes, the last of which is 409. -/
def firstPrimes : List Nat := (List.range 410).filter smallPrime

/-- FIPS 180-4 takes the round constants of SHA-384 and SHA-512 from the cube roots of the first eighty primes. -/
def sha512K : List Nat := firstPrimes.map (rootFraction 3)

/-- The round constants of SHA-256 are the upper halves of the first 64 of them. -/
def sha256K : List Nat := (sha512K.take 64).map fun k => k / 2 ^ 32

/-- The initial hash value of SHA-512 comes from the square roots of the first eight primes. -/
def sha512H : List Nat := (firstPrimes.take 8).map (rootFraction 2)

/-- That of SHA-384 comes from the next eight. -/
def sha384H : List Nat := ((firstPrimes.drop 8).take 8).map (rootFraction 2)

/-- That of SHA-256 is the upper halves of SHA-512's. -/
def sha256H : List Nat := sha512H.map fun h => h / 2 ^ 32

/-- What differs between SHA-256 and SHA-512: the word width, the rotations and the constants. -/
structure Sha2 where
  w : Nat
  big0 : Nat × Nat × Nat
  big1 : Nat × Nat × Nat
  small0 : Nat × Nat × Nat
  small1 : Nat × Nat × Nat
  k : List Nat
  deriving DecidableEq, Repr

/-- The 32-bit member of the family. -/
def sha2Narrow : Sha2 :=
  ⟨32, (2, 13, 22), (6, 11, 25), (7, 18, 3), (17, 19, 10), sha256K⟩

/-- The 64-bit member of the family. -/
def sha2Wide : Sha2 :=
  ⟨64, (28, 34, 39), (14, 18, 41), (1, 8, 7), (19, 61, 6), sha512K⟩

/-- `x` rotated right by `n` in a word of `w` bits. -/
def rotr (w n x : Nat) : Nat := (x >>> n ||| x <<< (w - n)) % 2 ^ w

/-- A sum of three rotations. -/
def sigmaBig (w : Nat) (r : Nat × Nat × Nat) (x : Nat) : Nat :=
  rotr w r.1 x ^^^ rotr w r.2.1 x ^^^ rotr w r.2.2 x

/-- A sum of two rotations and a shift. -/
def sigmaSmall (w : Nat) (r : Nat × Nat × Nat) (x : Nat) : Nat :=
  rotr w r.1 x ^^^ rotr w r.2.1 x ^^^ (x >>> r.2.2)

/-- The message schedule extended by `fuel` words; `ws` holds the words so far, newest first. -/
def sha2Schedule (p : Sha2) : Nat → List Nat → List Nat
  | 0, ws => ws
  | fuel + 1, ws =>
    let x := (sigmaSmall p.w p.small1 (ws.getD 1 0) + ws.getD 6 0
      + sigmaSmall p.w p.small0 (ws.getD 14 0) + ws.getD 15 0) % 2 ^ p.w
    sha2Schedule p fuel (x :: ws)

/-- The eight working variables. -/
structure ShaVars where
  a : Nat
  b : Nat
  c : Nat
  d : Nat
  e : Nat
  f : Nat
  g : Nat
  h : Nat
  deriving DecidableEq, Repr

/-- One round of SHA-2 with schedule word `w` and constant `k`. -/
def sha2Round (p : Sha2) (v : ShaVars) (kw : Nat × Nat) : ShaVars :=
  let m := 2 ^ p.w
  let ch := (v.e &&& v.f) ^^^ ((m - 1 - v.e) &&& v.g)
  let maj := (v.a &&& v.b) ^^^ (v.a &&& v.c) ^^^ (v.b &&& v.c)
  let t1 := v.h + sigmaBig p.w p.big1 v.e + ch + kw.1 + kw.2
  let t2 := sigmaBig p.w p.big0 v.a + maj
  ⟨(t1 + t2) % m, v.a, v.b, v.c, (v.d + t1) % m, v.e, v.f, v.g⟩

/-- The working variables of a chaining value. -/
def shaVarsOf (h : List Nat) : ShaVars :=
  ⟨h.getD 0 0, h.getD 1 0, h.getD 2 0, h.getD 3 0, h.getD 4 0, h.getD 5 0, h.getD 6 0, h.getD 7 0⟩

/-- One block of SHA-2 absorbed into the chaining value. -/
def sha2Block (p : Sha2) (h : List Nat) (block : Bytes) : List Nat :=
  let ws := ((chunks (p.w / 8) block).map beNat).reverse
  let sched := (sha2Schedule p (p.k.length - 16) ws).reverse
  let v := (List.zip p.k sched).foldl (sha2Round p) (shaVarsOf h)
  List.zipWith (fun x y => (x + y) % 2 ^ p.w) h [v.a, v.b, v.c, v.d, v.e, v.f, v.g, v.h]

/-- The padding of SHA-2: a one bit, zeros and the bit length in two words. -/
def sha2Pad (p : Sha2) (msg : Bytes) : Bytes :=
  let block := 2 * p.w
  let lenBytes := p.w / 4
  msg ++ 0x80 :: zeros ((2 * block - (msg.length + 1 + lenBytes) % block) % block)
    ++ natBE lenBytes (8 * msg.length)

/-- SHA-2 of a message from an initial value, cut to `out` bytes. -/
def sha2 (p : Sha2) (h0 : List Nat) (out : Nat) (msg : Bytes) : Bytes :=
  (((chunks (2 * p.w) (sha2Pad p msg)).foldl (sha2Block p) h0).flatMap (natBE (p.w / 8))).take out

/-- SHA-256. -/
def sha256 (msg : Bytes) : Bytes := sha2 sha2Narrow sha256H 32 msg

/-- SHA-384. -/
def sha384 (msg : Bytes) : Bytes := sha2 sha2Wide sha384H 48 msg

/-- SHA-512. -/
def sha512 (msg : Bytes) : Bytes := sha2 sha2Wide sha512H 64 msg

/-! ### SHA-3 and SHAKE -/

/-- The round constants of Keccak-f[1600]. -/
def keccakRc : List Nat :=
  [ 0x0000000000000001, 0x0000000000008082, 0x800000000000808a, 0x8000000080008000,
    0x000000000000808b, 0x0000000080000001, 0x8000000080008081, 0x8000000000008009,
    0x000000000000008a, 0x0000000000000088, 0x0000000080008009, 0x000000008000000a,
    0x000000008000808b, 0x800000000000008b, 0x8000000000008089, 0x8000000000008003,
    0x8000000000008002, 0x8000000000000080, 0x000000000000800a, 0x800000008000000a,
    0x8000000080008081, 0x8000000000008080, 0x0000000080000001, 0x8000000080008008 ]

/-- For each lane after the rho and pi steps, the lane it comes from and its rotation. -/
def keccakRhoPi : List (Nat × Nat) :=
  [ (0, 0), (6, 44), (12, 43), (18, 21), (24, 14),
    (3, 28), (9, 20), (10, 3), (16, 45), (22, 61),
    (1, 1), (7, 6), (13, 25), (19, 8), (20, 18),
    (4, 27), (5, 36), (11, 10), (17, 15), (23, 56),
    (2, 62), (8, 55), (14, 39), (15, 41), (21, 2) ]

/-- A 64-bit lane rotated left. -/
def rotl64 (n x : Nat) : Nat := (x <<< n ||| x >>> (64 - n)) % 2 ^ 64

/-- One round of Keccak-f[1600]; lane (x, y) stands at x + 5y. -/
def keccakRound (a : List Nat) (rc : Nat) : List Nat :=
  let at' := fun i => a.getD i 0
  let c := (List.range 5).map fun x =>
    at' x ^^^ at' (x + 5) ^^^ at' (x + 10) ^^^ at' (x + 15) ^^^ at' (x + 20)
  let d := (List.range 5).map fun x => c.getD ((x + 4) % 5) 0 ^^^ rotl64 1 (c.getD ((x + 1) % 5) 0)
  let t := a.mapIdx fun i v => v ^^^ d.getD (i % 5) 0
  let b := keccakRhoPi.map fun p => rotl64 p.2 (t.getD p.1 0)
  b.mapIdx fun i v =>
    let y := i / 5 * 5
    let chi := v ^^^ ((2 ^ 64 - 1 - b.getD (y + (i + 1) % 5) 0) &&& b.getD (y + (i + 2) % 5) 0)
    if i = 0 then chi ^^^ rc else chi

/-- Keccak-f[1600]. -/
def keccakF (a : List Nat) : List Nat := keccakRc.foldl keccakRound a

/-- A block of `rate` bytes absorbed into the state. -/
def keccakAbsorb (a : List Nat) (block : Bytes) : List Nat :=
  let m := (chunks 8 block).map leNat
  keccakF (a.mapIdx fun i v => v ^^^ m.getD i 0)

/-- `blocks` blocks of `rate` bytes squeezed from the state. -/
def keccakSqueeze (rate : Nat) : Nat → List Nat → Bytes
  | 0, _ => []
  | blocks + 1, a => (a.flatMap (natLE 8)).take rate ++ keccakSqueeze rate blocks (keccakF a)

/-- The sponge of FIPS 202 with rate `rate`, domain byte `dom` and `out` bytes of output. -/
def keccak (rate : Nat) (dom : Nat) (out : Nat) (msg : Bytes) : Bytes :=
  let fill := rate - msg.length % rate
  let pad := if fill = 1 then [byte (dom + 0x80)] else byte dom :: zeros (fill - 2) ++ [0x80]
  let a := (chunks rate (msg ++ pad)).foldl keccakAbsorb (List.replicate 25 0)
  (keccakSqueeze rate (ceilDiv out rate) a).take out

/-- SHA3-256. -/
def sha3_256 (msg : Bytes) : Bytes := keccak 136 0x06 32 msg

/-- SHA3-512. -/
def sha3_512 (msg : Bytes) : Bytes := keccak 72 0x06 64 msg

/-- SHAKE128. -/
def shake128 (out : Nat) (msg : Bytes) : Bytes := keccak 168 0x1F out msg

/-- SHAKE256. -/
def shake256 (out : Nat) (msg : Bytes) : Bytes := keccak 136 0x1F out msg

/-! ### Digests by name, HMAC and MGF1 -/

/-- The fixed-length digests of R125, in the order of the ALG field. -/
inductive HashAlg
  | sha256
  | sha384
  | sha512
  | sha3w256
  | sha3w512
  deriving DecidableEq, Repr

/-- The digest length in bytes (R125). -/
def digestLen : HashAlg → Nat
  | .sha256 => 32
  | .sha384 => 48
  | .sha512 => 64
  | .sha3w256 => 32
  | .sha3w512 => 64

/-- The block length of HMAC (R126). -/
def hashBlockLen : HashAlg → Nat
  | .sha256 => 64
  | .sha384 => 128
  | .sha512 => 128
  | .sha3w256 => 136
  | .sha3w512 => 72

/-- The digest of a message. -/
def digest : HashAlg → Bytes → Bytes
  | .sha256, m => sha256 m
  | .sha384, m => sha384 m
  | .sha512, m => sha512 m
  | .sha3w256, m => sha3_256 m
  | .sha3w512, m => sha3_512 m

/-- HMAC; a key longer than the block is hashed first (R126). -/
def hmac (alg : HashAlg) (key msg : Bytes) : Bytes :=
  let b := hashBlockLen alg
  let k := padTo b (if b < key.length then digest alg key else key)
  digest alg (k.map (· ^^^ 0x5C) ++ digest alg (k.map (· ^^^ 0x36) ++ msg))

/-- The mask generation function MGF1 of RFC 8017. -/
def mgf1 (alg : HashAlg) (seed : Bytes) (len : Nat) : Bytes :=
  ((List.range (ceilDiv len (digestLen alg))).flatMap fun i =>
    digest alg (seed ++ natBE 4 i)).take len

end Sys2Proof.Machine
end

