-- ==== Sys2Proof/Machine/Curves.lean ====
section
/-!
DEFINITION. The arithmetic of the PKE pairs (R149): modular exponentiation and inversion, the NIST
curves with ECDSA (FIPS 186-5, R153) and ECDH, Ed25519 (RFC 8032, R154) and X25519 (RFC 7748). The
spec names the algorithms and leaves their definition to these standards (assumption 2). Blinding
(R156) changes no result and stands only in what a Link draws (R333).
-/
namespace Sys2Proof.Machine

/-! ### Modular arithmetic -/

/-- Square and multiply over the low `k` bits of the exponent, most significant first. -/
def powModFuel (b e m : Nat) : Nat → Nat → Nat
  | 0, acc => acc
  | k + 1, acc =>
    let sq := acc * acc % m
    powModFuel b e m k (if e.testBit k then sq * b % m else sq)

/-- `b ^ e` modulo `m`. -/
def powMod (b e m : Nat) : Nat := powModFuel (b % m) e m (Nat.log2 e + 1) (1 % m)

/-- Extended Euclid: the pair of a greatest common divisor and the coefficient of the first value. -/
def egcdFuel : Nat → Int → Int → Int → Int → Int × Int
  | 0, r0, _, s0, _ => (r0, s0)
  | k + 1, r0, r1, s0, s1 =>
    if r1 = 0 then (r0, s0) else egcdFuel k r1 (r0 - r0 / r1 * r1) s1 (s0 - r0 / r1 * s1)

/-- The inverse of `a` modulo `m`, when it has one. -/
def modInv (a m : Nat) : Option Nat :=
  let r := egcdFuel (3 * (Nat.log2 m + 2)) (a % m : Nat) m 1 0
  if r.1 = 1 then some (r.2 % (m : Int)).toNat else none

/-- The inverse modulo a prime of a value that is not zero modulo it. -/
def invP (a p : Nat) : Nat := (modInv a p).getD 0

/-- `a - b` modulo `p`. -/
def subMod (a b p : Nat) : Nat := (a + (p - b % p)) % p

/-! ### The NIST curves -/

/-- A curve y² = x³ - 3x + b over a prime field, with its base point and order. -/
structure Curve where
  p : Nat
  b : Nat
  n : Nat
  gx : Nat
  gy : Nat
  deriving DecidableEq, Repr

/-- An affine point; the point at infinity has no coordinates. -/
abbrev Point := Option (Nat × Nat)

/-- P-256 of SP 800-186. -/
def p256 : Curve where
  p := 0xffffffff00000001000000000000000000000000ffffffffffffffffffffffff
  b := 0x5ac635d8aa3a93e7b3ebbd55769886bc651d06b0cc53b0f63bce3c3e27d2604b
  n := 0xffffffff00000000ffffffffffffffffbce6faada7179e84f3b9cac2fc632551
  gx := 0x6b17d1f2e12c4247f8bce6e563a440f277037d812deb33a0f4a13945d898c296
  gy := 0x4fe342e2fe1a7f9b8ee7eb4a7c0f9e162bce33576b315ececbb6406837bf51f5

/-- P-384 of SP 800-186. -/
def p384 : Curve where
  p := 0xfffffffffffffffffffffffffffffffffffffffffffffffffffffffffffffffeffffffff0000000000000000ffffffff
  b := 0xb3312fa7e23ee7e4988e056be3f82d19181d9c6efe8141120314088f5013875ac656398d8a2ed19d2a85c8edd3ec2aef
  n := 0xffffffffffffffffffffffffffffffffffffffffffffffffc7634d81f4372ddf581a0db248b0a77aecec196accc52973
  gx := 0xaa87ca22be8b05378eb1c71ef320ad746e1d3b628ba79b9859f741e082542a385502f25dbf55296c3a545e3872760ab7
  gy := 0x3617de4a96262c6f5d9e98bf9292dc29f8f41dbd289a147ce9da3113b5f0b8c00a60b1ce1d7e819d7a431d7c90ea0e5f

/-- P-521 of SP 800-186. -/
def p521 : Curve where
  p := 0x1ffffffffffffffffffffffffffffffffffffffffffffffffffffffffffffffffffffffffffffffffffffffffffffffffffffffffffffffffffffffffffffffffff
  b := 0x51953eb9618e1c9a1f929a21a0b68540eea2da725b99b315f3b8b489918ef109e156193951ec7e937b1652c0bd3bb1bf073573df883d2c34f1ef451fd46b503f00
  n := 0x1fffffffffffffffffffffffffffffffffffffffffffffffffffffffffffffffffa51868783bf2f966b7fcc0148f709a5d03bb5c9b8899c47aebb6fb71e91386409
  gx := 0xc6858e06b70404e9cd9e3ecb662395b4429c648139053fb521f828af606b4d3dbaa14b5e77efe75928fe1dc127a2ffa8de3348b3c1856a429bf97e7e31c2e5bd66
  gy := 0x11839296a789a3bc0045c8a5fb42c7d1bd998f54449579b446817afbd17273e662c97ee72995ef42640c550b9013fad0761353c7086a272c24088be94769fd16650

/-- Whether a point satisfies the curve's equation with coordinates in the field (R153). -/
def onCurve (c : Curve) (x y : Nat) : Bool :=
  x < c.p && y < c.p && y * y % c.p == (x * x % c.p * x + (c.p - 3) * x + c.b) % c.p

/-- The sum of two points. -/
def ecAdd (c : Curve) : Point → Point → Point
  | none, q => q
  | p, none => p
  | some (x1, y1), some (x2, y2) =>
    if x1 = x2 ∧ (y1 + y2) % c.p = 0 then none
    else
      let l := if x1 = x2 then (3 * x1 * x1 + c.p - 3) % c.p * invP (2 * y1) c.p % c.p
        else subMod y2 y1 c.p * invP (subMod x2 x1 c.p) c.p % c.p
      let x3 := subMod (l * l % c.p) (x1 + x2) c.p
      some (x3, subMod (l * subMod x1 x3 c.p % c.p) y1 c.p)

/-- Double and add over the low `k` bits of a scalar, most significant first. -/
def ecMulFuel (c : Curve) (d : Nat) (g : Point) : Nat → Point → Point
  | 0, acc => acc
  | k + 1, acc =>
    let dbl := ecAdd c acc acc
    ecMulFuel c d g k (if d.testBit k then ecAdd c dbl g else dbl)

/-- A multiple of a point. -/
def ecMul (c : Curve) (d : Nat) (g : Point) : Point := ecMulFuel c d g (Nat.log2 d + 1) none

/-- The base point. -/
def basePoint (c : Curve) : Point := some (c.gx, c.gy)

/-- The byte length of a field value. -/
def fieldLen (c : Curve) : Nat := (Nat.log2 c.p + 8) / 8

/-- The byte length of a value of the order. -/
def orderLen (c : Curve) : Nat := (Nat.log2 c.n + 8) / 8

/-- The SEC 1 uncompressed form of a point (R143). -/
def encodePoint (c : Curve) : Point → Bytes
  | none => [0]
  | some (x, y) => 4 :: natBE (fieldLen c) x ++ natBE (fieldLen c) y

/-- The point that an uncompressed encoding names, when it is a point of the curve (R153). -/
def decodePoint (c : Curve) (bs : Bytes) : Option (Nat × Nat) :=
  let x := beNat (slice 1 (fieldLen c) bs)
  let y := beNat (slice (1 + fieldLen c) (fieldLen c) bs)
  if bs.length = 1 + 2 * fieldLen c ∧ bs.head? = some 4 ∧ onCurve c x y = true then some (x, y)
  else none

/-- A digest truncated to the bit length of the order (R153 step 1). -/
def digestInt (c : Curve) (dig : Bytes) : Nat :=
  let nbits := Nat.log2 c.n + 1
  beNat dig >>> (8 * dig.length - nbits)

/-- The value of 1 to n - 1 that drawn bytes give by the extra-random-bits method, from the order's
length and 64 bits more (R153, R315; assumption 16). -/
def extraBits (c : Curve) (draw : Bytes) : Nat :=
  (beNat draw >>> (8 * draw.length - (Nat.log2 c.n + 65))) % (c.n - 1) + 1

/-- The ECDSA signature of a digest with secret `d` and nonce `k`; none when r or s is zero. -/
def ecdsaSign (c : Curve) (d k : Nat) (dig : Bytes) : Option (Nat × Nat) :=
  match ecMul c k (basePoint c) with
  | none => none
  | some (x, _) =>
    let r := x % c.n
    let s := invP k c.n * (digestInt c dig + r * d) % c.n
    if r = 0 ∨ s = 0 then none else some (r, s)

/-- Whether an ECDSA signature verifies (R153). -/
def ecdsaVerify (c : Curve) (q : Nat × Nat) (dig : Bytes) (r s : Nat) : Bool :=
  if r = 0 ∨ s = 0 ∨ c.n ≤ r ∨ c.n ≤ s then false
  else
    let w := invP s c.n
    let u1 := digestInt c dig * w % c.n
    let u2 := r * w % c.n
    match ecAdd c (ecMul c u1 (basePoint c)) (ecMul c u2 (some q)) with
    | none => false
    | some (x, _) => x % c.n == r

/-- The X coordinate two parties share; none at infinity. -/
def ecdhX (c : Curve) (d : Nat) (q : Nat × Nat) : Option Bytes :=
  (ecMul c d (some q)).map fun p => natBE (fieldLen c) p.1

/-! ### Curve25519 -/

/-- The field of Curve25519. -/
def p25519 : Nat := 2 ^ 255 - 19

/-- The prime order of the base point of Ed25519. -/
def l25519 : Nat := 2 ^ 252 + 27742317777372353535851937790883648493

/-- The constant d of Ed25519. -/
def d25519 : Nat :=
  (p25519 - 121665) * invP 121666 p25519 % p25519

/-- The sum of two points of the twisted Edwards curve. -/
def edAdd (a b : Nat × Nat) : Nat × Nat :=
  let p := p25519
  let k := d25519 * (a.1 * b.1 % p) % p * (a.2 * b.2 % p) % p
  ((a.1 * b.2 + b.1 * a.2) % p * invP (1 + k) p % p,
   (a.2 * b.2 + a.1 * b.1) % p * invP (subMod 1 k p) p % p)

/-- Double and add over the low `k` bits of a scalar. -/
def edMulFuel (d : Nat) (g : Nat × Nat) : Nat → Nat × Nat → Nat × Nat
  | 0, acc => acc
  | k + 1, acc =>
    let dbl := edAdd acc acc
    edMulFuel d g k (if d.testBit k then edAdd dbl g else dbl)

/-- A multiple of a point. -/
def edMul (d : Nat) (g : Nat × Nat) : Nat × Nat := edMulFuel d g (Nat.log2 d + 1) (0, 1)

/-- The x coordinate of the wanted parity for a y coordinate (RFC 8032 5.1.3). -/
def edRecoverX (y sign : Nat) : Option Nat :=
  let p := p25519
  if p ≤ y then none
  else
    let u := subMod (y * y) 1 p
    let v := (d25519 * (y * y % p) + 1) % p
    let v3 := v * v % p * v % p
    let x := u * v3 % p * powMod (u * (v3 * v3 % p * v % p) % p) ((p - 5) / 8) p % p
    let vxx := v * (x * x % p) % p
    let root := if vxx = u then some x
      else if vxx = (p - u) % p then some (x * powMod 2 ((p - 1) / 4) p % p) else none
    match root with
    | none => none
    | some x =>
      if x = 0 ∧ sign = 1 then none else some (if x % 2 = sign then x else p - x)

/-- The base point of Ed25519. -/
def edBase : Nat × Nat :=
  let y := 4 * invP 5 p25519 % p25519
  ((edRecoverX y 0).getD 0, y)

/-- The 32 B encoding of a point. -/
def edEncode (a : Nat × Nat) : Bytes := natLE 32 (a.2 + 2 ^ 255 * (a.1 % 2))

/-- The point that 32 B encode. -/
def edDecode (bs : Bytes) : Option (Nat × Nat) :=
  let w := leNat bs
  let y := w % 2 ^ 255
  (edRecoverX y (w / 2 ^ 255)).map fun x => (x, y)

/-- The secret scalar that 32 B give after clamping (RFC 8032, RFC 7748). -/
def clamp25519 (bs : Bytes) : Nat := leNat bs % 2 ^ 254 / 8 * 8 + 2 ^ 254

/-- The public key of an Ed25519 seed. -/
def edPublic (seed : Bytes) : Bytes := edEncode (edMul (clamp25519 ((sha512 seed).take 32)) edBase)

/-- Pure Ed25519 (RFC 8032). -/
def edSign (seed msg : Bytes) : Bytes :=
  let h := sha512 seed
  let a := clamp25519 (h.take 32)
  let pub := edEncode (edMul a edBase)
  let r := leNat (sha512 (h.drop 32 ++ msg)) % l25519
  let rEnc := edEncode (edMul r edBase)
  let k := leNat (sha512 (rEnc ++ pub ++ msg)) % l25519
  rEnc ++ natLE 32 ((r + k * a) % l25519)

/-- Whether a signature satisfies the cofactored equation; `a` is the decoded public key (R154). -/
def edVerify (a : Nat × Nat) (pub msg sig : Bytes) : Bool :=
  let s := leNat (sig.drop 32)
  match edDecode (sig.take 32) with
  | none => false
  | some r =>
    let k := leNat (sha512 (sig.take 32 ++ pub ++ msg)) % l25519
    s < l25519 && edMul 8 (edMul s edBase) == edMul 8 (edAdd r (edMul k a))

/-- The state of the Montgomery ladder of RFC 7748. -/
structure Ladder where
  x2 : Nat
  z2 : Nat
  x3 : Nat
  z3 : Nat
  deriving DecidableEq, Repr

/-- One differential addition and doubling of the ladder. -/
def ladderStep (u : Nat) (s : Ladder) : Ladder :=
  let p := p25519
  let a := s.x2 + s.z2
  let b := subMod s.x2 s.z2 p
  let aa := a * a % p
  let bb := b * b % p
  let e := subMod aa bb p
  let da := subMod s.x3 s.z3 p * a % p
  let cb := (s.x3 + s.z3) * b % p
  let m := subMod da cb p
  ⟨aa * bb % p, e * (aa + 121665 * e) % p, (da + cb) * (da + cb) % p, u * (m * m % p) % p⟩

/-- The ladder with its two points exchanged. -/
def ladderSwap (s : Ladder) : Ladder := ⟨s.x3, s.z3, s.x2, s.z2⟩

/-- The ladder over the low `k` bits of a scalar. -/
def ladderFuel (u d : Nat) : Nat → Ladder → Ladder
  | 0, s => s
  | k + 1, s =>
    ladderFuel u d k (if d.testBit k then ladderSwap (ladderStep u (ladderSwap s)) else ladderStep u s)

/-- X25519 of a 32 B scalar and a 32 B coordinate (RFC 7748). -/
def x25519 (scalar coord : Bytes) : Bytes :=
  let u := leNat coord % 2 ^ 255 % p25519
  let s := ladderFuel u (clamp25519 scalar) 255 ⟨1, 0, u, 1⟩
  natLE 32 (s.x2 * invP s.z2 p25519 % p25519)

/-- The base coordinate of X25519. -/
def x25519Base : Bytes := 9 :: zeros 31

end Sys2Proof.Machine
end

