-- ==== Sys2Proof/Machine/Payment.lean ====
section
/-!
DEFINITION. What the payment opcodes compute (R80 to R108), as functions of their operands, keys and
draw. Each answers the output or the status of R83; how a Link takes the answer stands with its
command.
-/
namespace Sys2Proof.Machine

/-! ### Keys -/

/-- The algorithm code of an attribute word (R286). -/
def algOf (attr : Nat) : Nat := bits attr 0 5

/-- The block cipher of an algorithm code, for TDES and AES keys (R286). -/
def cipherOf (alg : Nat) : Option Cipher :=
  if alg = 1 ∨ alg = 2 then some .tdes else if 3 ≤ alg ∧ alg ≤ 5 then some .aes else none

/-- The block cipher of a key already checked to be TDES or AES. -/
def KeyVal.cipher (k : KeyVal) : Cipher := if algOf k.attr = 1 ∨ algOf k.attr = 2 then .tdes else .aes

/-! ### Digits -/

/-- The digits of an F-padded packed BCD operand: decimal digits up to the first F, then only F (R80). -/
def bcdDigits (bs : Bytes) : Option (List Nat) :=
  let ns := nibbles bs
  let ds := ns.takeWhile (· < 10)
  if (ns.drop ds.length).all (· == 15) then some ds else none

/-- Digits packed two to a byte and F-padded to `len` bytes (R80). -/
def packDigits (len : Nat) (ds : List Nat) : Bytes :=
  packNibbles ((ds ++ List.replicate (2 * len - ds.length) 15).take (2 * len))

/-- The digits of `ns` reduced by the two-scan rule, `n` of them (R93). -/
def twoScan (n : Nat) (ns : List Nat) : List Nat :=
  ((ns.filter (· < 10)) ++ (ns.filter (10 ≤ ·)).map (· - 10)).take n

/-! ### PIN blocks -/

/-- The PAN digits of an operand whose number lies within a format's range (R86). -/
def panFor (fmt : Nat) (pan : Bytes) : Option (List Nat) :=
  match bcdDigits pan with
  | none => none
  | some ds =>
    let lo := if fmt = 4 then 12 else 13
    if lo ≤ ds.length ∧ ds.length ≤ 19 then some ds else none

/-- The twelve PAN digits of formats 0 and 3 and of a PIN record (R84). -/
def pan12 (ds : List Nat) : List Nat :=
  let body := ds.dropLast
  let r := body.drop (body.length - 12)
  List.replicate (12 - r.length) 0 ++ r

/-- The PAN field of a format (R85). -/
def panField (fmt : Nat) (ds : List Nat) : Bytes :=
  if fmt = 4 then packNibbles (((ds.length - 12) :: ds ++ List.replicate 32 0).take 32)
  else packNibbles ([0, 0, 0, 0] ++ pan12 ds)

/-- A PIN record (R84). -/
def pinRecord (fmt : Nat) (pin : List Nat) (pan : Option (List Nat)) : Bytes :=
  byte pin.length :: packDigits 6 pin ++
    match pan with
    | none => [byte fmt, 0] ++ zeros 7
    | some ds => [byte fmt, 1] ++ packNibbles (pan12 ds) ++ [byte ds.length]

/-- Whether a plain PIN field has the form its format requires (R87). -/
def pinFieldValid (fmt : Nat) (ns : List Nat) : Bool :=
  let n := ns.getD 1 0
  let fill := (ns.take 16).drop (2 + n)
  ns.getD 0 0 == fmt && decide (4 ≤ n) && decide (n ≤ 12) &&
    ((ns.drop 2).take n).all (fun d => decide (d < 10)) &&
    (if fmt = 0 then fill.all (· == 15)
     else if fmt = 3 then fill.all (fun d => decide (10 ≤ d))
     else if fmt = 4 then fill.all (· == 10)
     else true)

/-- The plain PIN field of an encrypted block (R85, R87). -/
def pinField (fmt : Nat) (key block : Bytes) (pan : Option (List Nat)) : Bytes :=
  if fmt = 4 then
    aesDecrypt key (xorBytes (aesDecrypt key block) (panField 4 (pan.getD [])))
  else if fmt = 1 then tdesDecrypt key block
  else xorBytes (tdesDecrypt key block) (panField fmt (pan.getD []))

/-- Whether a key's cipher is the one a format uses (R89). -/
def pinCipherFits (fmt : Nat) (c : Cipher) : Bool :=
  if fmt = 4 then c == .aes else c == .tdes

/-- Opcode 0x401 (R87). -/
def pinDecode (fmt : Nat) (key : KeyVal) (block : Bytes) (pan : Option Bytes) : OpResult :=
  if pinCipherFits fmt key.cipher = false then .failed 0x0220
  else
    let ds := pan.bind (panFor fmt)
    if fmt ≠ 1 ∧ ds = none then .failed 0x0120
    else
      let ns := nibbles (pinField fmt key.bytes block ds)
      if pinFieldValid fmt ns then
        .done (pinRecord fmt ((ns.drop 2).take (ns.getD 1 0)) (if fmt = 1 then none else ds))
      else .failed 0x0310

/-- Whether the format policy forbids a translation (R89). -/
def pinPolicyRefuses (downgrade : Bool) (src dst : Nat) : Bool :=
  if src = 1 ∨ dst = 4 then false
  else if dst = 1 then true
  else src == 4 && !downgrade

/-- The plain PIN field a record gives in a format, its random fill taken from the draw (R85, R88). -/
def pinPlain (fmt : Nat) (pin : List Nat) (draw : Bytes) : Bytes :=
  let head := fmt :: pin.length :: pin
  let n := head.length
  let r := fun i => Config.pinFill fmt draw i % 16
  let fill := (List.range (16 - n)).map fun i =>
    if fmt = 0 then 15 else if fmt = 4 then 10
    else if fmt = 3 then 10 + Config.pinFill fmt draw i % 6 else r i
  packNibbles (head ++ fill) ++ if fmt = 4 then padTo 8 draw else []

/-- Opcode 0x402 (R88, R89). -/
def pinEncode (fmt : Nat) (downgrade : Bool) (key : KeyVal) (record : Bytes) (pan : Option Bytes)
    (draw : Bytes) : OpResult :=
  let src := (record.getD 7 0).toNat
  let pin := (nibbles (slice 1 6 record)).take (record.getD 0 0).toNat
  if pinCipherFits fmt key.cipher = false then .failed 0x0220
  else if pinPolicyRefuses downgrade src fmt then .failed 0x0221
  else
    let ds := pan.bind (panFor fmt)
    if fmt ≠ 1 ∧ ds = none then .failed 0x0120
    else
      let digits := ds.getD []
      if fmt ≠ 1 ∧ record.getD 8 0 = 1 ∧
          (slice 9 6 record ≠ packNibbles (pan12 digits) ∨ record.getD 15 0 ≠ byte digits.length) then
        .failed 0x0315
      else
        let plain := pinPlain fmt pin draw
        if fmt = 4 then
          .done (aesEncrypt key.bytes (xorBytes (aesEncrypt key.bytes plain) (panField 4 digits)))
        else if fmt = 1 then .done (tdesEncrypt key.bytes plain)
        else .done (tdesEncrypt key.bytes (xorBytes plain (panField fmt digits)))

/-! ### PIN verification -/

/-- The PIN digits of a record (R84). -/
def recordPin (record : Bytes) : List Nat := (nibbles (slice 1 6 record)).take (record.getD 0 0).toNat

/-- The natural PIN: the encrypted validation data decimalised by a table (R92 steps 1 to 3). -/
def naturalPin (table key vdata : Bytes) (len : Nat) : List Nat :=
  let t := nibbles table
  ((nibbles (tdesEncrypt key vdata)).map fun n => t.getD n 0).take len

/-- What stops an offset operation: an empty table or a PIN shorter than CHECK_LEN (R92). -/
def offsetRefused (table record : Bytes) (len : Nat) : Option Nat :=
  if table.all (· == 0) then some 0x0220
  else if (record.getD 0 0).toNat < len then some 0x0120 else none

/-- Opcode 0x410 (R92). -/
def offsetGenerate (len : Nat) (table : Bytes) (key : KeyVal) (record vdata : Bytes) : OpResult :=
  match offsetRefused table record len with
  | some st => .failed st
  | none =>
    let off := List.zipWith (fun p n => (p + 10 - n) % 10) (recordPin record)
      (naturalPin table key.bytes vdata len)
    .done (packDigits (ceilDiv len 2) off)

/-- Opcode 0x411 (R92). -/
def offsetVerify (len : Nat) (table : Bytes) (key : KeyVal) (record vdata offset : Bytes) : OpResult :=
  match offsetRefused table record len with
  | some st => .failed st
  | none =>
    match bcdDigits offset with
    | none => .failed 0x0120
    | some ds =>
      if ds.length ≠ len then .failed 0x0120
      else
        let pin := List.zipWith (fun o n => (o + n) % 10) ds (naturalPin table key.bytes vdata len)
        .verified (pin == (recordPin record).take len) 0x0311 []

/-- The PAN digits of a card operation, 12 to 19 of them (R93, R97). -/
def cardPan (pan : Bytes) : Option (List Nat) :=
  match bcdDigits pan with
  | none => none
  | some ds => if 12 ≤ ds.length ∧ ds.length ≤ 19 then some ds else none

/-- The verification value of a PIN (R93). -/
def pinValue (pvki : Nat) (key : Bytes) (ds pin : List Nat) : Bytes :=
  let body := ds.dropLast
  let x := body.drop (body.length - 11) ++ [pvki] ++ pin.take 4
  packNibbles (twoScan 4 (nibbles (tdesEncrypt key (packNibbles x))))

/-- Opcode 0x412 (R93). -/
def valueGenerate (pvki : Nat) (key : KeyVal) (record pan : Bytes) : OpResult :=
  match cardPan pan with
  | none => .failed 0x0120
  | some ds => .done (pinValue pvki key.bytes ds (recordPin record))

/-- Opcode 0x413 (R93). -/
def valueVerify (pvki : Nat) (key : KeyVal) (record pan value : Bytes) : OpResult :=
  match cardPan pan with
  | none => .failed 0x0120
  | some ds =>
    if (nibbles value).all (· < 10) = false then .failed 0x0120
    else .verified (pinValue pvki key.bytes ds (recordPin record) == value) 0x0311 []

/-! ### Card codes -/

/-- The digits of a card verification code (R97). -/
def cardCodeDigits (n : Nat) (key : Bytes) (pan exp : List Nat) : List Nat :=
  let ds := ((pan ++ exp) ++ List.replicate 32 0).take 32
  let a := packNibbles (ds.take 16)
  let b := packNibbles (ds.drop 16)
  twoScan n (nibbles (tdesEncrypt key (xorBytes (desEncrypt (key.take 8) a) b)))

/-- The digits of the operands of a card code, when both have their form (R96). -/
def cardCodeOperands (pan exp : Bytes) : Option (List Nat × List Nat) :=
  match cardPan pan, bcdDigits exp with
  | some p, some e => if e.length = 7 then some (p, e) else none
  | _, _ => none

/-- Opcode 0x510 (R97). -/
def cardCodeGenerate (n : Nat) (key : KeyVal) (pan exp : Bytes) : OpResult :=
  match cardCodeOperands pan exp with
  | none => .failed 0x0120
  | some (p, e) => .done (packDigits (ceilDiv n 2) (cardCodeDigits n key.bytes p e))

/-- Opcode 0x511 (R97). -/
def cardCodeVerify (n : Nat) (key : KeyVal) (pan exp code : Bytes) : OpResult :=
  match cardCodeOperands pan exp, bcdDigits code with
  | some (p, e), some ds =>
    if ds.length ≠ n then .failed 0x0120
    else .verified (cardCodeDigits n key.bytes p e == ds) 0x0312 []
  | _, _ => .failed 0x0120

/-! ### EMV -/

/-- A derived key cut to its length, parity-adjusted when it is TDES (R99). -/
def emvCut (c : Cipher) (len : Nat) (bs : Bytes) : Bytes :=
  let k := bs.take len
  match c with
  | .tdes => parityAdjust k
  | .aes => k

/-- The card master key of a PAN and PSN digit string (R99). -/
def cardMasterKey (c : Cipher) (key : Bytes) (ds : List Nat) : Bytes :=
  let s := if ds.length ≤ 16 then List.replicate (16 - ds.length) 0 ++ ds else ds.drop (ds.length - 16)
  let y := (match c with | .aes => zeros 8 | .tdes => []) ++ packNibbles s
  emvCut c key.length (encryptBlock c key y ++ encryptBlock c key (y.map fun b => b ^^^ 0xFF))

/-- The common session key of an ATC (R99). -/
def emvSessionKey (c : Cipher) (key atc : Bytes) : Bytes :=
  let fill := zeros (blockLen c - 3)
  emvCut c key.length
    (encryptBlock c key (atc ++ [0xF0] ++ fill) ++ encryptBlock c key (atc ++ [0x0F] ++ fill))

/-- The digits of a PAN followed by a 1 B PSN (R98, R99). -/
def panPsnDigits (bs : Bytes) : Option (List Nat) :=
  match bcdDigits bs.dropLast, nibbles (bs.drop (bs.length - 1)) with
  | some ds, psn => if ds ≠ [] ∧ psn.all (· < 10) = true then some (ds ++ psn) else none
  | none, _ => none

/-- Opcode 0x501 (R99). DESIGN CHOICE (assumption 36): method 2 derives from a card-level key and uses no PAN, so that the content of its IN0
is neither read nor checked; the rule requires the operand and does not say that its digits are. -/
def emvDerive (method : Nat) (longPan : Bool) (outLen : Nat) (key : KeyVal) (panPsn atc : Bytes) :
    OpResult :=
  let c := key.cipher
  if outLen < key.bytes.length then .failed 0x0220
  else if method = 2 then .done (emvSessionKey c key.bytes atc)
  else
    match panPsnDigits panPsn with
    | none => .failed 0x0120
    | some ds =>
      if 16 < ds.length ∧ longPan = false then .failed 0x0120
      else
        let mk := cardMasterKey c key.bytes ds
        .done (if method = 1 then mk else emvSessionKey c mk atc)

/-- The EMV MAC: CMAC under AES, ISO 9797-1 algorithm 3 with padding 2 under TDES (R100). -/
def emvMac (key : KeyVal) (data : Bytes) : Bytes :=
  match key.cipher with
  | .aes => cmac .aes key.bytes data
  | .tdes => isoMac3 key.bytes (isoPad2 8 data)

/-- Opcode 0x502 (R100). -/
def arqcVerify (key : KeyVal) (data arqc : Bytes) : OpResult :=
  .verified ((emvMac key data).take 8 == arqc) 0x0313 []

/-- Opcode 0x503 (R100). -/
def arpcGenerate (method : Nat) (key : KeyVal) (arqc arc prop : Bytes) : OpResult :=
  if method = 1 then
    let x := xorBytes (padTo 8 arc) arqc
    match key.cipher with
    | .aes => .done ((aesEncrypt key.bytes (x ++ zeros 8)).take 8)
    | .tdes => .done (tdesEncrypt key.bytes x)
  else .done ((emvMac key (arqc ++ arc ++ prop)).take 4)

/-- Opcode 0x504 (R100). -/
def scriptMac (len : Nat) (key : KeyVal) (data : Bytes) : OpResult := .done ((emvMac key data).take len)

/-! ### Payment MACs -/

/-- The whole MAC of a message by the algorithm of PARAM (R101, R102). -/
def paymentMac (alg pad : Nat) (key : KeyVal) (msg : Bytes) : Bytes :=
  let c := key.cipher
  let padded := if pad = 0 then isoPad1 (blockLen c) msg else isoPad2 (blockLen c) msg
  if alg = 2 then cmac c key.bytes msg
  else if alg = 1 then isoMac3 key.bytes padded
  else cbcMac c key.bytes padded

/-- Whether the key admits a MAC of this length and algorithm (R101, R102). -/
def macKeyFits (alg len : Nat) (key : KeyVal) : Bool :=
  decide (len ≤ blockLen key.cipher) && (alg != 1 || algOf key.attr == 1)

/-- Opcode 0x310 (R101). -/
def macGenerate (alg pad len : Nat) (key : KeyVal) (msg : Bytes) : OpResult :=
  if macKeyFits alg len key then .done ((paymentMac alg pad key msg).take len) else .failed 0x0220

/-- Opcode 0x311 (R101). -/
def macVerify (alg pad len : Nat) (key : KeyVal) (msg mac : Bytes) : OpResult :=
  if macKeyFits alg len key then .verified ((paymentMac alg pad key msg).take len == mac) 0x0314 []
  else .failed 0x0220

/-! ### DUKPT-AES -/

/-- One key of `len` bytes derived from `key` (R104). -/
def dukptKey (key : Bytes) (usage algInd len : Nat) (data : Bytes) : Bytes :=
  ((List.range (ceilDiv len 16)).flatMap fun i =>
    aesEncrypt key ([1, byte (i + 1)] ++ natBE 2 usage ++ natBE 2 algInd ++ natBE 2 (8 * len) ++ data)).take len

/-- The derivation keys along the bits set in the counter, most significant first (R104 step 2). -/
def dukptWalk (algInd : Nat) (idRight : Bytes) (counter : Nat) : Nat → Nat → Bytes → Bytes
  | 0, _, key => key
  | i + 1, taken, key =>
    if counter.testBit i then
      let t := taken + 2 ^ i
      dukptWalk algInd idRight counter i t (dukptKey key 0x8000 algInd key.length (idRight ++ natBE 4 t))
    else dukptWalk algInd idRight counter i taken key

/-- The number of bits set below bit `n`. -/
def popCount (n w : Nat) : Nat := ((List.range n).filter fun i => w.testBit i).length

/-- The working-key length of WK_ALG (R103). -/
def dukptLen : Nat → Nat
  | 0 => 16
  | 1 => 24
  | 2 => 16
  | 3 => 24
  | _ => 32

/-- Opcode 0x1A0 (R104, R105). The algorithm indicators are those of ANSI X9.24-3 (assumption 3). -/
def dukptDerive (kind wkAlg wkUsage : Nat) (key : KeyVal) (ksn : Bytes) : OpResult :=
  if 3 ≤ wkAlg ∧ key.bytes.length < dukptLen wkAlg then .failed 0x0220
  else
    let ident := ksn.take 8
    let idRight := slice 4 4 ksn
    let counter := beNat (slice 8 4 ksn)
    if counter = 0 ∨ 16 < popCount 32 counter then .failed 0x0120
    else
      let algInd := algOf key.attr - 1
      let n := key.bytes.length
      let ik := if kind = 0 then dukptKey key.bytes 0x8001 algInd n ident else key.bytes
      let dk := dukptWalk algInd idRight counter 32 0 ik
      .done (dukptKey dk wkUsage wkAlg (dukptLen wkAlg) (idRight ++ natBE 4 counter))

/-! ### FF1 tokens -/

/-- The radix that RADIX selects (R107). -/
def ff1Radix : Nat → Nat
  | 0 => 10
  | 1 => 16
  | 2 => 36
  | _ => 62

/-- The value of an ASCII character in an alphabet (R107). -/
def ff1Value (radix c : Nat) : Option Nat :=
  if 48 ≤ c ∧ c ≤ 57 then some (c - 48)
  else if radix = 62 ∧ 65 ≤ c ∧ c ≤ 90 then some (c - 65 + 10)
  else if radix = 62 ∧ 97 ≤ c ∧ c ≤ 122 then some (c - 97 + 36)
  else if radix < 62 ∧ 97 ≤ c ∧ c < 97 + radix - 10 then some (c - 97 + 10)
  else none

/-- The ASCII character of a value in an alphabet (R107). -/
def ff1Char (radix v : Nat) : Byte :=
  byte (if v < 10 then 48 + v
    else if radix = 62 then if v < 36 then 65 + v - 10 else 97 + v - 36
    else 97 + v - 10)

/-- Opcodes 0x601 and 0x602 (R107, R108): the middle is enciphered, the kept ends are copied. -/
def ff1Token (enc : Bool) (param : Nat) (key : KeyVal) (str tweak : Bytes) : OpResult :=
  let radix := ff1Radix (bits param 0 2)
  let lead := bits param 2 4
  let trail := bits param 6 4
  match str.mapM fun c => ff1Value radix c.toNat with
  | none => .failed 0x0120
  | some vs =>
    let head := str.take lead
    let tail := str.drop (str.length - trail)
    let t := if bitOf param 10 then tweak ++ head ++ tail else tweak
    let mid := (vs.take (vs.length - trail)).drop lead
    let out := if enc then ff1Encrypt key.bytes t radix mid else ff1Decrypt key.bytes t radix mid
    .done (head ++ out.map (ff1Char radix) ++ tail)

end Sys2Proof.Machine
end

