-- ==== Sys2Proof/Machine/SymmetricOps.lean ====
section
/-!
DEFINITION. What the encryption, hash, format and random opcodes compute (R111 to R132, R341), as
functions of their operands, keys, nonce and draw.
-/
namespace Sys2Proof.Machine

/-! ### Encryption -/

/-- The modes of PARAM (R112). -/
inductive LaneMode
  | ecb
  | cbc
  | ctr
  | gcm
  | ccm
  deriving DecidableEq, Repr

/-- The mode a MODE field encodes; the reserved values are refused at admission (R112). -/
def laneMode : Nat → LaneMode
  | 0 => .ecb
  | 1 => .cbc
  | 2 => .ctr
  | 3 => .gcm
  | _ => .ccm

/-- Whether a mode takes a 96-bit nonce (R116, R118). -/
def LaneMode.noncing : LaneMode → Bool
  | .ecb => false
  | .cbc => false
  | .ctr => true
  | .gcm => true
  | .ccm => true

/-- Whether a mode authenticates (R110). -/
def LaneMode.aead : LaneMode → Bool
  | .gcm => true
  | .ccm => true
  | _ => false

/-- The bytes of nonce or IV at the head of a record (R113). -/
def recordHead (m : LaneMode) (c : Cipher) : Nat :=
  match m with
  | .ecb => 0
  | .cbc => blockLen c
  | _ => 12

/-- Whether a cipher serves a mode: TDES has no 128-bit block (R110). -/
def modeServed (m : LaneMode) (c : Cipher) : Bool := c == .aes || !m.noncing

/-- Whether a payload length suits a mode under the loaded key (R113). -/
def payloadFits (m : LaneMode) (c : Cipher) (len : Nat) : Bool :=
  match m with
  | .ecb => decide (blockLen c ≤ len) && len % blockLen c == 0
  | .cbc => decide (blockLen c ≤ len) && len % blockLen c == 0
  | _ => true

/-- What the loaded key refuses before the operation starts (R110, R113). -/
def modeRefused (m : LaneMode) (c : Cipher) (len : Nat) : Option Nat :=
  if modeServed m c = false then some 0x0220
  else if payloadFits m c len = false then some 0x0121 else none

/-- The ciphertext record of a payload (R113). `head` is the nonce, or the drawn IV of CBC (R120). -/
def sealRecord (m : LaneMode) (tagLen : Nat) (key : KeyVal) (head header data : Bytes) : Bytes :=
  let c := key.cipher
  match m with
  | .ecb => ecbEncrypt c key.bytes data
  | .cbc => let iv := head.take (blockLen c); iv ++ cbcEncrypt c key.bytes iv data
  | .ctr => head ++ ctrCrypt key.bytes head data
  | .gcm => let r := gcmSeal key.bytes head header data tagLen; head ++ r.1 ++ r.2
  | .ccm => let r := ccmSeal key.bytes head header data tagLen; head ++ r.1 ++ r.2

/-- The plaintext of a ciphertext record; none when its tag does not verify (R122). -/
def openRecord (m : LaneMode) (tagLen : Nat) (key : KeyVal) (header rcd : Bytes) : Option Bytes :=
  let c := key.cipher
  let n := recordHead m c
  let head := rcd.take n
  let body := rcd.drop n
  let ct := body.take (body.length - tagLen)
  let tag := body.drop (body.length - tagLen)
  match m with
  | .ecb => some (ecbDecrypt c key.bytes body)
  | .cbc => some (cbcDecrypt c key.bytes head body)
  | .ctr => some (ctrCrypt key.bytes head body)
  | .gcm => gcmOpen key.bytes head header ct tag
  | .ccm => ccmOpen key.bytes head header ct tag

/-- Opcode 0x201 (R111). -/
def encrypt (m : LaneMode) (tagLen : Nat) (key : KeyVal) (head header data : Bytes) : OpResult :=
  match modeRefused m key.cipher data.length with
  | some st => .failed st
  | none => .done (sealRecord m tagLen key head header data)

/-- Opcode 0x202 (R111, R122). -/
def decrypt (m : LaneMode) (tagLen : Nat) (key : KeyVal) (header rcd : Bytes) : OpResult :=
  match modeRefused m key.cipher (rcd.length - recordHead m key.cipher) with
  | some st => .failed st
  | none =>
    match openRecord m tagLen key header rcd with
    | some data => if m.aead then .verified true 0x0320 data else .done data
    | none => .verified false 0x0320 []

/-- Opcode 0x203: the plaintext passes from one key to the other and is written nowhere (R111). -/
def reEncrypt (mIn mOut : LaneMode) (tagIn tagOut : Nat) (k0 k1 : KeyVal) (head header rcd : Bytes) :
    OpResult :=
  match modeRefused mIn k0.cipher (rcd.length - recordHead mIn k0.cipher) with
  | some st => .failed st
  | none =>
    let len := rcd.length - recordHead mIn k0.cipher - (if mIn.aead then tagIn else 0)
    match modeRefused mOut k1.cipher len with
    | some st => .failed st
    | none =>
      match openRecord mIn tagIn k0 header rcd with
      | none => .verified false 0x0320 []
      | some data =>
        let out := sealRecord mOut tagOut k1 head header data
        if mIn.aead then .verified true 0x0320 out else .done out

/-! ### Hashes -/

/-- The digest of the ALG field of 0x301 (R125). -/
def hashMessage (alg xofLen : Nat) (msg : Bytes) : OpResult :=
  match alg with
  | 0 => .done (sha256 msg)
  | 1 => .done (sha384 msg)
  | 2 => .done (sha512 msg)
  | 3 => .done (sha3_256 msg)
  | 4 => .done (sha3_512 msg)
  | 5 => .done (shake128 xofLen msg)
  | _ => .done (shake256 xofLen msg)

/-- The digest the ALG field of an HMAC opcode names (R125). -/
def hashAlg : Nat → HashAlg
  | 0 => .sha256
  | 1 => .sha384
  | 2 => .sha512
  | 3 => .sha3w256
  | _ => .sha3w512

/-- Opcode 0x302; a key shorter than 14 B is refused (R126). -/
def hmacGenerate (alg len : Nat) (key : KeyVal) (msg : Bytes) : OpResult :=
  if key.bytes.length < 14 then .failed 0x0220
  else .done ((hmac (hashAlg alg) key.bytes msg).take len)

/-- Opcode 0x303 (R125). -/
def hmacVerify (alg len : Nat) (key : KeyVal) (msg mac : Bytes) : OpResult :=
  if key.bytes.length < 14 then .failed 0x0220
  else .verified ((hmac (hashAlg alg) key.bytes msg).take len == mac) 0x0321 []

/-! ### Format Links -/

/-- The block length BLOCK selects (R129). -/
def formatBlock (param : Nat) : Nat := if bitOf param 2 then 16 else 8

/-- The padded length of `n` bytes (R130). -/
def paddedLen (method b n : Nat) : Nat :=
  if method = 0 then if n = 0 then b else ceilDiv n b * b else (n / b + 1) * b

/-- Opcode 0xA01 (R130). -/
def pad (param : Nat) (data : Bytes) : OpResult :=
  let b := formatBlock param
  match bits param 0 2 with
  | 0 => .done (isoPad1 b data)
  | 1 => .done (isoPad2 b data)
  | _ => .done (pkcs7Pad b data)

/-- The length of the data ahead of padding of a METHOD, when the padding has its form (R130). -/
def unpaddedLen (method b : Nat) (data : Bytes) : Option Nat :=
  if method = 1 then
    let tail := data.reverse.takeWhile (· == 0)
    let n := tail.length + 1
    if n ≤ b ∧ (data.reverse.drop tail.length).head? = some 0x80 then some (data.length - n) else none
  else
    let n := (data.getLastD 0).toNat
    if 1 ≤ n ∧ n ≤ b ∧ (data.drop (data.length - n)).all (· == byte n) = true then
      some (data.length - n) else none

/-- Opcode 0xA02 (R130). -/
def unpad (param : Nat) (data : Bytes) : OpResult :=
  match unpaddedLen (bits param 0 2) (formatBlock param) data with
  | none => .failed 0x0122
  | some n => .done (natLE 2 n ++ data.take n)

/-- The DER DigestInfo header RFC 8017 gives for a hash (R131). -/
def digestInfo (alg : HashAlg) : Bytes :=
  ([0x30, 17 + digestLen alg, 0x30, 0x0D, 0x06, 0x09, 0x60, 0x86, 0x48, 0x01, 0x65, 0x03, 0x04, 0x02,
    (match alg with | .sha256 => 1 | .sha384 => 2 | _ => 3), 0x05, 0x00, 0x04, digestLen alg]).map byte

/-- The bytes of a representative: whole 64-bit words of the modulus (R129). -/
def representativeLen (modBits : Nat) : Nat := ceilDiv modBits 64 * 8

/-- The EMSA-PKCS1-v1_5 encoding, right-aligned in R bytes (R131). -/
def pkcs1Encode (alg : HashAlg) (modBits : Nat) (dig : Bytes) : Bytes :=
  let k := ceilDiv modBits 8
  let t := digestInfo alg ++ dig
  zeros (representativeLen modBits - k) ++ [0, 1] ++ List.replicate (k - t.length - 3) 0xFF ++ [0] ++ t

/-- The top bits of the first byte that EMSA-PSS keeps clear. -/
def pssClear (modBits : Nat) : Byte :=
  let emBits := modBits - 1
  byte (0xFF >>> (8 * ceilDiv emBits 8 - emBits))

/-- The EMSA-PSS encoding with a salt, right-aligned in R bytes (R132). -/
def pssEncode (alg : HashAlg) (modBits : Nat) (dig salt : Bytes) : Bytes :=
  let emLen := ceilDiv (modBits - 1) 8
  let h := digest alg (zeros 8 ++ dig ++ salt)
  let dbLen := emLen - digestLen alg - 1
  let db := zeros (dbLen - salt.length - 1) ++ [1] ++ salt
  let masked := xorBytes db (mgf1 alg h dbLen)
  let first := (masked.take 1).map (· &&& pssClear modBits)
  zeros (representativeLen modBits - emLen) ++ first ++ masked.drop 1 ++ h ++ [0xBC]

/-- Whether a representative is a valid EMSA-PSS encoding of a digest (R132). -/
def pssVerify (alg : HashAlg) (modBits saltLen : Nat) (rep dig : Bytes) : Bool :=
  let emLen := ceilDiv (modBits - 1) 8
  let em := rep.drop (rep.length - emLen)
  let dbLen := emLen - digestLen alg - 1
  let masked := em.take dbLen
  let h := slice dbLen (digestLen alg) em
  let raw := xorBytes masked (mgf1 alg h dbLen)
  let db := (raw.take 1).map (· &&& pssClear modBits) ++ raw.drop 1
  (rep.take (rep.length - emLen)).all (· == 0) && em.getLastD 0 == 0xBC &&
    (masked.take 1).all (fun b => b &&& pssClear modBits == b) &&
    (db.take (dbLen - saltLen - 1)).all (· == 0) &&
    db.getD (dbLen - saltLen - 1) 0 == 1 &&
    digest alg (zeros 8 ++ dig ++ db.drop (dbLen - saltLen)) == h

/-- The hash a format Link's HASH field selects (R129). -/
def formatHash (param : Nat) : HashAlg := hashAlg (bits param 0 2)

/-- MODBITS (R129). -/
def modBitsOf (param : Nat) : Nat := bits param 16 14

/-- SALT_LEN (R129). -/
def saltLenOf (param : Nat) : Nat := bits param 4 7

end Sys2Proof.Machine
end

