-- ==== Sys2Proof/Machine/KeyBlocks.lean ====
section
/-!
DEFINITION. The attribute word of keys (R285 to R290), key check values (R289), domain key blocks
(R311, R312), ANSI X9.143 key blocks (R313) and the key derivation of 0x110 (R314).
-/
namespace Sys2Proof.Machine

/-! ### The attribute word -/

/-- The fields of an attribute word (R285). -/
structure Attr where
  alg : Nat
  usage : Nat
  mode : Nat
  exp : Nat
  owner : Nat
  scope : Nat
  ctrEn : Bool
  expire : Bool
  persist : Bool
  mark : Nat
  epoch : Nat
  counter : Nat
  deriving DecidableEq, Repr

/-- The fields an attribute word holds (R285). -/
def attrOfWord (w : Nat) : Attr where
  alg := bits w 0 5
  usage := bits w 5 5
  mode := bits w 10 4
  exp := bits w 14 2
  owner := bits w 16 10
  scope := bits w 26 1
  ctrEn := bitOf w 27
  expire := bitOf w 28
  persist := bitOf w 29
  mark := bits w 30 2
  epoch := bits w 32 8
  counter := bits w 40 24

/-- The attribute word of its fields (R285). -/
def wordOfAttr (a : Attr) : Nat :=
  a.alg + a.usage <<< 5 + a.mode <<< 10 + a.exp <<< 14 + a.owner <<< 16 + a.scope <<< 26
    + bit a.ctrEn <<< 27 + bit a.expire <<< 28 + bit a.persist <<< 29 + a.mark <<< 30
    + a.epoch <<< 32 + a.counter <<< 40

/-- The OWNER and SCOPE of a function: 0 for PF0, n for VFn (R285). -/
def ownedBy (fn : Nat) (a : Attr) : Attr := { a with owner := fn - 1, scope := bit (fn == 0) }

/-- Whether a function owns a key (R292 check 4). -/
def ownerIs (fn : Nat) (w : Nat) : Bool :=
  let a := attrOfWord w
  if a.scope = 1 then fn == 0 else fn == a.owner + 1

/-- The function that owns a key (R285). -/
def ownerOf (w : Nat) : Nat := if (attrOfWord w).scope = 1 then 0 else (attrOfWord w).owner + 1

/-- Whether ALG names a key that a working slot may hold (R286). -/
def algInSlot (alg : Nat) : Bool := decide ((1 ≤ alg ∧ alg ≤ 8) ∨ (0x10 ≤ alg ∧ alg ≤ 0x19))

/-- Whether ALG is a listed code (R286). -/
def algListed (alg : Nat) : Bool := decide (1 ≤ alg ∧ alg ≤ 0x19)

/-- Whether USAGE is a listed code (R287). -/
def usageListed (u : Nat) : Bool := decide (1 ≤ u ∧ u ≤ 0x14)

/-- Whether MODE is a listed code (R288). -/
def modeListed (m : Nat) : Bool := decide (1 ≤ m ∧ m ≤ 9)

/-- The faults for which the device refuses to write an attribute word (R290). The usage "derive"
never stands in a slot (R287). -/
def attrRefused (w : Nat) : Bool :=
  let a := attrOfWord w
  !algInSlot a.alg || !usageListed a.usage || a.usage == 0x14 || !modeListed a.mode || a.exp == 3 ||
    (a.persist && a.expire) || (!a.ctrEn && a.counter != 0) || a.mark == 3

/-- The key length of an ALG that fixes one (R286). -/
def algKeyLen (alg : Nat) : Nat :=
  match alg with
  | 1 => 16
  | 2 => 24
  | 3 => 16
  | 4 => 24
  | 5 => 32
  | 6 => 32
  | 7 => 32
  | 8 => 32
  | 10 => 48
  | 11 => 66
  | a => if 0x10 ≤ a then 14 + 2 * (a - 0x10) else 0

/-- The ALG of an AES key of a length in bytes (R286). -/
def aesAlg (len : Nat) : Nat := len / 8 + 1

/-- The usage codes of R287 by their names. -/
def usageP0 : Nat := 0x01
def usageV1 : Nat := 0x02
def usageV2 : Nat := 0x03
def usageC0 : Nat := 0x04
def usageE0 : Nat := 0x05
def usageE1 : Nat := 0x06
def usageE2 : Nat := 0x07
def usageM1 : Nat := 0x08
def usageM3 : Nat := 0x09
def usageM6 : Nat := 0x0A
def usageM7 : Nat := 0x0B
def usageD0 : Nat := 0x0C
def usageK0 : Nat := 0x0D
def usageK1 : Nat := 0x0E
def usageB0 : Nat := 0x0F
def usageB1 : Nat := 0x10
def usageS0 : Nat := 0x11
def usageD1 : Nat := 0x12
def usageK3 : Nat := 0x13
def usageDerive : Nat := 0x14

/-- The mode codes of R288 by their letters. -/
def modeE : Nat := 0x1
def modeD : Nat := 0x2
def modeB : Nat := 0x3
def modeG : Nat := 0x4
def modeV : Nat := 0x5
def modeC : Nat := 0x6
def modeX : Nat := 0x7
def modeN : Nat := 0x8
def modeS : Nat := 0x9

/-! ### Key check values -/

/-- The key check value of a key (R289). -/
def keyCheckValue (alg : Nat) (key : Bytes) : Bytes :=
  if alg = 1 ∨ alg = 2 then (tdesEncrypt key (zeros 8)).take 3
  else if 3 ≤ alg ∧ alg ≤ 5 then (aesEncrypt key (zeros 16)).take 3
  else if alg = 6 then (sha256 (encodePoint p256 (ecMul p256 (beNat key) (basePoint p256)))).take 3
  else if alg = 7 then (sha256 (edPublic key)).take 3
  else if alg = 8 then (sha256 (x25519 key x25519Base)).take 3
  else (hmac .sha256 key []).take 3

/-! ### Domain key blocks -/

/-- The bytes of an ML-KEM or ML-DSA private key of a parameter set (R146). -/
def latticeKeyLen (dsa : Bool) (set : Nat) : Nat :=
  match dsa, set with
  | false, 0 => 1632
  | false, 1 => 2400
  | false, _ => 3168
  | true, 0 => 2560
  | true, 1 => 4032
  | true, _ => 4896

/-- Whether a key length and parameter byte are well formed for an ALG (R311, R312 check 2). HMAC keys
of odd length or beyond 32 B travel under an HMAC code (R286; assumption 17). -/
def blockFormFits (alg param len : Nat) : Bool :=
  match alg with
  | 9 => decide (32 ≤ len ∧ len ≤ 66) && param == 0
  | 6 => len == 32 && param == 0
  | 10 => len == 48 && param == 1
  | 11 => len == 66 && param == 2
  | 12 => decide (16 ≤ param ∧ param ≤ 128) && param % 2 == 0 && len == 20 * param + 8
  | 13 => decide (16 ≤ param ∧ param ≤ 128) && len == 16 * param + 8
  | 14 => decide (param ≤ 2) && len == latticeKeyLen false param
  | 15 => decide (param ≤ 2) && len == latticeKeyLen true param
  | a =>
    if 0x10 ≤ a ∧ a ≤ 0x19 then decide (1 ≤ len ∧ len ≤ 144) && param == 0
    else algListed a && len == algKeyLen a && param == 0

/-- The 48 B header of a domain key block (R311). -/
def domainHeader (attr len param : Nat) (domain : Nat) (nonce : Bytes) : Bytes :=
  [1, 0] ++ natLE 2 (64 + len) ++ natLE 8 attr ++ natLE 2 len ++ [byte param, 0] ++ natLE 8 domain
    ++ nonce ++ zeros 12

/-- A domain key block (R311). -/
def domainSeal (wrap nonce : Bytes) (domain attr param : Nat) (key : Bytes) : Bytes :=
  let h := domainHeader attr key.length param domain nonce
  let r := gcmSeal wrap nonce h key 16
  h ++ r.1 ++ r.2

/-- The fields of a domain key block's header. -/
structure BlockHeader where
  attr : Nat
  len : Nat
  param : Nat
  domain : Nat
  nonce : Bytes
  deriving DecidableEq, Repr

/-- The header of a domain key block. -/
def blockHeader (b : Bytes) : BlockHeader where
  attr := leNat (slice 4 8 b)
  len := leNat (slice 12 2 b)
  param := (b.getD 14 0).toNat
  domain := leNat (slice 16 8 b)
  nonce := slice 24 12 b

/-- Whether a block's version, reserved bytes, length and parameter are well formed (R312 check 2). DESIGN CHOICE (assumption 35): the
spec does not say whether a block shorter than the LENGTH of the reference that carries it is malformed; here its length must be all
of it, and any other ends 0x020E. -/
def blockWellFormed (b : Bytes) : Bool :=
  let h := blockHeader b
  b.getD 0 0 == 1 && b.getD 1 0 == 0 && leNat (slice 2 2 b) == 64 + h.len && b.length == 64 + h.len &&
    b.getD 15 0 == 0 && (slice 36 12 b).all (· == 0) && blockFormFits (algOf h.attr) h.param h.len

/-- An opened domain key block. -/
structure OpenedBlock where
  attr : Nat
  param : Nat
  key : Bytes
  deriving DecidableEq, Repr

/-- The checks 1 to 6 of R312 and the decryption; the opcode's own checks 7 follow it. -/
def domainOpen (wrap : KeyVal) (domain fn : Nat) (b : Bytes) : Except Nat OpenedBlock :=
  let h := blockHeader b
  if algOf wrap.attr ≠ 5 then .error 0x0220
  else if blockWellFormed b = false then .error 0x020E
  else
    match gcmOpen wrap.bytes h.nonce (b.take 48) (slice 48 h.len b) (b.drop (48 + h.len)) with
    | none => .error 0x0230
    | some key =>
      if h.domain ≠ domain then .error 0x020C
      else if ownerIs fn h.attr = false then .error 0x0205
      else if (attrOfWord h.attr).mark ≠ 0 then .error 0x0208
      else .ok ⟨h.attr, h.param, key⟩

/-! ### ANSI X9.143 key blocks -/

/-- Key usages of X9.143 with the codes of R287. -/
def x9Usages : List (String × Nat) :=
  [("P0", 0x01), ("V1", 0x02), ("V2", 0x03), ("C0", 0x04), ("E0", 0x05), ("E1", 0x06), ("E2", 0x07),
   ("M1", 0x08), ("M3", 0x09), ("M6", 0x0A), ("M7", 0x0B), ("D0", 0x0C), ("K0", 0x0D), ("K1", 0x0E),
   ("B0", 0x0F), ("B1", 0x10), ("S0", 0x11), ("D1", 0x12), ("K3", 0x13)]

/-- Modes of use of X9.143 with the codes of R288. -/
def x9Modes : List (String × Nat) :=
  [("E", 1), ("D", 2), ("B", 3), ("G", 4), ("V", 5), ("C", 6), ("X", 7), ("N", 8), ("S", 9)]

/-- Exportability letters of X9.143 with the codes of EXPORT (R313). -/
def x9Exports : List (String × Nat) := [("E", 1), ("N", 0), ("S", 2)]

/-- The code a table of names gives a field of ASCII bytes. -/
def codeNamed (table : List (String × Nat)) (bs : Bytes) : Option Nat :=
  (table.find? fun p => ascii p.1 == bs).map (·.2)

/-- The name a table gives a code. -/
def nameCoded (table : List (String × Nat)) (code : Nat) : Bytes :=
  match table.find? fun p => p.2 == code with
  | some p => ascii p.1
  | none => []

/-- The value of a decimal field. -/
def decField (bs : Bytes) : Option Nat :=
  if bs.all (fun b => decide (48 ≤ b.toNat ∧ b.toNat ≤ 57)) then
    some (bs.foldl (fun a b => 10 * a + (b.toNat - 48)) 0) else none

/-- The value of a hexadecimal digit, in upper case as the standard prints it. -/
def hexDigit (b : Byte) : Option Nat :=
  if 48 ≤ b.toNat ∧ b.toNat ≤ 57 then some (b.toNat - 48)
  else if 65 ≤ b.toNat ∧ b.toNat ≤ 70 then some (b.toNat - 55) else none

/-- The bytes a hexadecimal field spells. -/
def hexField (bs : Bytes) : Option Bytes :=
  if bs.length % 2 = 1 then none else (bs.mapM hexDigit).map packNibbles

/-- A byte string in hexadecimal. -/
def toHex (bs : Bytes) : Bytes :=
  (nibbles bs).map fun n => byte (if n < 10 then 48 + n else 55 + n)

/-- The algorithm indicator of a key block protection key in its derivation data. -/
def x9Indicator (key : KeyVal) : Nat := algOf key.attr - 1

/-- The encryption (0) or MAC (1) key derived from the protection key by CMAC. -/
def x9Derive (key : KeyVal) (purpose : Nat) : Bytes :=
  let c := key.cipher
  let n := key.bytes.length
  ((List.range (ceilDiv n (blockLen c))).flatMap fun i =>
    cmac c key.bytes ([byte (i + 1)] ++ natBE 2 purpose ++ [0] ++ natBE 2 (x9Indicator key) ++
      natBE 2 (8 * n))).take n

/-- The length of the optional blocks of a header, all of accepted kinds (R313). -/
def x9Optional : Nat → Bytes → Option Nat
  | 0, _ => some 0
  | n + 1, bs =>
    let ident := bs.take 2
    if [ascii "KS", ascii "KV", ascii "TS", ascii "PB"].contains ident = false then none
    else
      match hexField (slice 2 2 bs) with
      | some [l] =>
        if l.toNat < 4 ∨ bs.length < l.toNat then none
        else (x9Optional n (bs.drop l.toNat)).map (· + l.toNat)
      | _ => none

/-- What an X9.143 block carries: the fields of R313 and the key. -/
structure X9Key where
  alg : Nat
  usage : Nat
  mode : Nat
  exp : Nat
  key : Bytes
  deriving DecidableEq, Repr

/-- The ALG of an algorithm letter and a key length (R313). -/
def x9Alg (letter : Bytes) (len : Nat) : Option Nat :=
  if letter = ascii "T" then if len = 16 then some 1 else if len = 24 then some 2 else none
  else if letter = ascii "A" then
    if len = 16 ∨ len = 24 ∨ len = 32 then some (aesAlg len) else none
  else if letter = ascii "H" then
    if 14 ≤ len ∧ len ≤ 32 ∧ len % 2 = 0 then some (0x10 + (len - 14) / 2) else none
  else none

/-- A block split into its header, encrypted key data and MAC, when its form is accepted (R313). -/
def x9Split (c : Cipher) (b : Bytes) : Option (Bytes × Bytes × Bytes) :=
  match decField (slice 12 2 b) with
  | none => none
  | some n =>
    match x9Optional n (b.drop 16) with
    | none => none
    | some ol =>
      let macHex := 2 * blockLen c
      let head := b.take (16 + ol)
      let rest := b.drop (16 + ol)
      if rest.length < macHex then none
      else
        match hexField (rest.take (rest.length - macHex)), hexField (rest.drop (rest.length - macHex)) with
        | some enc, some mac =>
          if enc = [] ∨ enc.length % blockLen c ≠ 0 then none else some (head, enc, mac)
        | _, _ => none

/-- An X9.143 block opened under its protection key (R313). -/
def x9Open (kbpk : KeyVal) (b : Bytes) : Except Nat X9Key :=
  let version := b.take 1
  let known := version = ascii "B" ∨ version = ascii "D"
  if ¬known ∨ decField (slice 1 4 b) ≠ some b.length ∨ slice 14 2 b ≠ ascii "00" then .error 0x0212
  else if (version = ascii "D") ≠ (kbpk.cipher = .aes) then .error 0x0220
  else
    let c := kbpk.cipher
    match codeNamed x9Usages (slice 5 2 b), codeNamed x9Modes (slice 8 1 b),
        codeNamed x9Exports (slice 11 1 b), x9Split c b with
    | some u, some m, some e, some (head, enc, mac) =>
      let data := cbcDecrypt c (x9Derive kbpk 0) mac enc
      if cmac c (x9Derive kbpk 1) (head ++ data) ≠ mac then .error 0x0213
      else
        let bitsLen := beNat (data.take 2)
        let key := slice 2 (bitsLen / 8) data
        if bitsLen % 8 ≠ 0 ∨ key.length ≠ bitsLen / 8 then .error 0x0212
        else
          match x9Alg (slice 7 1 b) key.length with
          | none => .error 0x0212
          | some a => .ok ⟨a, u, m, e, key⟩
    | _, _, _, _ => .error 0x0212

/-- The algorithm letter of an ALG (R313). -/
def x9Letter (alg : Nat) : Bytes :=
  ascii (if alg = 1 ∨ alg = 2 then "T" else if alg ≤ 5 then "A" else "H")

/-- `n` as `len` decimal digits. -/
def decimal (len n : Nat) : Bytes := (strRadix 10 len n).map fun d => byte (48 + d)

/-- The version D block of a key under an AES protection key; `fresh` numbers the use of the padding
that the standard leaves open (R313; assumption 13). -/
def x9Seal (kbpk : KeyVal) (a : Attr) (key : Bytes) (fresh : Nat) : Bytes :=
  let n := ceilDiv (key.length + 2) 16 * 16
  let data := natBE 2 (8 * key.length) ++ key ++
    (List.range (n - key.length - 2)).map (Config.blockPad fresh)
  let head := ascii "D" ++ decimal 4 (16 + 2 * n + 32) ++ nameCoded x9Usages a.usage ++ x9Letter a.alg ++
    nameCoded x9Modes a.mode ++ ascii "00" ++ nameCoded x9Exports a.exp ++ ascii "0000"
  let mac := cmac .aes (x9Derive kbpk 1) (head ++ data)
  head ++ toHex (cbcEncrypt .aes (x9Derive kbpk 0) mac data) ++ toHex mac

/-! ### Derivation from an agreement secret -/

/-- The two-step key derivation of opcode 0x110: extraction with the salt, one block of expansion in
counter mode (R314). -/
def agreementKey (salt secret info : Bytes) (len : Nat) : Bytes :=
  let prk := hmac .sha256 (if salt.isEmpty then zeros 32 else salt) secret
  (hmac .sha256 prk (natBE 4 1 ++ info)).take len

end Sys2Proof.Machine
end

