-- ==== Sys2Proof/Machine/Operands.lean ====
section
/-!
DEFINITION. The operand forms: Chain headers, Link entries, operand and key references (R44 to R54), what each
opcode takes and gives (ch. 04, 05, 06, 11, 12), the roles its keys need, and the structural checks of R56.
-/
namespace Sys2Proof.Machine

/-! ### Fields (R47 to R50) -/

/-- Header fields (R47). -/
def Body.h (b : Body) (i : Nat) : Nat := b.hdr.getD i 0
def Body.format (b : Body) : Nat := bits (b.h 0) 0 8
def Body.linkCount (b : Body) : Nat := bits (b.h 0) 8 6
def Body.bufCount (b : Body) : Nat := bits (b.h 0) 16 6
def Body.wbCount (b : Body) : Nat := bits (b.h 0) 24 3
def Body.nonceRet (b : Body) : Nat := bits (b.h 0) 28 2
def Body.nonceLink (b : Body) : Nat := bits (b.h 0) 32 5
def Body.nonceWb (b : Body) : Nat := bits (b.h 0) 40 2
def Body.groupMask (b : Body) : Nat := bits (b.h 0) 48 12
def Body.inBufs (b : Body) : Nat := bits (b.h 1) 0 6
def Body.defaultDeadline (b : Body) : Nat := bits (b.h 1) 16 16
/-- Write-back item `i`, 0 to 3. -/
def Body.wb (b : Body) (i : Nat) : Nat := bits (b.h (2 + i / 2)) (32 * (i % 2)) 32

/-- Link fields (R48). -/
def LinkWords.group (l : LinkWords) : Nat := bits l.w0 8 4
def LinkWords.soft (l : LinkWords) : Bool := bitOf l.w0 12
def LinkWords.guardSrc (l : LinkWords) : Nat := bits l.w0 16 5
def LinkWords.guardCond (l : LinkWords) : Nat := bits l.w0 21 2
def LinkWords.key0Src (l : LinkWords) : Nat := bits l.w0 24 2
def LinkWords.key1Src (l : LinkWords) : Nat := bits l.w0 26 2
def LinkWords.param (l : LinkWords) : Nat := bits l.w0 32 32
def LinkWords.key0Ref (l : LinkWords) : Nat := bits l.w1 0 32
def LinkWords.key1Ref (l : LinkWords) : Nat := bits l.w1 32 32
def LinkWords.in0 (l : LinkWords) : Nat := bits l.w2 0 32
def LinkWords.in1 (l : LinkWords) : Nat := bits l.w2 32 32
def LinkWords.in2 (l : LinkWords) : Nat := bits l.w3 0 32
def LinkWords.out (l : LinkWords) : Nat := bits l.w3 32 32

/-- Operand reference fields (R49): kind 0 none, 1 inline, 2 buffer. -/
def refKind (r : Nat) : Nat := bits r 0 2
def refBuf (r : Nat) : Nat := bits r 2 5
def refOffset (r : Nat) : Nat := bits r 8 8
/-- LENGTH, and 0 for kind none. -/
def refLen (r : Nat) : Nat := if refKind r = 0 then 0 else bits r 16 14
/-- First byte of a buffer reference in the Chain's buffers, or of an inline one in the inline area. -/
def refStart (r : Nat) : Nat := if refKind r = 2 then refBuf r * 256 + refOffset r else refOffset r
/-- One past its last byte. -/
def refStop (r : Nat) : Nat := refStart r + refLen r

/-- A reserved bit or encoding of an operand reference (R49, R51). -/
def refReserved (r : Nat) : Bool :=
  match refKind r with
  | 0 => r != 0
  | 1 => bitOf r 7 || bits r 30 2 != 0 || refBuf r != 0
  | 2 => bitOf r 7 || bits r 30 2 != 0
  | _ => true

/-- A key reference's first byte in the Chain's buffers (R50). -/
def keyRefStart (r : Nat) : Nat := bits r 0 5 * 256 + bits r 8 8

/-- A reserved bit of a key reference (R50). -/
def keyRefReserved (src r : Nat) : Bool :=
  match src with
  | 0 => r != 0
  | 1 => r >>> 18 != 0
  | 2 => r >>> 8 != 0
  | _ => bits r 5 3 != 0 || r >>> 16 != 0

/-- The body that bytes spell (R44). -/
def bodyOfBytes (bs : Bytes) : Body :=
  let word := fun (off : Nat) => leNat (slice off 8 bs)
  { hdr := (List.range 8).map fun i => word (8 * i)
    links := (List.range ((bs.length - 64) / 32)).map fun n =>
      { w0 := word (64 + 32 * n), w1 := word (72 + 32 * n), w2 := word (80 + 32 * n),
        w3 := word (88 + 32 * n) } }

/-- The bytes of a Link entry as the four words hold it. -/
def linkOfBytes (bs : Bytes) : LinkWords :=
  { w0 := leNat (slice 0 8 bs), w1 := leNat (slice 8 8 bs), w2 := leNat (slice 16 8 bs),
    w3 := leNat (slice 24 8 bs) }

/-! ### What each opcode is (R60, R79, R116, R118, R174, R179, R333) -/

/-- The opcodes of groups 0x0 to 0xA (R63, R101, R103, R111, R125, R129, R149, R158, R314, R341 and ch. 04). -/
def definedOpcodes : List Nat :=
  [0x000, 0x001, 0x002, 0x003, 0x004, 0x101, 0x102, 0x103, 0x104, 0x105, 0x106, 0x107, 0x108, 0x110, 0x1A0,
   0x201, 0x202, 0x203, 0x301, 0x302, 0x303, 0x310, 0x311, 0x401, 0x402, 0x410, 0x411, 0x412, 0x413] ++
  [0x501, 0x502, 0x503, 0x504, 0x510, 0x511, 0x601, 0x602, 0x701, 0x702, 0x703, 0x710, 0x711, 0x712, 0x713,
   0x720, 0x721, 0x722, 0x723, 0x7F0, 0x7F1, 0x7F2, 0x801, 0x802, 0x803, 0x811, 0x812, 0x813, 0x901] ++
  [0xA01, 0xA02, 0xA10, 0xA11, 0xA12, 0xA13]

/-- An opcode is defined; those of group 0xB are the running image's (R356). -/
def opDefined (fw : List (Nat × Bool)) (op : Nat) : Bool :=
  definedOpcodes.contains op || (op / 256 == 0xB && fw.any fun f => f.1 == op)

/-- The class that a message length fixes (R79, R111). -/
def lengthClass (n : Nat) : Nat := if n ≤ 64 then 1 else if n ≤ 1024 then 2 else 3

/-- The size classes of R151, numbered from 0, of a modulus of `words` words. -/
def sizeClass (words : Nat) : Nat :=
  if words ≤ 16 then 0 else if words ≤ 32 then 1 else if words ≤ 48 then 2
  else if words ≤ 64 then 3 else if words ≤ 96 then 4 else 5

/-- The energy class of a Link (R79, R129, R174, R185, R314, R341 and the opcode tables). -/
def energyClass (l : LinkWords) : Nat :=
  let op := l.opcode
  let size := sizeClass (bits l.param 8 8)
  match op / 256 with
  | 0x0 => 0
  | 0x1 => if op = 0x106 ∨ op = 0x107 then 1 else 2
  | 0x2 => lengthClass (refLen l.in0)
  | 0x3 => lengthClass (refLen l.in0)
  | 0x4 => 1
  | 0x5 =>
    if op = 0x501 then 2 else if op = 0x502 ∨ op = 0x504 then lengthClass (refLen l.in0) else 1
  | 0x6 => 2
  | 0x7 =>
    if op = 0x7F0 then 4
    else if op = 0x703 then (if size ≤ 1 then 4 else 5)
    else if op = 0x701 ∨ op = 0x702 ∨ op = 0x7F1 ∨ op = 0x7F2 then
      (if size ≤ 1 then 5 else if size ≤ 3 then 6 else 7)
    else if bits l.param 0 4 = 0 then 4 else 5
  | 0x8 => if op = 0x812 then 5 else 4
  | 0xA => if op = 0xA11 ∨ op = 0xA13 then 2 else 1
  | 0xB => 2
  | _ => 1

/-- The cost of an energy class in units of 10 nJ (R185). -/
def classCost : Nat → Nat
  | 0 => 2 | 1 => 50 | 2 => 150 | 3 => 400 | 4 => 2500 | 5 => 9000 | 6 => 400000 | _ => 3200000

/-- The cost of a Link. -/
def linkCost (l : LinkWords) : Nat := classCost (energyClass l)

/-- A Link is large when its class is E4 to E7 (R182). -/
def linkLarge (l : LinkWords) : Bool := decide (energyClass l ≥ 4)

/-- Whether a Link is a verify Link (R60, R111, R356). -/
def isVerify (fw : List (Nat × Bool)) (op param : Nat) : Bool :=
  if op = 0x202 ∨ op = 0x203 then decide (bits param 0 3 ≥ 3)
  else if op / 256 = 0xB then fw.any fun f => f.1 == op && f.2
  else [0x003, 0x303, 0x311, 0x411, 0x413, 0x502, 0x511, 0x711, 0x721, 0x813, 0xA12, 0xA13].contains op

/-- Whether a Link takes an invocation value at issue (R118). -/
def makesNonce (op param : Nat) : Bool :=
  if op = 0x201 then decide (bits param 0 3 ≥ 2)
  else if op = 0x203 then decide (bits param 4 3 ≥ 2)
  else [0x104, 0x108, 0x713, 0x723, 0x801, 0x811].contains op

/-- Bytes a Link draws at issue (R333). -/
def drawBytes (l : LinkWords) : Nat :=
  let p := l.param
  let k := bits p 8 8 * 8
  let byCurve := fun (a b c : Nat) => if bits p 0 4 = 0 then a else if bits p 0 4 = 1 then b else c
  match l.opcode with
  | 0x201 => if bits p 0 3 = 1 then 16 else 0
  | 0x203 => if bits p 4 3 = 1 then 16 else 0
  | 0x402 => if bits p 0 4 = 0 then 0 else 8
  | 0x106 => 40
  | 0x901 => refLen l.out
  | 0xA11 => bits p 4 7
  | 0x701 => k + 32
  | 0x702 => k + 24
  | 0x710 => byCurve 96 128 164
  | 0x713 => byCurve 96 128 164
  | 0x712 => byCurve 56 72 90
  | 0x720 => 56
  | 0x722 => 56
  | 0x723 => 88
  | 0x801 => 80
  | 0x802 => 48
  | 0x811 => 48
  | 0x812 => 48
  | op => if op / 256 = 7 ∨ op = 0x803 ∨ op = 0x813 then 16 else 0

/-! ### Sizes of operands (R143, R146, R159, R311) -/

/-- Field and order length of a curve of R150. -/
def curveLen : Nat → Nat
  | 0 => 32 | 1 => 48 | _ => 66

/-- Public or encapsulation key, and ciphertext or signature, of a lattice set (R159). -/
def kemSizes : Nat → Nat × Nat
  | 0 => (800, 768) | 1 => (1184, 1088) | _ => (1568, 1568)
def dsaSizes : Nat → Nat × Nat
  | 0 => (1312, 2420) | 1 => (1952, 3309) | _ => (2592, 4627)

/-- Length of the private key of an opcode in its plain form (R146). -/
def privateLen (op p : Nat) : Nat :=
  let k := bits p 8 8 * 8
  match op with
  | 0x701 => 5 * k / 2 + 8
  | 0x702 => 2 * k + 8
  | 0x720 => 32
  | 0x722 => 32
  | 0x723 => 32
  | 0x801 => latticeKeyLen false (bits p 0 2)
  | 0x803 => latticeKeyLen false (bits p 0 2)
  | 0x811 => latticeKeyLen true (bits p 0 2)
  | 0x812 => latticeKeyLen true (bits p 0 2)
  | _ => curveLen (bits p 0 4)

/-- Digest length of the HASH of an encoding, 0 to 2, or of the ALG of a hash opcode (R125, R129). -/
def hashBytes : Nat → Nat
  | 0 => 32 | 1 => 48 | 2 => 64 | 3 => 32 | _ => 64

/-- Key length of a WK_ALG (R103). -/
def workingKeyLen : Nat → Nat
  | 0 => 16 | 1 => 24 | 2 => 16 | 3 => 24 | _ => 32

/-! ### PARAM (R51) -/

/-- A reserved bit or encoding of PARAM gives 0x0103. -/
def paramReserved (op p : Nat) : Bool :=
  let rsa := op = 0x701 || op = 0x702 || op = 0x703
  let raw := op = 0x7F0 || op = 0x7F1 || op = 0x7F2
  match op with
  | 0x004 => !(decide (1 ≤ p) && decide (p ≤ 65535))
  | 0x101 => p ≥ 4
  | 0x103 => p ≥ 4
  | 0x106 => p ≥ 4
  | 0x110 => p ≥ 2 ^ 14 || !algListed (bits p 0 5) || !usageListed (bits p 5 5) || !modeListed (bits p 10 4)
  | 0x1A0 =>
    bits p 0 2 ≥ 2 || bits p 2 2 != 0 || bits p 4 4 ≥ 5 || bits p 24 8 != 0 ||
      !([0x1000, 0x2000, 0x2001, 0x2002, 0x3000, 0x3001, 0x3002].contains (bits p 8 16))
  | 0x201 => bits p 0 3 ≥ 5 || bitOf p 3 || p >>> 9 != 0
  | 0x202 => bits p 0 3 ≥ 5 || bitOf p 3 || p >>> 9 != 0
  | 0x203 => bits p 0 3 ≥ 5 || bitOf p 3 || bits p 4 3 ≥ 5 || bitOf p 7 || bits p 13 3 != 0 || p >>> 21 != 0
  | 0x301 => bits p 0 4 ≥ 7 || p >>> 16 != 0 || bits p 4 12 > 2048 || (bits p 0 4 ≥ 5 && bits p 4 12 == 0)
  | 0x302 => bits p 0 4 ≥ 5 || p >>> 11 != 0 || bits p 4 7 < 10 || bits p 4 7 > hashBytes (bits p 0 4)
  | 0x303 => bits p 0 4 ≥ 5 || p >>> 11 != 0 || bits p 4 7 < 10 || bits p 4 7 > hashBytes (bits p 0 4)
  | 0x310 => bits p 0 2 == 3 || bits p 2 2 ≥ 2 || bits p 4 5 < 4 || bits p 4 5 > 16 || p >>> 9 != 0
  | 0x311 => bits p 0 2 == 3 || bits p 2 2 ≥ 2 || bits p 4 5 < 4 || bits p 4 5 > 16 || p >>> 9 != 0
  | 0x401 => !([0, 1, 3, 4].contains p)
  | 0x402 => !([0, 1, 3, 4].contains p)
  | 0x410 => bits p 0 4 < 4 || bits p 0 4 > 12 || p >>> 7 != 0
  | 0x411 => bits p 0 4 < 4 || bits p 0 4 > 12 || p >>> 7 != 0
  | 0x412 => p > 9
  | 0x413 => p > 9
  | 0x501 => bits p 0 2 == 3 || bits p 2 2 == 3 || p >>> 5 != 0
  | 0x503 => !(p == 1 || p == 2)
  | 0x504 => !(4 ≤ p && p ≤ 8)
  | 0x510 => !(3 ≤ p && p ≤ 5)
  | 0x511 => !(3 ≤ p && p ≤ 5)
  | 0x601 => p >>> 11 != 0
  | 0x602 => p >>> 11 != 0
  | 0xA01 => bits p 0 2 == 3 || p >>> 3 != 0
  | 0xA02 => bits p 0 2 == 3 || bits p 0 2 == 0 || p >>> 3 != 0
  | _ =>
    match op / 256 with
    | 7 =>
      bits p 6 2 != 0 || p >>> 16 != 0 || bits p 0 4 > 2 || bits p 8 8 > 128 || ((rsa || raw) && bits p 8 8 == 0)
    | 8 => bits p 0 2 == 3 || bits p 2 6 != 0 || p >>> 16 != 0
    | 0xA =>
      bits p 0 2 == 3 || bits p 2 2 != 0 || bits p 4 7 > 64 || bits p 11 5 != 0 ||
        !(1024 ≤ bits p 16 14 && bits p 16 14 ≤ 8192) || bits p 30 2 != 0
    | 0xB => false
    | _ => p != 0

/-- A tag length suits a mode (R112). -/
def tagFits (mode tag : Nat) : Bool :=
  match mode with
  | 3 => decide (12 ≤ tag ∧ tag ≤ 16)
  | 4 => decide (4 ≤ tag ∧ tag ≤ 16) && tag % 2 == 0
  | _ => tag == 0

/-- A PARAM value within its ranges that does not fit its other fields or the opcode gives 0x010F (R51). -/
def paramFits (op p : Nat) : Bool :=
  let curve := bits p 0 4
  let kform := bitOf p 4
  let purpose := bitOf p 5
  let words := bits p 8 8
  match op with
  | 0x110 =>
    ([1, 2, 3, 4, 5, 0x19].contains (bits p 0 5)) &&
      ([usageP0, usageM6, usageD0, usageK0].contains (bits p 5 5))
  | 0x201 => tagFits (bits p 0 3) (bits p 4 5)
  | 0x202 => tagFits (bits p 0 3) (bits p 4 5)
  | 0x203 => tagFits (bits p 0 3) (bits p 8 5) && tagFits (bits p 4 3) (bits p 16 5)
  | 0x301 => bits p 0 4 ≥ 5 || bits p 4 12 == 0
  | 0x310 => !(bits p 0 2 == 2 && bits p 2 2 != 0)
  | 0x311 => !(bits p 0 2 == 2 && bits p 2 2 != 0)
  | 0x501 => !(bits p 0 2 == 1 && bits p 2 2 != 0)
  | 0x701 => curve == 0 && kform && words ≥ 16 && words % 2 == 0
  | 0x702 => curve == 0 && kform && words ≥ 16
  | 0x703 => curve == 0 && !kform && !purpose && words ≥ 16
  | 0x710 => !purpose && words == 0 && (kform || curve == 0)
  | 0x711 => !purpose && words == 0 && !kform
  | 0x712 => !purpose && words == 0 && (kform || curve == 0)
  | 0x713 => words == 0 && !kform
  | 0x720 => curve == 0 && !purpose && words == 0
  | 0x721 => curve == 0 && !purpose && words == 0 && !kform
  | 0x722 => curve == 0 && !purpose && words == 0
  | 0x723 => curve == 0 && words == 0 && !kform
  | 0x7F0 => curve == 0 && !kform && !purpose
  | 0x7F1 => curve == 0 && !kform && !purpose
  | 0x7F2 => curve == 0 && !kform && !purpose
  | 0x813 => true
  | 0xA10 => bits p 4 7 == 0
  | 0xA12 => bits p 4 7 == 0
  | 0xA11 => ceilDiv (bits p 16 14 - 1) 8 ≥ hashBytes (bits p 0 2) + bits p 4 7 + 2
  | 0xA13 => ceilDiv (bits p 16 14 - 1) 8 ≥ hashBytes (bits p 0 2) + bits p 4 7 + 2
  | _ => if op / 256 = 8 then bits p 8 8 == 0 else true

/-! ### Inputs and output (R63, R90 to R132, R149, R158, R314, R341) -/

/-- Bytes of nonce or IV at the head of a record, at most and at least, over the permitted keys (R113). -/
def headMost : Nat → Nat
  | 0 => 0 | 1 => 16 | _ => 12
def headLeast : Nat → Nat
  | 0 => 0 | 1 => 8 | _ => 12
/-- The least record of a mode ahead of its tag. -/
def recordLeast : Nat → Nat
  | 0 => 8 | 1 => 16 | 2 => 13 | _ => 12

/-- FF1 operands: lengths of the middle and of the tweak (R107, R108). -/
def ff1Fits (p len tweak : Nat) : Bool :=
  let lead := bits p 2 4
  let trail := bits p 6 4
  let least := match bits p 0 2 with | 0 => 6 | 1 => 5 | _ => 4
  decide (2 ≤ len ∧ len ≤ 64) && decide (lead + trail + least ≤ len) && decide (tweak ≤ 32) &&
    decide (tweak + (if bitOf p 10 then lead + trail else 0) ≤ 48)

/-- The lengths of IN0, IN1, IN2 and OUT suit the opcode and PARAM; length 0 is kind none. R149 lists no length for the key block of group
0x7, so that a block of any length is admitted there and meets the checks of R145 (DEDUCED, assumption 36). -/
def lengthsFit (op p a b c o : Nat) : Bool :=
  let mode := bits p 0 3
  let m := bits p 8 8 * 8
  let n := curveLen (bits p 0 4)
  let set := bits p 0 2
  let block := 64 + privateLen op p
  let keyed := if bitOf p 4 then c ≥ 64 else c == 0
  let rep := ceilDiv (bits p 16 14) 64 * 8
  let dig := hashBytes (bits p 0 2)
  let bl := if bitOf p 2 then 16 else 8
  match op with
  | 0x000 => a == 0 && b == 0 && c == 0 && o == 0
  | 0x001 => a > 0 && b == 0 && c == 0 && o ≥ a
  | 0x002 => a > 0 && b > 0 && o ≥ a + b + c
  | 0x003 => a > 0 && b == a && c == 0 && o == 0
  | 0x004 => a == 0 && b == 0 && c == 0 && o == 0
  | 0x101 => a > 0 && (b == 0 || b == 8) && c == 0 && o == 0
  | 0x102 => a == 0 && b == 0 && c == 0 && o > 0
  | 0x103 => a ≥ 64 && b == 0 && c == 0 && o == 0
  | 0x104 => a == 0 && b == 0 && c == 0 && o > 0
  | 0x105 => a ≥ 64 && b == 0 && c == 0 && o > 0
  | 0x106 => a == 8 && b == 0 && c == 0 && o == 0
  | 0x107 => a == 0 && b == 0 && c == 0 && o == 0
  | 0x108 => a > 0 && b == 0 && c == 0 && o > 0
  | 0x110 => a ≤ 64 && 1 ≤ b && b ≤ 64 && c == 0 && o ≥ algKeyLen (bits p 0 5)
  | 0x1A0 => a == 12 && b == 0 && c == 0 && o ≥ workingKeyLen (bits p 4 4)
  | 0x201 =>
    let need := headMost mode + a + bits p 4 5
    (if mode < 3 then a > 0 && b == 0 else b ≤ 2048) && (mode != 0 || a ≥ 8) && c == 0 && need ≤ 8192 && o ≥ need
  | 0x202 =>
    let least := headLeast mode + bits p 4 5
    (mode ≥ 3 || b == 0) && b ≤ 2048 && c == 0 && a ≥ recordLeast mode + bits p 4 5 && o + least ≥ a
  | 0x203 =>
    let outMode := bits p 4 3
    let least := headLeast mode + bits p 8 5
    let need := headMost outMode + (a - least) + bits p 16 5
    (mode ≥ 3 || outMode ≥ 3 || b == 0) && b ≤ 2048 && c == 0 && a ≥ recordLeast mode + bits p 8 5 &&
      (outMode != 0 || a - least ≥ 8) && (outMode ≥ 3 || a - least ≥ 1) && need ≤ 8192 && o ≥ need
  | 0x301 => b == 0 && c == 0 && o ≥ (if bits p 0 4 ≥ 5 then bits p 4 12 else hashBytes (bits p 0 4))
  | 0x302 => a > 0 && b == 0 && c == 0 && o ≥ bits p 4 7
  | 0x303 => a > 0 && b == bits p 4 7 && c == 0 && o == 0
  | 0x310 => a > 0 && b == 0 && c == 0 && o ≥ bits p 4 5
  | 0x311 => a > 0 && b == bits p 4 5 && c == 0 && o == 0
  | 0x401 => a == (if p = 4 then 16 else 8) && (if p = 1 then b == 0 else 1 ≤ b && b ≤ 10) && c == 0 && o ≥ 16
  | 0x402 => a == 16 && (if p = 1 then b == 0 else 1 ≤ b && b ≤ 10) && c == 0 && o ≥ (if p = 4 then 16 else 8)
  | 0x410 => a == 16 && b == 8 && c == 0 && o ≥ ceilDiv (bits p 0 4) 2
  | 0x411 => a == 16 && b == 8 && c == ceilDiv (bits p 0 4) 2 && o == 0
  | 0x412 => a == 16 && 1 ≤ b && b ≤ 10 && c == 0 && o ≥ 2
  | 0x413 => a == 16 && 1 ≤ b && b ≤ 10 && c == 2 && o == 0
  | 0x501 => 2 ≤ a && a ≤ 11 && b == (if bits p 0 2 = 1 then 0 else 2) && c == 0 && o ≥ 16
  | 0x502 => 1 ≤ a && a ≤ 1024 && b == 8 && c == 0 && o == 0
  | 0x503 =>
    a == 8 && (if p = 1 then b == 2 && c == 0 && o ≥ 8 else b == 4 && c ≤ 8 && o ≥ 4)
  | 0x504 => 1 ≤ a && a ≤ 1024 && b == 0 && c == 0 && o ≥ p
  | 0x510 => 1 ≤ a && a ≤ 10 && b == 4 && c == 0 && o ≥ ceilDiv (bits p 0 3) 2
  | 0x511 => 1 ≤ a && a ≤ 10 && b == 4 && c == ceilDiv (bits p 0 3) 2 && o == 0
  | 0x601 => ff1Fits p a b && c == 0 && o ≥ a
  | 0x602 => ff1Fits p a b && c == 0 && o ≥ a
  | 0x701 => a == m && b == 0 && c ≥ 64 && o ≥ m
  | 0x702 => a == m && b == 0 && c ≥ 64 && o ≥ m
  | 0x703 => a == m && b == m && c == 4 && o ≥ m
  | 0x710 => 20 ≤ a && a ≤ 64 && b == 0 && keyed && o ≥ 2 * n
  | 0x711 => 20 ≤ a && a ≤ 64 && b == 2 * n && c == 2 * n + 1 && o == 0
  | 0x712 => a == 2 * n + 1 && b == 0 && keyed && o ≥ n
  | 0x713 => a == 0 && b == 0 && c == 0 && o ≥ block + 2 * n + 1
  | 0x720 => b == 0 && keyed && o ≥ 64
  | 0x721 => b == 64 && c == 32 && o == 0
  | 0x722 => a == 32 && b == 0 && keyed && o ≥ 32
  | 0x723 => a == 0 && b == 0 && c == 0 && o ≥ block + 32
  | 0x7F0 => a == m && b == m && c == m && o ≥ m
  | 0x7F1 => a == m && b == m && c == m && o ≥ m
  | 0x7F2 => a == m && b == 0 && c == m && o ≥ m
  | 0x801 => a == 0 && b == 0 && c == 0 && o == block + (kemSizes set).1
  | 0x802 => a == (kemSizes set).1 && b == 0 && c == 0 && o == (kemSizes set).2 + 32
  | 0x803 => a == (kemSizes set).2 && b == 0 && c == block && o == 32
  | 0x811 => a == 0 && b == 0 && c == 0 && o == block + (dsaSizes set).1
  | 0x812 => b ≤ 255 && c == block && o == (dsaSizes set).2
  | 0x813 => b == bits p 8 8 + (dsaSizes set).2 && c == (dsaSizes set).1 && o == 0
  | 0x901 => a == 0 && b == 0 && c == 0 && 1 ≤ o && o ≤ 1024
  | 0xA01 =>
    let padded := if bits p 0 2 = 0 then max bl (ceilDiv a bl * bl) else (a / bl + 1) * bl
    a ≤ 8191 && b == 0 && c == 0 && padded ≤ 8192 && o ≥ padded
  | 0xA02 => bl ≤ a && a ≤ 8184 && a % bl == 0 && b == 0 && c == 0 && o ≥ a + 2
  | 0xA10 => a == dig && b == 0 && c == 0 && o ≥ rep
  | 0xA11 => a == dig && b == 0 && c == 0 && o ≥ rep
  | 0xA12 => a == rep && b == dig && c == 0 && o == 0
  | 0xA13 => a == rep && b == dig && c == 0 && o == 0
  | _ => op / 256 == 0xB

/-- The key sources that suit the opcode and PARAM: 0 none, 1 working slot, 2 vault slot, 3 key buffer (R48). -/
def sourcesFit (op p k0 k1 : Nat) : Bool :=
  let private0 := if bitOf p 4 then k0 == 1 || k0 == 2 else k0 == 1
  match op with
  | 0x101 => k0 != 0 && k1 == 1
  | 0x102 => k0 != 0 && k1 == 1
  | 0x103 => k0 != 0 && k1 == 1
  | 0x104 => k0 != 0 && k1 == 1
  | 0x105 => k0 != 0 && k1 == 0
  | 0x106 => k0 == 0 && k1 == 1
  | 0x107 => k0 == 0 && k1 == 1
  | 0x108 => k0 != 0 && k1 != 0
  | 0x110 => k0 == 3 && k1 == 0
  | 0x203 => k0 != 0 && k1 != 0
  | 0x501 => (if bits p 0 2 = 2 then k0 == 3 else k0 != 0) && k1 == 0
  | 0x502 => k0 == 3 && k1 == 0
  | 0x503 => k0 == 3 && k1 == 0
  | 0x504 => k0 == 3 && k1 == 0
  | 0x701 => private0 && k1 == 0
  | 0x702 => private0 && k1 == 0
  | 0x710 => private0 && k1 == 0
  | 0x712 => private0 && k1 == 0
  | 0x720 => private0 && k1 == 0
  | 0x722 => private0 && k1 == 0
  | 0x713 => k0 != 0 && k1 == 0
  | 0x723 => k0 != 0 && k1 == 0
  | 0x801 => k0 != 0 && k1 == 0
  | 0x803 => (k0 == 1 || k0 == 2) && k1 == 0
  | 0x811 => k0 != 0 && k1 == 0
  | 0x812 => (k0 == 1 || k0 == 2) && k1 == 0
  | 0x1A0 => k0 != 0 && k1 == 0
  | 0x201 => k0 != 0 && k1 == 0
  | 0x202 => k0 != 0 && k1 == 0
  | 0x302 => k0 != 0 && k1 == 0
  | 0x303 => k0 != 0 && k1 == 0
  | 0x310 => k0 != 0 && k1 == 0
  | 0x311 => k0 != 0 && k1 == 0
  | _ =>
    match op / 256 with
    | 4 => k0 != 0 && k1 == 0
    | 5 => k0 != 0 && k1 == 0
    | 6 => k0 != 0 && k1 == 0
    | 0xB => true
    | _ => k0 == 0 && k1 == 0

/-- The operands and keys of a Link fit its opcode (0x010F otherwise, R56). -/
def operandsFit (l : LinkWords) : Bool :=
  paramFits l.opcode l.param &&
    lengthsFit l.opcode l.param (refLen l.in0) (refLen l.in1) (refLen l.in2) (refLen l.out) &&
    sourcesFit l.opcode l.param l.key0Src l.key1Src

/-! ### Protected outputs and key outputs (R54, R81, R84, R148) -/

/-- Where in OUT a Link's protected bytes begin; they run to its end. -/
def protectedFrom (op p : Nat) : Option Nat :=
  match op with
  | 0x802 => some (kemSizes (bits p 0 2)).2
  | 0x701 => if bitOf p 5 then some 0 else none
  | 0x702 => if bitOf p 5 then some 0 else none
  | _ => if [0x105, 0x110, 0x1A0, 0x401, 0x501, 0x712, 0x722, 0x803].contains op then some 0 else none

/-- Where in OUT a Link's key output begins. -/
def keyFrom (op p : Nat) : Option Nat := if op = 0x401 then none else protectedFrom op p

/-- The opcodes whose IN0 is a PIN record (R85). -/
def takesPin (op : Nat) : Bool := [0x402, 0x410, 0x411, 0x412, 0x413].contains op

/-- The protected range of a Link's output in the Chain's buffers. -/
def protectedRange (l : LinkWords) : Option (Nat × Nat) :=
  if refKind l.out ≠ 2 then none
  else (protectedFrom l.opcode l.param).map fun o => (refStart l.out + o, refStop l.out)

/-! ### Roles of keys (R82, R99, R111, R125, R148, R312, R314) -/

/-- What a key is named as: KEY0, KEY1, or the private key in a domain key block (R145). -/
inductive KeyUse
  | key0
  | key1
  | block
  deriving DecidableEq, Repr

def algTdes : List Nat := [1, 2]
def algAes : List Nat := [3, 4, 5]
def algBlockCipher : List Nat := [1, 2, 3, 4, 5]
def algHmac : List Nat := [0x10, 0x11, 0x12, 0x13, 0x14, 0x15, 0x16, 0x17, 0x18, 0x19]

/-- What an operand accepts: its algorithms, and each usage with its modes. -/
structure KeyRole where
  algs : List Nat
  roles : List (Nat × List Nat)

/-- What the private key of an opcode must be (R148, R286). -/
def privateRole (op p : Nat) : KeyRole :=
  let sign : List (Nat × List Nat) := [(usageS0, [modeS, modeN])]
  let rsaRoles : List (Nat × List Nat) := if bitOf p 5 then [(usageD1, [modeD])] else sign
  let agree : List (Nat × List Nat) := [(usageK3, [modeX])]
  let curve := match bits p 0 4 with | 0 => 0x06 | 1 => 0x0A | _ => 0x0B
  match op with
  | 0x701 => { algs := [0x0C], roles := rsaRoles }
  | 0x702 => { algs := [0x0D], roles := rsaRoles }
  | 0x710 => { algs := [curve], roles := sign }
  | 0x712 => { algs := [curve], roles := agree }
  | 0x720 => { algs := [0x07], roles := sign }
  | 0x722 => { algs := [0x08], roles := agree }
  | 0x803 => { algs := [0x0E], roles := agree }
  | _ => { algs := [0x0F], roles := sign }

/-- The role that an opcode gives its key; `buffer` tells a key buffer from a slot. -/
def keyRole (op p : Nat) (use : KeyUse) (buffer : Bool) : KeyRole :=
  let wrap : KeyRole := { algs := [5], roles := [(usageK0, [modeE, modeB])] }
  let unwrap : KeyRole := { algs := [5], roles := [(usageK0, [modeD, modeB])] }
  let data := fun (mode : Nat) (smc : Bool) =>
    ({ algs := algBlockCipher,
       roles := (usageD0, [mode, modeB]) :: (if smc then [(usageE1, [modeE])] else []) } : KeyRole)
  if use = .block then privateRole op p else
  match op with
  | 0x101 => { algs := algBlockCipher, roles := [(usageK1, [modeD, modeB])] }
  | 0x102 => { algs := algAes, roles := [(usageK1, [modeE, modeB])] }
  | 0x103 => unwrap
  | 0x104 => wrap
  | 0x105 => unwrap
  | 0x108 => if use = .key1 then wrap else { algs := algBlockCipher, roles := [(usageK1, [modeD, modeB])] }
  | 0x110 => { algs := [9], roles := [(usageDerive, [modeX])] }
  | 0x1A0 => { algs := algAes, roles := [(if bits p 0 2 = 0 then usageB0 else usageB1, [modeX])] }
  | 0x201 => data modeE buffer
  | 0x202 => data modeD false
  | 0x203 => if use = .key1 then data modeE false else data modeD false
  | 0x302 => { algs := algHmac, roles := [(usageM7, [modeG, modeC])] }
  | 0x303 => { algs := algHmac, roles := [(usageM7, [modeV, modeC])] }
  | 0x310 =>
    { algs := if bits p 0 2 = 1 then [1] else algBlockCipher,
      roles := [(match bits p 0 2 with | 0 => usageM1 | 1 => usageM3 | _ => usageM6, [modeG, modeC])] }
  | 0x311 =>
    { algs := if bits p 0 2 = 1 then [1] else algBlockCipher,
      roles := [(match bits p 0 2 with | 0 => usageM1 | 1 => usageM3 | _ => usageM6, [modeV, modeC])] }
  | 0x401 => { algs := if p = 4 then algAes else algTdes, roles := [(usageP0, [modeD, modeB])] }
  | 0x402 => { algs := if p = 4 then algAes else algTdes, roles := [(usageP0, [modeE, modeB])] }
  | 0x410 => { algs := algTdes, roles := [(usageV1, [modeG, modeC])] }
  | 0x411 => { algs := algTdes, roles := [(usageV1, [modeV, modeC])] }
  | 0x412 => { algs := algTdes, roles := [(usageV2, [modeG, modeC])] }
  | 0x413 => { algs := algTdes, roles := [(usageV2, [modeV, modeC])] }
  | 0x501 => { algs := 1 :: algAes, roles := [(usageE0, [modeX]), (usageE1, [modeX]), (usageE2, [modeX])] }
  | 0x502 => { algs := 1 :: algAes, roles := [(usageE0, [modeC])] }
  | 0x503 => { algs := 1 :: algAes, roles := [(usageE0, [modeC])] }
  | 0x504 => { algs := 1 :: algAes, roles := [(usageE2, [modeG])] }
  | 0x510 => { algs := [1], roles := [(usageC0, [modeG, modeC])] }
  | 0x511 => { algs := [1], roles := [(usageC0, [modeV, modeC])] }
  | 0x601 => { algs := algAes, roles := [(usageD0, [modeE, modeB])] }
  | 0x602 => { algs := algAes, roles := [(usageD0, [modeD, modeB])] }
  | 0x713 => wrap
  | 0x723 => wrap
  | 0x801 => wrap
  | 0x811 => wrap
  | 0x803 => unwrap
  | 0x812 => unwrap
  | _ => if bitOf p 4 then unwrap else privateRole op p

/-- KEY0 of the opcode accepts a vault key: its usage is K0, K1 or B0 (R293). -/
def takesVault (op p : Nat) : Bool :=
  (keyRole op p .key0 false).roles.any fun r => r.1 == usageK0 || r.1 == usageK1 || r.1 == usageB0

/-- Checks 6 to 8 of R292 on an attribute word: the status of the first that fails. -/
def roleRefused (r : KeyRole) (attr : Nat) : Option Nat :=
  let a := attrOfWord attr
  if !r.algs.contains a.alg then some 0x0220
  else
    match r.roles.find? fun u => u.1 == a.usage with
    | none => some 0x0206
    | some u => if u.2.contains a.mode then none else some 0x0207

/-! ### Structural checks (R45, R51, R53, R54, R56) -/

/-- Every byte from `s` up to `e` lies in one of the ranges; `fuel` bounds the ranges crossed. -/
def coveredFuel (ranges : List (Nat × Nat)) : Nat → Nat → Nat → Bool
  | 0, s, e => decide (e ≤ s)
  | fuel + 1, s, e =>
    if e ≤ s then true
    else
      match ranges.find? fun r => decide (r.1 ≤ s) && decide (s < r.2) with
      | some r => coveredFuel ranges fuel r.2 e
      | none => false

/-- Two ranges share a byte. -/
def overlaps (a b : Nat × Nat) : Bool := decide (a.1 < b.2) && decide (b.1 < a.2)

/-- The output range of a Link. -/
def outRange (l : LinkWords) : Option (Nat × Nat) :=
  if refKind l.out = 2 ∧ refLen l.out > 0 then some (refStart l.out, refStop l.out) else none

/-- The Links of a body with their numbers. -/
def Body.numbered (b : Body) : List (Nat × LinkWords) := (List.range b.links.length).zip b.links

/-- The output ranges of a body with the Links they belong to. -/
def Body.outs (b : Body) : List (Nat × Nat × Nat) :=
  b.numbered.filterMap fun nl => (outRange nl.2).map fun r => (nl.1, r.1, r.2)

/-- Bytes of the input region (R47). -/
def Body.inputBytes (b : Body) : Nat := b.inBufs * 256

/-- Faults of one read, by Link `n` (32 for a write-back item): outside the buffers or the inline area, or bytes
not defined (0x0106); an output of the same or a higher Link (0x0105); protected bytes (0x010C). -/
def readFaults (b : Body) (n : Nat) (pin : Bool) (r : Nat) : List Nat :=
  match refKind r with
  | 1 => (if refStop r > 40 then [0x0106] else []) ++ (if pin then [0x010F] else [])
  | 2 =>
    let range := (refStart r, refStop r)
    let outs := b.outs
    let hit := outs.filter fun o => overlaps range (o.2.1, o.2.2)
    let defined := (0, b.inputBytes) :: outs.map fun o => (o.2.1, o.2.2)
    let prot := b.numbered.filter fun nl =>
      match protectedRange nl.2 with
      | some p => overlaps range p
      | none => false
    let whole := match prot with
      | [nl] => nl.2.opcode == 0x401 && refStart nl.2.out == refStart r && refLen r == 16
      | _ => false
    (if refStop r > b.bufCount * 256 then [0x0106] else []) ++
      (if coveredFuel defined 64 range.1 range.2 then [] else [0x0106]) ++
      (if hit.any fun o => decide (o.1 ≥ n) then [0x0105] else []) ++
      (if !prot.isEmpty && !(pin && whole) then [0x010C] else []) ++
      (if pin && !whole then [0x010F] else [])
  | _ => []

/-- Faults of a key reference of kind key buffer (R45, R50, R53). -/
def keyRefFaults (b : Body) (n src r : Nat) : List Nat :=
  if src ≠ 3 then [] else
    let at_ := keyRefStart r
    match b.outs.find? fun o => decide (o.2.1 ≤ at_) && decide (at_ < o.2.2) with
    | none => if at_ < b.inputBytes then [0x010F] else [0x0106]
    | some o =>
      if o.1 ≥ n then [0x0105]
      else
        let l := b.links.getD o.1 { w0 := 0, w1 := 0, w2 := 0, w3 := 0 }
        match keyFrom l.opcode l.param with
        | some k => if o.2.1 + k = at_ then [] else [0x010F]
        | none => [0x010F]

/-- Faults of one Link entry by itself (R48, R51). DESIGN CHOICE (assumption 36): R51 leaves LENGTH 0 of an operand reference between 0x0106
and 0x010F; it gives 0x010F, as a missing operand does, and LENGTH 0 of a write-back item gives 0x0106. -/
def entryFaults (fw : List (Nat × Bool)) (l : LinkWords) : List Nat :=
  let refs := [l.in0, l.in1, l.in2, l.out]
  let known := opDefined fw l.opcode
  let reserved := bits l.w0 13 3 != 0 || bitOf l.w0 23 || bits l.w0 28 4 != 0 || l.guardCond == 3 ||
    (l.guardCond == 0 && l.guardSrc != 0) || keyRefReserved l.key0Src l.key0Ref ||
    keyRefReserved l.key1Src l.key1Ref || refs.any refReserved || refKind l.out == 1 || !known ||
    (l.soft && !isVerify fw l.opcode l.param) || (known && paramReserved l.opcode l.param)
  (if reserved then [0x0103] else []) ++
    (if refs.any fun r => refKind r != 0 && refLen r == 0 then [0x010F] else []) ++
    (if known && !operandsFit l then [0x010F] else [])

/-- Faults of Link `n` within its body. -/
def linkFaults (fw : List (Nat × Bool)) (b : Body) (n : Nat) (l : LinkWords) : List Nat :=
  let pin := takesPin l.opcode
  let guard :=
    if l.guardCond = 0 then []
    else if l.guardSrc ≥ n then [0x0105]
    else
      let g := b.links.getD l.guardSrc l
      if isVerify fw g.opcode g.param then [] else [0x0107]
  let out := match outRange l with
    | none => []
    | some r =>
      (if r.2 > b.bufCount * 256 then [0x0106] else []) ++ (if r.1 < b.inputBytes then [0x010B] else []) ++
        (if b.outs.any fun o => decide (o.1 < n) && overlaps r (o.2.1, o.2.2) then [0x010B] else [])
  entryFaults fw l ++ guard ++ out ++ readFaults b n pin l.in0 ++ readFaults b n false l.in1 ++
    readFaults b n false l.in2 ++ keyRefFaults b n l.key0Src l.key0Ref ++ keyRefFaults b n l.key1Src l.key1Ref

/-- Faults of the header and the write-back items. -/
def headerFaults (b : Body) : List Nat :=
  let reserved := bits (b.h 0) 14 2 != 0 || bits (b.h 0) 22 2 != 0 || bitOf (b.h 0) 27 || bits (b.h 0) 30 2 != 0 ||
    bits (b.h 0) 37 3 != 0 || bits (b.h 0) 42 6 != 0 || bits (b.h 0) 60 4 != 0 || bits (b.h 1) 6 10 != 0 ||
    bits (b.h 1) 32 32 != 0 || b.h 4 != 0 || b.h 5 != 0 || b.h 6 != 0 || b.h 7 != 0 || b.nonceRet == 3 ||
    b.bufCount > 32 || b.wbCount > 4
  let groups := b.links.foldl (fun m l => m ||| 2 ^ l.group) 0
  let nonce := match b.nonceRet with
    | 1 =>
      match b.links[b.nonceLink]? with
      | some l => !makesNonce l.opcode l.param
      | none => true
    | 2 => decide (b.nonceWb ≥ b.wbCount)
    | _ => false
  let items := (List.range 4).flatMap fun i =>
    let r := b.wb i
    if i ≥ b.wbCount then (if r ≠ 0 then [0x0103] else [])
    else if refReserved r || refKind r != 2 then [0x0103]
    else (if refLen r = 0 then [0x0106] else []) ++ readFaults b 32 false r
  (if b.format ≠ 1 then [0x0101] else []) ++
    (if b.linkCount = 0 ∨ b.linkCount > 32 ∨ b.linkCount ≠ b.links.length then [0x0102] else []) ++
    (if reserved then [0x0103] else []) ++ (if groups ≠ b.groupMask then [0x0104] else []) ++
    (if b.inBufs > b.bufCount then [0x0106] else []) ++ (if nonce then [0x0110] else []) ++ items

/-- Every structural fault of a body that no submission decides (R56, R70). -/
def bodyFaults (fw : List (Nat × Bool)) (b : Body) : List Nat :=
  headerFaults b ++ b.numbered.flatMap fun nl => linkFaults fw b nl.1 nl.2

/-- The lowest status of a list of faults (R56). -/
def lowest : List Nat → Option Nat
  | [] => none
  | a :: t => match lowest t with
    | none => some a
    | some b => some (min a b)

/-- One past the highest byte of the input region that a reference reads (R53, R55). -/
def inputNeed (b : Body) : Nat :=
  let refs := (b.links.flatMap fun l => [l.in0, l.in1, l.in2]) ++ (List.range b.wbCount).map b.wb
  refs.foldl (fun m r =>
    if refKind r = 2 ∧ refStart r < b.inputBytes then max m (min (refStop r) b.inputBytes) else m) 0

/-- The energy estimate of a body: its small and its large part (R178). -/
def estimate (b : Body) : Nat × Nat :=
  b.links.foldl (fun e l => if linkLarge l then (e.1, e.2 + linkCost l) else (e.1 + linkCost l, e.2)) (0, 0)

/-- Engine kinds a body needs (R55). -/
def kindsNeeded (b : Body) : List Nat := (b.links.map fun l => engineKind l.opcode).eraseDups

/-! ### Latency of PKE Links (R151), which decides preemption (R165) -/

/-- Entry `size` of a row of the table of R151. -/
def latencyOf (row : List Nat) (size : Nat) : Nat := row.getD size 0

/-- Latency of a Link of group 0x7 in ECLK. -/
def pkeLatency (l : LinkWords) : Nat :=
  let p := l.param
  let size := sizeClass (bits p 8 8)
  let curve := bits p 0 4
  let len := refLen l.in0
  let n1 := (48 + len) / 128 + 1
  let n2 := (80 + len) / 128 + 1
  match l.opcode with
  | 0x701 => latencyOf [46000, 355445, 1180000, 2823000, 9400000, 22200000] size
  | 0x703 => latencyOf [2200, 7900, 17200, 30100, 67000, 119000] size
  | 0x7F0 => latencyOf [60, 200, 420, 720, 1560, 2720] size
  | 0x7F2 => latencyOf [9000, 30000, 64000, 110000, 240000, 420000] size
  | 0x710 => latencyOf [19980, 62000, 168000] curve
  | 0x711 => latencyOf [31990, 99000, 268000] curve
  | 0x712 => latencyOf [17500, 54000, 147000] curve
  | 0x713 => latencyOf [18100, 55200, 149000] curve
  | 0x720 => 16960 + 80 * (n1 + n2)
  | 0x721 => 27900 + 80 * n2
  | 0x722 => 15400
  | 0x723 => 16200
  | _ => latencyOf [160000, 1240000, 4150000, 9850000, 33000000, 78000000] size

end Sys2Proof.Machine
end

