-- ==== Sys2Proof/Machine/Lattice.lean ====
section
/-!
DEFINITION. The arithmetic of the lattice pairs (R158): ML-KEM as FIPS 203 defines it and ML-DSA as
FIPS 204 defines it. The spec names the two standards and leaves the algorithms to them
(assumption 2).
-/
namespace Sys2Proof.Machine

/-! ### Number-theoretic transforms -/

/-- A modulus with a root of unity and how the transform over it is cut. -/
structure NttRing where
  q : Nat
  zeta : Nat
  order : Nat
  revBits : Nat
  levels : Nat
  deriving DecidableEq, Repr

/-- The ring of ML-KEM. -/
def kemRing : NttRing := ⟨3329, 17, 256, 7, 7⟩

/-- The ring of ML-DSA. -/
def dsaRing : NttRing := ⟨8380417, 1753, 512, 8, 8⟩

/-- The low `n` bits of `k` in reverse order. -/
def bitRev : Nat → Nat → Nat
  | 0, _ => 0
  | n + 1, k => k % 2 * 2 ^ n + bitRev n (k / 2)

/-- The forward transform of the subtree at node `k`. -/
def nttNode (r : NttRing) : Nat → Nat → List Nat → List Nat
  | 0, _, f => f
  | lv + 1, k, f =>
    let h := f.length / 2
    let a := f.take h
    let z := powMod r.zeta (bitRev r.revBits k) r.q
    let zb := (f.drop h).map fun x => z * x % r.q
    nttNode r lv (2 * k) (List.zipWith (fun x y => (x + y) % r.q) a zb) ++
      nttNode r lv (2 * k + 1) (List.zipWith (fun x y => (x + r.q - y) % r.q) a zb)

/-- The inverse transform of the subtree at node `k`. -/
def inttNode (r : NttRing) : Nat → Nat → List Nat → List Nat
  | 0, _, f => f
  | lv + 1, k, f =>
    let h := f.length / 2
    let a := inttNode r lv (2 * k) (f.take h)
    let b := inttNode r lv (2 * k + 1) (f.drop h)
    let half := (r.q + 1) / 2
    let zi := powMod r.zeta (r.order - bitRev r.revBits k) r.q * half % r.q
    List.zipWith (fun x y => (x + y) * half % r.q) a b ++
      List.zipWith (fun x y => (x + r.q - y) * zi % r.q) a b

/-- The forward transform. -/
def ntt (r : NttRing) (f : List Nat) : List Nat := nttNode r r.levels 1 f

/-- The inverse transform. -/
def intt (r : NttRing) (f : List Nat) : List Nat := inttNode r r.levels 1 f

/-- The sum of two polynomials. -/
def polyAdd (q : Nat) (a b : List Nat) : List Nat := List.zipWith (fun x y => (x + y) % q) a b

/-- The difference of two polynomials. -/
def polySub (q : Nat) (a b : List Nat) : List Nat := List.zipWith (fun x y => (x + q - y) % q) a b

/-- The product of two transformed polynomials of ML-DSA. -/
def dsaMul (a b : List Nat) : List Nat := List.zipWith (fun x y => x * y % 8380417) a b

/-- The product of two transformed polynomials of ML-KEM, pair by pair. -/
def kemMulPairs : Nat → List Nat → List Nat → List Nat
  | i, a0 :: a1 :: as, b0 :: b1 :: bs =>
    let g := powMod 17 (2 * bitRev 7 i + 1) 3329
    (a0 * b0 + a1 * b1 % 3329 * g) % 3329 :: (a0 * b1 + a1 * b0) % 3329 :: kemMulPairs (i + 1) as bs
  | _, _, _ => []

/-- The product of two transformed polynomials of ML-KEM. -/
def kemMul (a b : List Nat) : List Nat := kemMulPairs 0 a b

/-- The inner product of two vectors of transformed polynomials. -/
def polyDot (q : Nat) (mul : List Nat → List Nat → List Nat) (u v : List (List Nat)) : List Nat :=
  (List.zipWith mul u v).foldl (polyAdd q) (List.replicate 256 0)

/-- 256 coefficients of `d` bits packed least significant first. -/
def packCoeffs (d : Nat) (f : List Nat) : Bytes :=
  natLE (32 * d) (f.foldr (fun c acc => acc * 2 ^ d + c) 0)

/-- The 256 coefficients of `d` bits that 32·d bytes pack. -/
def unpackCoeffs (d : Nat) (bs : Bytes) : List Nat := digitsLE (2 ^ d) 256 (leNat bs)

/-! ### ML-KEM -/

/-- A parameter set of FIPS 203. -/
structure KemParams where
  k : Nat
  eta1 : Nat
  du : Nat
  dv : Nat
  deriving DecidableEq, Repr

/-- The parameter set that SET selects (R159). -/
def kemParams : Nat → KemParams
  | 0 => ⟨2, 3, 10, 4⟩
  | 1 => ⟨3, 2, 10, 4⟩
  | _ => ⟨4, 2, 11, 5⟩

/-- Coefficients below q taken from pairs of 12-bit candidates. -/
def kemCandidates : Bytes → List Nat
  | a :: b :: c :: bs =>
    let d1 := a.toNat + 256 * (b.toNat % 16)
    let d2 := b.toNat / 16 + 16 * c.toNat
    (if d1 < 3329 then [d1] else []) ++ (if d2 < 3329 then [d2] else []) ++ kemCandidates bs
  | _ => []

/-- SampleNTT; six blocks of SHAKE128 hold more than 256 accepted candidates. -/
def kemSampleNtt (seed : Bytes) : List Nat := (kemCandidates (shake128 1008 seed)).take 256

/-- SamplePolyCBD of parameter `eta`. -/
def kemCbd (eta : Nat) (bs : Bytes) : List Nat :=
  let w := leNat bs
  (List.range 256).map fun i =>
    let x := (List.range eta).foldl (fun s j => s + bits w (2 * i * eta + j) 1) 0
    let y := (List.range eta).foldl (fun s j => s + bits w (2 * i * eta + eta + j) 1) 0
    (x + 3329 - y) % 3329

/-- The noise polynomial of index `n` under seed `s`. -/
def kemNoise (eta : Nat) (s : Bytes) (n : Nat) : List Nat := kemCbd eta (shake256 (64 * eta) (s ++ [byte n]))

/-- Row `i` of the matrix, or of its transpose. -/
def kemRow (p : KemParams) (rho : Bytes) (transposed : Bool) (i : Nat) : List (List Nat) :=
  (List.range p.k).map fun j =>
    kemSampleNtt (rho ++ if transposed then [byte i, byte j] else [byte j, byte i])

/-- Compress of FIPS 203. -/
def kemCompress (d x : Nat) : Nat := (x * 2 ^ (d + 1) + 3329) / (2 * 3329) % 2 ^ d

/-- Decompress of FIPS 203. -/
def kemDecompress (d y : Nat) : Nat := (2 * y * 3329 + 2 ^ d) / 2 ^ (d + 1)

/-- The encapsulation key and the decapsulation key that the seeds `d` and `z` give. -/
def kemKeyGen (p : KemParams) (d z : Bytes) : Bytes × Bytes :=
  let g := sha3_512 (d ++ [byte p.k])
  let rho := g.take 32
  let sigma := g.drop 32
  let s := (List.range p.k).map fun i => ntt kemRing (kemNoise p.eta1 sigma i)
  let e := (List.range p.k).map fun i => ntt kemRing (kemNoise p.eta1 sigma (p.k + i))
  let t := (List.range p.k).map fun i =>
    polyAdd 3329 (polyDot 3329 kemMul (kemRow p rho false i) s) (e.getD i [])
  let ek := t.flatMap (packCoeffs 12) ++ rho
  (ek, s.flatMap (packCoeffs 12) ++ ek ++ sha3_256 ek ++ z)

/-- K-PKE.Encrypt of FIPS 203. -/
def kemEncrypt (p : KemParams) (ek m r : Bytes) : Bytes :=
  let t := (chunks 384 (ek.take (384 * p.k))).map (unpackCoeffs 12)
  let rho := ek.drop (384 * p.k)
  let y := (List.range p.k).map fun i => ntt kemRing (kemNoise p.eta1 r i)
  let u := (List.range p.k).map fun i =>
    polyAdd 3329 (intt kemRing (polyDot 3329 kemMul (kemRow p rho true i) y)) (kemNoise 2 r (p.k + i))
  let mu := (unpackCoeffs 1 m).map (kemDecompress 1)
  let v := polyAdd 3329 (polyAdd 3329 (intt kemRing (polyDot 3329 kemMul t y)) (kemNoise 2 r (2 * p.k))) mu
  u.flatMap (fun f => packCoeffs p.du (f.map (kemCompress p.du))) ++
    packCoeffs p.dv (v.map (kemCompress p.dv))

/-- K-PKE.Decrypt of FIPS 203. -/
def kemDecrypt (p : KemParams) (dk c : Bytes) : Bytes :=
  let u := (chunks (32 * p.du) (c.take (32 * p.du * p.k))).map fun b =>
    ntt kemRing ((unpackCoeffs p.du b).map (kemDecompress p.du))
  let v := (unpackCoeffs p.dv (c.drop (32 * p.du * p.k))).map (kemDecompress p.dv)
  let s := (chunks 384 (dk.take (384 * p.k))).map (unpackCoeffs 12)
  let w := polySub 3329 v (intt kemRing (polyDot 3329 kemMul s u))
  packCoeffs 1 (w.map (kemCompress 1))

/-- The encapsulation-key check of FIPS 203 (R162): every coefficient is below q. -/
def kemKeyValid (p : KemParams) (ek : Bytes) : Bool :=
  ek.length == 384 * p.k + 32 &&
    (chunks 384 (ek.take (384 * p.k))).all fun b => (unpackCoeffs 12 b).all (· < 3329)

/-- Encapsulation with the random value `m`: the ciphertext and the shared secret. -/
def kemEncaps (p : KemParams) (ek m : Bytes) : Bytes × Bytes :=
  let g := sha3_512 (m ++ sha3_256 ek)
  (kemEncrypt p ek m (g.drop 32), g.take 32)

/-- Decapsulation with implicit rejection (R162). -/
def kemDecaps (p : KemParams) (dk c : Bytes) : Bytes :=
  let ek := slice (384 * p.k) (384 * p.k + 32) dk
  let h := slice (768 * p.k + 32) 32 dk
  let z := slice (768 * p.k + 64) 32 dk
  let m := kemDecrypt p dk c
  let g := sha3_512 (m ++ h)
  if kemEncrypt p ek m (g.drop 32) = c then g.take 32 else shake256 32 (z ++ c)

/-! ### ML-DSA -/

/-- A parameter set of FIPS 204. -/
structure DsaParams where
  k : Nat
  l : Nat
  eta : Nat
  tau : Nat
  gamma1Bits : Nat
  gamma2 : Nat
  omega : Nat
  ctilde : Nat
  deriving DecidableEq, Repr

/-- The parameter set that SET selects (R159). -/
def dsaParams : Nat → DsaParams
  | 0 => ⟨4, 4, 2, 39, 17, 95232, 80, 32⟩
  | 1 => ⟨6, 5, 4, 49, 19, 261888, 55, 48⟩
  | _ => ⟨8, 7, 2, 60, 19, 261888, 75, 64⟩

/-- The modulus of ML-DSA. -/
def dsaQ : Nat := 8380417

/-- Coefficients below q taken from 23-bit candidates. -/
def dsaCandidates : Bytes → List Nat
  | a :: b :: c :: bs =>
    let d := a.toNat + 256 * b.toNat + 65536 * (c.toNat % 128)
    (if d < dsaQ then [d] else []) ++ dsaCandidates bs
  | _ => []

/-- RejNTTPoly; six blocks of SHAKE128 hold more than 256 accepted candidates. -/
def dsaRejNtt (seed : Bytes) : List Nat := (dsaCandidates (shake128 1008 seed)).take 256

/-- A half byte as a small coefficient, when it is accepted. -/
def dsaHalf (eta n : Nat) : List Nat :=
  if eta = 2 then if n < 15 then [(dsaQ + 2 - n % 5) % dsaQ] else []
  else if n < 9 then [(dsaQ + 4 - n) % dsaQ] else []

/-- RejBoundedPoly; eight blocks of SHAKE256 hold more than 256 accepted half bytes. -/
def dsaRejBounded (eta : Nat) (seed : Bytes) : List Nat :=
  ((shake256 1088 seed).flatMap fun b =>
    dsaHalf eta (b.toNat % 16) ++ dsaHalf eta (b.toNat / 16)).take 256

/-- Row `r` of the matrix A. -/
def dsaRow (p : DsaParams) (rho : Bytes) (r : Nat) : List (List Nat) :=
  (List.range p.l).map fun s => dsaRejNtt (rho ++ [byte s, byte r])

/-- The matrix A applied to a vector of transformed polynomials, transformed back. -/
def dsaApply (p : DsaParams) (rho : Bytes) (v : List (List Nat)) : List (List Nat) :=
  (List.range p.k).map fun r => intt dsaRing (polyDot dsaQ dsaMul (dsaRow p rho r) v)

/-- Power2Round with d = 13: the high part and the centred low part modulo q. -/
def power2Round (r : Nat) : Nat × Nat :=
  let r1 := (r + 4095) / 8192
  (r1, (r + dsaQ - r1 * 8192) % dsaQ)

/-- A coefficient packed as `b` minus its centred value. -/
def centred (b x : Nat) : Nat := (b + dsaQ - x) % dsaQ

/-- The least number of bits that hold `n`. -/
def bitLen (n : Nat) : Nat := if n = 0 then 0 else Nat.log2 n + 1

/-- BitPack of coefficients between -`a` and `b`. -/
def bitPack (a b : Nat) (f : List Nat) : Bytes := packCoeffs (bitLen (a + b)) (f.map (centred b))

/-- BitUnpack of coefficients between -`a` and `b`. -/
def bitUnpack (a b : Nat) (bs : Bytes) : List Nat := (unpackCoeffs (bitLen (a + b)) bs).map (centred b)

/-- The public key and the private key that the seed gives. -/
def dsaKeyGen (p : DsaParams) (xi : Bytes) : Bytes × Bytes :=
  let h := shake256 128 (xi ++ [byte p.k, byte p.l])
  let rho := h.take 32
  let rho' := slice 32 64 h
  let kk := h.drop 96
  let s1 := (List.range p.l).map fun r => dsaRejBounded p.eta (rho' ++ natLE 2 r)
  let s2 := (List.range p.k).map fun r => dsaRejBounded p.eta (rho' ++ natLE 2 (p.l + r))
  let t := List.zipWith (polyAdd dsaQ) (dsaApply p rho (s1.map (ntt dsaRing))) s2
  let pk := rho ++ t.flatMap fun f => packCoeffs 10 (f.map fun x => (power2Round x).1)
  let t0 := t.map fun f => f.map fun x => (power2Round x).2
  (pk, rho ++ kk ++ shake256 64 pk ++ s1.flatMap (bitPack p.eta p.eta) ++
    s2.flatMap (bitPack p.eta p.eta) ++ t0.flatMap (bitPack 4095 4096))

/-- Decompose: the high part and the low part modulo q. -/
def dsaDecompose (p : DsaParams) (r : Nat) : Nat × Nat :=
  let m := 2 * p.gamma2
  let low := r % m
  let r0 := if p.gamma2 < low then (low + dsaQ - m) % dsaQ else low
  let d := (r + dsaQ - r0) % dsaQ
  if d = dsaQ - 1 then (0, (r0 + dsaQ - 1) % dsaQ) else (d / m, r0)

/-- The absolute value of a coefficient's centred form. -/
def dsaAbs (x : Nat) : Nat := if dsaQ / 2 < x then dsaQ - x else x

/-- Whether every coefficient's centred form lies below a bound. -/
def dsaBelow (bound : Nat) (v : List (List Nat)) : Bool := v.all fun f => f.all fun x => dsaAbs x < bound

/-- The bits a coefficient of w1 takes. -/
def dsaW1Bits (p : DsaParams) : Nat := bitLen ((dsaQ - 1) / (2 * p.gamma2) - 1)

/-- SampleInBall: the signs are the first 64 bits of the stream. -/
def sampleBallFuel (signs : Nat) : Nat → Nat → Nat → Bytes → List Nat → List Nat
  | 0, _, _, _, c => c
  | _ + 1, _, 0, _, c => c
  | fuel + 1, i, left + 1, j :: js, c =>
    if i < j.toNat then sampleBallFuel signs fuel i (left + 1) js c
    else
      let c := setAt c i (c.getD j.toNat 0)
      let c := setAt c j.toNat (if signs.testBit 0 then dsaQ - 1 else 1)
      sampleBallFuel (signs / 2) fuel (i + 1) left js c
  | _ + 1, _, _, [], c => c

/-- The challenge polynomial of a commitment hash. -/
def sampleInBall (p : DsaParams) (ct : Bytes) : List Nat :=
  let st := shake256 680 ct
  sampleBallFuel (leNat (st.take 8)) 680 (256 - p.tau) p.tau (st.drop 8) (List.replicate 256 0)

/-- The vector y of ExpandMask. -/
def dsaMask (p : DsaParams) (rho : Bytes) (kappa : Nat) : List (List Nat) :=
  let g1 := 2 ^ p.gamma1Bits
  (List.range p.l).map fun r =>
    bitUnpack (g1 - 1) g1 (shake256 (32 * (p.gamma1Bits + 1)) (rho ++ natLE 2 (kappa + r)))

/-- The commitment hash of a message digest and the high parts of w. -/
def dsaCommit (p : DsaParams) (mu : Bytes) (w1 : List (List Nat)) : Bytes :=
  shake256 p.ctilde (mu ++ w1.flatMap (packCoeffs (dsaW1Bits p)))

/-- The hint positions of one polynomial. -/
def hintOnes (h : List Bool) : List Nat := (List.range 256).filter fun i => h.getD i false

/-- HintBitPack: the positions and the running counts. -/
def hintPack (p : DsaParams) (h : List (List Bool)) : Bytes :=
  let pos := h.map hintOnes
  padTo p.omega (pos.flatten.map byte) ++
    (List.range p.k).map fun i => byte ((pos.take (i + 1)).flatten.length)

/-- Whether positions rise strictly. -/
def risingStrictly : List Nat → Bool
  | a :: b :: r => a < b && risingStrictly (b :: r)
  | _ => true

/-- HintBitUnpack from the position bytes and the running counts. -/
def hintUnpackFrom (omega : Nat) (ys : List Nat) : Nat → List Nat → Option (List (List Bool))
  | idx, [] => if (ys.drop idx).all (· == 0) then some [] else none
  | idx, e :: es =>
    let part := (ys.take e).drop idx
    if e < idx ∨ omega < e ∨ risingStrictly part = false then none
    else (hintUnpackFrom omega ys e es).map fun r =>
      ((List.range 256).map fun i => part.contains i) :: r

/-- The hints that a signature's tail encodes, when it is well formed. -/
def hintUnpack (p : DsaParams) (bs : Bytes) : Option (List (List Bool)) :=
  hintUnpackFrom p.omega ((bs.take p.omega).map (·.toNat)) 0 ((bs.drop p.omega).map (·.toNat))

/-- A private key taken apart. -/
structure DsaKey where
  rho : Bytes
  kk : Bytes
  tr : Bytes
  s1 : List (List Nat)
  s2 : List (List Nat)
  t0 : List (List Nat)
  deriving DecidableEq, Repr

/-- skDecode of FIPS 204, the vectors transformed. -/
def dsaKeyDecode (p : DsaParams) (sk : Bytes) : DsaKey :=
  let n := 32 * bitLen (2 * p.eta)
  let s1 := slice 128 (n * p.l) sk
  let s2 := slice (128 + n * p.l) (n * p.k) sk
  let t0 := sk.drop (128 + n * (p.l + p.k))
  ⟨sk.take 32, slice 32 32 sk, slice 64 64 sk,
    (chunks n s1).map fun b => ntt dsaRing (bitUnpack p.eta p.eta b),
    (chunks n s2).map fun b => ntt dsaRing (bitUnpack p.eta p.eta b),
    (chunks 416 t0).map fun b => ntt dsaRing (bitUnpack 4095 4096 b)⟩

/-- One iteration of the rejection loop; none when the candidate is rejected. -/
def dsaTry (p : DsaParams) (key : DsaKey) (mu rho'' : Bytes) (kappa : Nat) : Option Bytes :=
  let g1 := 2 ^ p.gamma1Bits
  let beta := p.tau * p.eta
  let y := dsaMask p rho'' kappa
  let w := dsaApply p key.rho (y.map (ntt dsaRing))
  let ct := dsaCommit p mu (w.map fun f => f.map fun x => (dsaDecompose p x).1)
  let c := ntt dsaRing (sampleInBall p ct)
  let times := fun (v : List (List Nat)) => v.map fun f => intt dsaRing (dsaMul c f)
  let z := List.zipWith (polyAdd dsaQ) y (times key.s1)
  let wcs := List.zipWith (polySub dsaQ) w (times key.s2)
  let r0 := wcs.map fun f => f.map fun x => (dsaDecompose p x).2
  let ct0 := times key.t0
  let h := List.zipWith (fun f g => List.zipWith (fun x t =>
    (dsaDecompose p ((x + t) % dsaQ)).1 != (dsaDecompose p x).1) f g) wcs ct0
  if dsaBelow (g1 - beta) z && dsaBelow (p.gamma2 - beta) r0 && dsaBelow p.gamma2 ct0 &&
      decide ((h.map hintOnes).flatten.length ≤ p.omega) then
    some (ct ++ z.flatMap (bitPack (g1 - 1) g1) ++ hintPack p h)
  else none

/-- The rejection loop; none when `fuel` candidates were all rejected. -/
def dsaSignFuel (p : DsaParams) (key : DsaKey) (mu rho'' : Bytes) : Nat → Nat → Option Bytes
  | 0, _ => none
  | fuel + 1, kappa =>
    match dsaTry p key mu rho'' kappa with
    | some sig => some sig
    | none => dsaSignFuel p key mu rho'' fuel (kappa + p.l)

/-- The message representative of pure ML-DSA with a context. -/
def dsaMu (tr ctx msg : Bytes) : Bytes :=
  shake256 64 (tr ++ [byte 0, byte ctx.length] ++ ctx ++ msg)

/-- Hedged pure ML-DSA (R161); `rnd` is the 32 B of randomness. -/
def dsaSign (p : DsaParams) (sk ctx msg rnd : Bytes) : Option Bytes :=
  let key := dsaKeyDecode p sk
  let mu := dsaMu key.tr ctx msg
  dsaSignFuel p key mu (shake256 64 (key.kk ++ rnd ++ mu)) 65536 0

/-- UseHint of FIPS 204. -/
def useHint (p : DsaParams) (h : Bool) (r : Nat) : Nat :=
  let m := (dsaQ - 1) / (2 * p.gamma2)
  let d := dsaDecompose p r
  if h = false then d.1
  else if d.2 ≠ 0 ∧ d.2 ≤ dsaQ / 2 then (d.1 + 1) % m else (d.1 + m - 1) % m

/-- Whether a signature of pure ML-DSA verifies. -/
def dsaVerify (p : DsaParams) (pk ctx msg sig : Bytes) : Bool :=
  let g1 := 2 ^ p.gamma1Bits
  let zLen := 32 * (p.gamma1Bits + 1)
  let ct := sig.take p.ctilde
  let z := (chunks zLen (slice p.ctilde (zLen * p.l) sig)).map (bitUnpack (g1 - 1) g1)
  match hintUnpack p (sig.drop (p.ctilde + zLen * p.l)) with
  | none => false
  | some h =>
    let t1 := (chunks 320 (pk.drop 32)).map fun b =>
      ntt dsaRing ((unpackCoeffs 10 b).map fun x => x * 8192 % dsaQ)
    let mu := dsaMu (shake256 64 pk) ctx msg
    let c := ntt dsaRing (sampleInBall p ct)
    let zHat := z.map (ntt dsaRing)
    let w := (List.range p.k).map fun r =>
      intt dsaRing (polySub dsaQ (polyDot dsaQ dsaMul (dsaRow p (pk.take 32) r) zHat)
        (dsaMul c (t1.getD r [])))
    let w1 := List.zipWith (fun f hs => List.zipWith (fun x b => useHint p b x) f hs) w h
    dsaBelow (g1 - p.tau * p.eta) z && dsaCommit p mu w1 == ct

end Sys2Proof.Machine
end

