-- ==== Sys2Proof/Machine/PublicKeyOps.lean ====
section
/-!
DEFINITION. What the PKE and lattice opcodes compute (R143 to R162), as functions of their operands,
keys and draw. The parts of a draw stand in the order R333 lists them (assumption 18).
-/
namespace Sys2Proof.Machine

/-! ### RSA and the raw operations -/

/-- The CRT operation on a plain key of modulus length `k` bytes (R146, R152). -/
def rsaCrt (k : Nat) (key rep : Bytes) : OpResult :=
  let h := k / 2
  let part := fun i => beNat (slice (i * h) h key)
  let p := part 0
  let q := part 1
  let x := beNat rep
  if p * q ≤ x then .failed 0x0130
  else
    let m1 := powMod x (part 2) p
    let m2 := powMod x (part 3) q
    .done (natBE k (m2 + part 4 * subMod m1 (m2 % p) p % p * q))

/-- The non-CRT operation on a plain key of modulus length `k` bytes (R146, R152). -/
def rsaPlain (k : Nat) (key rep : Bytes) : OpResult :=
  let n := beNat (key.take k)
  let x := beNat rep
  if n ≤ x then .failed 0x0130 else .done (natBE k (powMod x (beNat (slice k k key)) n))

/-- Whether a modulus of `len` words is odd with its top word not zero (R152, R155). -/
def modulusFits (words m : Nat) : Bool := m % 2 == 1 && decide (2 ^ (64 * (words - 1)) ≤ m)

/-- Opcode 0x703 (R152). -/
def rsaPublic (words : Nat) (rep modulus expo : Bytes) : OpResult :=
  let n := beNat modulus
  let e := beNat expo
  if modulusFits words n = false ∨ e % 2 = 0 ∨ e < 3 ∨ n ≤ beNat rep then .failed 0x0130
  else .done (natBE (8 * words) (powMod (beNat rep) e n))

/-- Opcode 0x7F0 (R155). -/
def modMul (words : Nat) (a b modulus : Bytes) : OpResult :=
  let m := beNat modulus
  if modulusFits words m = false ∨ m ≤ beNat a ∨ m ≤ beNat b then .failed 0x0130
  else .done (natBE (8 * words) (beNat a * beNat b % m))

/-- Opcode 0x7F1 (R155). -/
def modExp (words : Nat) (a e modulus : Bytes) : OpResult :=
  let m := beNat modulus
  if modulusFits words m = false ∨ m ≤ beNat a then .failed 0x0130
  else .done (natBE (8 * words) (powMod (beNat a) (beNat e) m))

/-- Opcode 0x7F2 (R155). -/
def modInverse (words : Nat) (a modulus : Bytes) : OpResult :=
  let m := beNat modulus
  if modulusFits words m = false ∨ m ≤ beNat a then .failed 0x0130
  else
    match modInv (beNat a) m with
    | some x => .done (natBE (8 * words) x)
    | none => .failed 0x0130

/-! ### The NIST curves -/

/-- The curve that CURVE selects (R150). -/
def curveOf : Nat → Curve
  | 0 => p256
  | 1 => p384
  | _ => p521

/-- The ALG of a curve's private key (R286). -/
def curveAlg : Nat → Nat
  | 0 => 0x06
  | 1 => 0x0A
  | _ => 0x0B

/-- Whether a private scalar lies from 1 to n - 1 (R153). -/
def scalarFits (c : Curve) (d : Nat) : Bool := decide (1 ≤ d ∧ d < c.n)

/-- Opcode 0x710 (R153). -/
def ecdsaSignOp (c : Curve) (key dig draw : Bytes) : OpResult :=
  let d := beNat key
  if scalarFits c d = false then .failed 0x0130
  else
    match ecdsaSign c d (extraBits c (draw.take (orderLen c + 8))) dig with
    | none => .failed 0x0132
    | some (r, s) => .done (natBE (orderLen c) r ++ natBE (orderLen c) s)

/-- Opcode 0x711 (R153). -/
def ecdsaVerifyOp (c : Curve) (dig sig pub : Bytes) : OpResult :=
  match decodePoint c pub with
  | none => .failed 0x0131
  | some q =>
    .verified (ecdsaVerify c q dig (beNat (sig.take (orderLen c))) (beNat (sig.drop (orderLen c)))) 0x0330 []

/-- Opcode 0x712 (R153). -/
def ecdhOp (c : Curve) (key pub : Bytes) : OpResult :=
  if scalarFits c (beNat key) = false then .failed 0x0130
  else
    match decodePoint c pub with
    | none => .failed 0x0131
    | some q =>
      match ecdhX c (beNat key) q with
      | none => .failed 0x0131
      | some x => .done x

/-- The private key and public key of 0x713 (R157). -/
def ecKeyPair (c : Curve) (draw : Bytes) : Bytes × Bytes :=
  let d := extraBits c (draw.take (orderLen c + 8))
  (natBE (orderLen c) d, encodePoint c (ecMul c d (basePoint c)))

/-! ### Curve25519 -/

/-- Opcode 0x720 (R154). -/
def ed25519SignOp (seed msg : Bytes) : OpResult := .done (edSign seed msg)

/-- Opcode 0x721 (R154). -/
def ed25519VerifyOp (msg sig pub : Bytes) : OpResult :=
  match edDecode pub with
  | none => .failed 0x0131
  | some a => .verified (edVerify a pub msg sig) 0x0330 []

/-- Opcode 0x722 (R154). -/
def x25519Op (scalar peer : Bytes) : OpResult :=
  let s := x25519 scalar peer
  if s.all (· == 0) then .failed 0x0131 else .done s

/-- The private key and public key of 0x723; PURPOSE 1 selects X25519 (R150, R157). -/
def curve25519KeyPair (agreement : Bool) (draw : Bytes) : Bytes × Bytes :=
  let k := draw.take 32
  (k, if agreement then x25519 k x25519Base else edPublic k)

/-! ### Lattice operations -/

/-- Opcode 0x802 (R162): the ciphertext, then the shared secret. -/
def kemEncapsOp (set : Nat) (ek draw : Bytes) : OpResult :=
  let p := kemParams set
  if kemKeyValid p ek = false then .failed 0x0131
  else
    let r := kemEncaps p ek (draw.take 32)
    .done (r.1 ++ r.2)

/-- Opcode 0x803 (R162). -/
def kemDecapsOp (set : Nat) (dk ct : Bytes) : OpResult := .done (kemDecaps (kemParams set) dk ct)

/-- The private and public key of 0x801 (R158). -/
def kemKeyPair (set : Nat) (draw : Bytes) : Bytes × Bytes :=
  let r := kemKeyGen (kemParams set) (draw.take 32) (slice 32 32 draw)
  (r.2, r.1)

/-- The private and public key of 0x811 (R158). -/
def dsaKeyPair (set : Nat) (draw : Bytes) : Bytes × Bytes :=
  let r := dsaKeyGen (dsaParams set) (draw.take 32)
  (r.2, r.1)

/-- Opcode 0x812 (R161); none while every candidate of the rejection loop was rejected (R160). -/
def dsaSignOp (set : Nat) (sk ctx msg draw : Bytes) : Option OpResult :=
  (dsaSign (dsaParams set) sk ctx msg (draw.take 32)).map .done

/-- Opcode 0x813 (R158, R161): the context stands ahead of the signature in IN1. -/
def dsaVerifyOp (set ctxLen : Nat) (msg ctxSig pub : Bytes) : OpResult :=
  .verified (dsaVerify (dsaParams set) pub (ctxSig.take ctxLen) msg (ctxSig.drop ctxLen)) 0x0330 []

end Sys2Proof.Machine
end

