-- ==== Sys2Proof/Machine/KeyOps.lean ====
section
/-!
DEFINITION. Keys as the part holds them: the key hierarchy (R304), nonces (R116), replication records (R557),
working slots, the vault and the persistent store, and the checks before every use (R284 to R310).
-/
namespace Sys2Proof.Machine

/-! ### The key hierarchy (R304, R306) -/

/-- The device unique root, or the test root while DEBUG-OPEN is set. -/
def rootKey (s : State) : Bytes :=
  if s.life.debugOpen then sha256 (ascii "SKETO TEST ROOT") else (sha384 Config.pufResponse).take 32

/-- HMAC-SHA-384 over a label, a zero byte and a context. -/
def deriveKey (key : Bytes) (label : String) (context : Bytes) : Bytes :=
  hmac .sha384 key (ascii label ++ [0] ++ context)

/-- The key of a vault slot, V xor M. -/
def VaultSlot.value (v : VaultSlot) : Bytes := xorBytes v.v v.m

/-- A vault slot, when it is VALID. -/
def vaultSlot (s : State) (n : Nat) : Option VaultSlot := SMap.find s.keys.vault n

/-- The key in a vault slot, zeros when it is EMPTY. -/
def vaultKey (s : State) (n : Nat) : Bytes :=
  match vaultSlot s n with
  | some v => v.value
  | none => zeros 32

/-- A key goes into a vault slot under a mask of its own, which no rule names bytes of (R301; assumption 14). -/
def writeVault (n : Nat) (key : Bytes) (attr : Nat) (s : State) : State :=
  let (use, s) := takeFree s
  let m := padTo 32 (Config.drawn use 32)
  let v : VaultSlot := { v := xorBytes (padTo 32 key) m, m := m, attr := attr, valid := true,
                         kcv := keyCheckValue (bits attr 0 5) key }
  { s with keys := { s.keys with vault := SMap.put s.keys.vault n v, emptyMasks := SMap.erase s.keys.emptyMasks n } }

/-- The storage key. -/
def storageKey (s : State) : Bytes := (deriveKey (rootKey s) "STORE" (vaultKey s 0)).take 32

/-- The domain storage key, which Links name as vault slot 1: keyed by the domain root key, over vault slot 1 as its context (DEDUCED,
assumption 22: R304 has the domain root key in the root's place, and the table gives the context). -/
def domainStorageKey (s : State) : Bytes := (deriveKey (vaultKey s 1) "DOMAIN" (vaultKey s 1)).take 32

/-- The attestation key's scalar. -/
def attestScalar (s : State) : Nat := beNat (Config.derivedBits (rootKey s) 0) % (p384.n - 1) + 1

/-- The transport key's scalar. -/
def transportScalar (s : State) : Nat := beNat (Config.derivedBits (rootKey s) 1) % (p384.n - 1) + 1

/-- The system reserve covers a draw; until it does, the draw waits (R331, R335, R339). -/
def reserveCovers (s : State) (len : Nat) : Bool := s.rng.filled && decide (len ≤ s.rng.reserve.length)

/-- A value drawn for the part's own use leaves the system reserve (R331). -/
def drawSystem (len : Nat) (s : State) : Bytes × State :=
  let out := s.rng.reserve.take len
  (out, { s with rng := { s.rng with reserve := s.rng.reserve.drop len, drawn := s.rng.drawn + BitVec.ofNat 64 out.length } })

/-- A drawn value that may not be zero. DEDUCED (assumption 14): after a zero the part draws on, which no rule describes, so the value is
then a free non-zero one. -/
def drawNonzero (len : Nat) (s : State) : Nat × State :=
  let (b, s) := drawSystem len s
  if leNat b ≠ 0 then (leNat b, s)
  else
    let (n, s) := takeFree s
    (1 + (Config.freeBits n).toNat % (2 ^ (8 * len) - 1), s)

/-- The delay bytes of double decisions that the compute die takes (R331, R439); what the reserve cannot give yet is waited for, which
only time shows. -/
def drawDelays (n : Nat) (s : State) : State := (drawSystem n s).2

/-- An ECDSA P-384 signature by the attestation key over a SHA-384 digest. -/
def attestSign (msg : Bytes) (s : State) : Bytes × State :=
  let (k, s) := drawSystem 128 s
  match ecdsaSignOp p384 (natBE 48 (attestScalar s)) (sha384 msg) k with
  | .done sig => (sig, s)
  | _ => (zeros 96, s)

/-! ### Nonces (R116 to R118) -/

/-- Some nonce is left in this boot. -/
def noncesLeft (s : State) : Bool :=
  decide (s.mram.bootCounter.toNat < 524288) && decide (s.engines.invocation.toNat < 2 ^ 64 - 1)

/-- The fixed field. -/
def fixedField (s : State) : Nat :=
  s.sec.member % 4096 * 2 ^ 20 + s.twin.side % 2 * 2 ^ 19 + s.mram.bootCounter.toNat % 2 ^ 19

/-- The next nonce. -/
def takeNonce (s : State) : Bytes × State :=
  (natBE 4 (fixedField s) ++ natBE 8 s.engines.invocation.toNat,
   { s with engines := { s.engines with invocation := s.engines.invocation + 1 } })

/-! ### Working slots (R284 to R291) -/

/-- STATE as the slot holds it. -/
def SlotState.code : SlotState → Nat
  | .empty => 0 | .valid => 1 | .bad => 2

/-- Bytes 0 to 59 of a slot. -/
def Slot.bytes (sl : Slot) : Bytes :=
  padTo 32 sl.key ++ natLE 8 sl.attr ++ natLE 1 sl.state.code ++ padTo 3 sl.kcv ++ zeros 16

/-- The check of a slot at its number. -/
def slotCheck (n : Nat) (sl : Slot) : Nat := crc32cFrom n sl.bytes

/-- A zeroised slot. -/
def Slot.zeroised (n : Nat) : Slot :=
  { key := [], attr := 0, state := .empty, kcv := zeros 3, check := crc32cFrom n (zeros 60) }

/-- The slot of a number; one not listed is zeroised. -/
def getSlot (s : State) (n : Nat) : Slot := (SMap.find s.keys.slots n).getD (Slot.zeroised n)

/-- Puts a slot's content. -/
def putSlot (n : Nat) (sl : Slot) (s : State) : State :=
  { s with keys := { s.keys with slots := SMap.put s.keys.slots n sl } }

/-- Writes a slot: CHECK and KCV are computed, STATE becomes VALID (R289). -/
def writeSlot (n : Nat) (key : Bytes) (attr : Nat) (s : State) : State :=
  let sl : Slot := { key := key, attr := attr, state := .valid, kcv := keyCheckValue (bits attr 0 5) key, check := 0 }
  putSlot n { sl with check := slotCheck n sl } s

/-- Rewrites a slot's attribute word: STATE becomes VALID, CHECK is computed, and KCV too where ALG changes the key (R289). -/
def setSlotAttr (n attr : Nat) (s : State) : State :=
  let old := getSlot s n
  let alg := bits attr 0 5
  let same := decide (bits old.attr 0 5 = alg)
  let key := if same then old.key else (padTo 32 old.key).take (algKeyLen alg)
  let sl := { old with attr := attr, state := .valid, key := key, kcv := if same then old.kcv else keyCheckValue alg key }
  putSlot n { sl with check := slotCheck n sl } s

/-- A slot becomes BAD, with the Contained fault of unit 0x03 that names it (R291, R319). -/
def markBad (n cause : Nat) (s : State) : State :=
  let s := putSlot n { getSlot s n with state := .bad } s
  containFault 0x03 cause 0 (natLE 4 n) [] id s

/-- ATTR with other MARK and EPOCH. -/
def withMark (attr mark epoch : Nat) : Nat :=
  wordOfAttr { attrOfWord attr with mark := mark, epoch := epoch % 256 }

/-- The function that owns a slot. -/
def slotOwner (sl : Slot) : Nat := ownerOf sl.attr

/-- A slot lies in the working-slot range of a function: a VF's assigned range, or for PF0 one that no instance
holds (R315). -/
def inSlotRange (s : State) (fn n : Nat) : Bool :=
  let held := fun (i : Inst) => decide (i.state ≠ .free) && decide (i.slotBase ≤ n) &&
    decide (n < i.slotBase + i.slotCount)
  if fn = 0 then decide (n < slotCount s) && !s.tenants.insts.any fun i => held i.2
  else decide (n < slotCount s) && held (SMap.get Inst.empty s.tenants.insts fn)

/-- The lock of a slot held by another than `tag` (R228, R315). -/
def lockedByOther (s : State) (tag n : Nat) : Bool :=
  match SMap.find s.flow.locks n with
  | some l => decide (l.holder ≠ tag)
  | none => false

/-! ### The persistent key store (R296, R307, R308) -/

/-- The entry that holds a slot, with its floor. -/
def entryOf (s : State) (n : Nat) : Option (Nat × Nat) :=
  (s.keys.entries.find? fun e => decide (e.2.1 = n)).map fun e => (e.1, e.2.2)

/-- The lowest free entry. -/
def freeStoreEntry (s : State) : Option Nat :=
  if s.keys.entries.length + s.keys.reserved.length ≥ 65536 then none
  else (List.range (s.keys.entries.length + s.keys.reserved.length + 1)).find? fun e =>
    (SMap.find s.keys.entries e).isNone && !s.keys.reserved.contains e

/-- The floor of a counter (R296). -/
def floorFor (s : State) (attr : Nat) : Nat :=
  let a := attrOfWord attr
  if a.ctrEn && a.persist then a.counter - s.keys.granule else 0

/-- The sealed bytes of an entry (R307). -/
def sealEntry (s : State) (n attr floor : Nat) (key nonce : Bytes) : Bytes :=
  let head := natLE 4 n ++ natLE 8 attr ++ natLE 3 floor ++ [0] ++ nonce
  let r := gcmSeal (storageKey s) nonce head (padTo 32 key) 16
  padTo 96 (head ++ r.1 ++ r.2)

/-- Queues the update of an entry's page. -/
def storeEntry (prio e : Nat) (bytes : Bytes) (s : State) : State :=
  queuePage prio .keys (e / 4) (overlay (96 * (e % 4)) bytes (latestPage s .keys (e / 4))) s

/-- The attribute word of an entry as it stands in the store (R307). -/
def entryAttr (s : State) (e : Nat) : Nat := leNat (slice (96 * (e % 4) + 4) 8 (latestPage s .keys (e / 4)))

/-- The attribute word that an entry stores: a leaving mark never enters the store (R307). -/
def storedAttr (attr : Nat) : Nat :=
  let a := attrOfWord attr
  if a.mark = 2 then wordOfAttr { a with mark := 0 } else attr

/-- Seals the entry of slot `n` with an attribute word and a floor, and queues it; `none` when no nonce is left. -/
def writeEntry (prio e n attr floor : Nat) (key : Bytes) (s : State) : Option State :=
  if noncesLeft s then
    let (nonce, s) := takeNonce s
    let s := storeEntry prio e (sealEntry s n (storedAttr attr) floor key nonce) s
    some { s with keys := { s.keys with entries := SMap.put s.keys.entries e (n, floor) } }
  else none

/-- Seals the entry of slot `n` anew; the floor in force stays until a floor being written is durable (R296). -/
def resealEntry (prio e n attr floor : Nat) (key : Bytes) (s : State) : Option State :=
  let pending := (s.keys.floorWrites.find? fun w => decide (w.slot = n)).map (·.floor)
  (writeEntry prio e n attr (pending.getD floor) key s).map fun t =>
    { t with keys := { t.keys with entries := SMap.put t.keys.entries e (n, floor) } }

/-- Deletes an entry, with the floor being written for its slot, and queues its page. -/
def deleteEntry (prio e : Nat) (s : State) : State :=
  let n := (SMap.find s.keys.entries e).map (·.1)
  let s := storeEntry prio e (zeros 96) s
  { s with keys := { s.keys with entries := SMap.erase s.keys.entries e,
                                 floorWrites := s.keys.floorWrites.filter fun f => decide (some f.slot ≠ n) } }

/-- Zeroises a slot, deletes its entry and takes it off the staging list; answers the pages to wait for. -/
def zeroiseSlot (n : Nat) (s : State) : List Nat × State :=
  let entry := entryOf s n
  let s := { s with keys := { s.keys with slots := SMap.erase s.keys.slots n,
                                          staging := s.keys.staging.filter fun m => decide (m ≠ n) } }
  match entry with
  | some (e, _) => ([e / 4], deleteEntry 3 e s)
  | none => ([], s)

/-! ### The checks before every use (R292 to R296) -/

/-- What the key-slot port answers: a key, a status, or a refusal that leaves the Link READY (R296). -/
inductive KeyRead
  | key (k : KeyVal)
  | failed (status : Nat)
  | later
  deriving DecidableEq, Repr

/-- Checks 1 to 5 of R292, up to check `last`. -/
def slotRefused (s : State) (fn epoch n last : Nat) : Option Nat :=
  let sl := getSlot s n
  let a := attrOfWord sl.attr
  if n ≥ slotCount s then some 0x0202
  else if sl.state = .empty then some 0x0203
  else if sl.state = .bad ∨ sl.check ≠ slotCheck n sl then some 0x0204
  else if !ownerIs fn sl.attr then some 0x0205
  else if last ≥ 5 ∧ a.mark ≠ 0 ∧ a.epoch ≠ epoch % 256 then some 0x0208
  else none

/-- A read that meets a failing CHECK leaves the slot BAD (R291). -/
def noteCheck (n : Nat) (s : State) : State :=
  let sl := getSlot s n
  if n < slotCount s ∧ sl.state = .valid ∧ sl.check ≠ slotCheck n sl then markBad n 0x01 s else s

/-- The key a slot holds. -/
def slotKey (s : State) (n : Nat) : KeyVal := { attr := (getSlot s n).attr, bytes := (getSlot s n).key }

/-- One use of a counted slot: its counter falls by one, and the change is replicated; answers the records to wait
for. -/
def countUse (n : Nat) (s : State) : List Nat × State :=
  let a := attrOfWord (getSlot s n).attr
  if a.ctrEn then
    let s := setSlotAttr n (wordOfAttr { a with counter := a.counter - 1 }) s
    replicate 0x03 (natLE 4 n ++ natLE 4 (a.counter - 1)) s
  else ([], s)

/-- What reading a working slot for use answers, all nine checks applied (R292, R296 step 3). -/
def readWorking (s : State) (fn epoch n : Nat) (role : KeyRole) : KeyRead :=
  match slotRefused s fn epoch n 5 with
  | some st => .failed st
  | none =>
    let sl := getSlot s n
    let a := attrOfWord sl.attr
    match roleRefused role sl.attr with
    | some st => .failed st
    | none =>
      if a.ctrEn && a.counter == 0 then .failed 0x0209
      else if a.ctrEn && a.persist then
        match entryOf s n with
        | some (_, f) => if 0 < f ∧ a.counter ≤ f then .later else .key (slotKey s n)
        | none => .key (slotKey s n)
      else .key (slotKey s n)

/-- What reading a vault slot for use answers (R293, and the exception for slot 1 of R304); `first` tells KEY0. -/
def readVault (s : State) (fn n : Nat) (role : KeyRole) (first accepts : Bool) : KeyRead :=
  match vaultSlot s n with
  | none => .failed 0x0203
  | some v =>
    if !ownerIs fn v.attr then .failed 0x0205
    else
      match roleRefused role v.attr with
      | some st => .failed st
      | none =>
        let a := attrOfWord v.attr
        if n < 8 ∧ ¬(n = 1 ∧ a.usage = usageK0 ∧ a.mode = modeB) then .failed 0x020B
        else if !(first && accepts) then .failed 0x020B
        else .key { attr := v.attr,
                    bytes := if n = 1 then domainStorageKey s else v.value.take (algKeyLen a.alg) }

/-- What naming a key buffer answers: checks 6 to 8 on its record (R294). -/
def readRecord (r : Option KeyRange) (content : Bytes) (role : KeyRole) : KeyRead :=
  match r with
  | none => .failed 0x0220
  | some k =>
    match roleRefused role k.attr with
    | some st => .failed st
    | none => .key { attr := k.attr, bytes := content }

end Sys2Proof.Machine
end

