-- ==== Sys2Proof/Machine/ChainOps.lean ====
section
/-!
DEFINITION. Chains in flight: operands and outputs in chain memory, the ready and skip rules, how Links end, and how
a Chain fails, expires, is aborted and gives up what it holds (R52 to R66, R177, R194, R226, R617).
-/
namespace Sys2Proof.Machine

/-! ### Chains and their Links -/

/-- A Chain context in use. -/
def getChain (s : State) (c : Nat) : Option Chain := SMap.find s.disp.chains c

/-- Writes a Chain context. -/
def putChain (c : Nat) (ch : Chain) (s : State) : State :=
  { s with disp := { s.disp with chains := SMap.put s.disp.chains c ch } }

/-- Changes a Chain context, if it is in use. -/
def modifyChain (c : Nat) (f : Chain → Chain) (s : State) : State :=
  { s with disp := { s.disp with chains := SMap.adjust s.disp.chains c f } }

/-- A Link that has not run. -/
def LinkRun.pending : LinkRun :=
  { st := .pending, verify := none, nonce := [], draw := [], readySeq := 0, age := 0, agedAt := none,
    deferred := false, unit := none, dueTick := none, entry := none, stopping := false }

/-- Link `n` of a Chain: its words and its record; numbers from 32 on are requests of firmware Links (R358). -/
def Chain.link (ch : Chain) (n : Nat) : Option (LinkWords × LinkRun) :=
  if n < 32 then
    match ch.body.links[n]?, ch.links[n]? with
    | some l, some r => some (l, r)
    | _, _ => none
  else (ch.requested.find? fun q => q.1 == n).map (·.2)

/-- Changes the record of Link `n`. -/
def Chain.setRun (ch : Chain) (n : Nat) (f : LinkRun → LinkRun) : Chain :=
  if n < 32 then
    let links := match ch.links[n]? with
      | some r => ch.links.set n (f r)
      | none => ch.links
    { ch with links := links }
  else
    let requested := ch.requested.map fun q => if q.1 == n then (q.1, q.2.1, f q.2.2) else q
    { ch with requested := requested }

/-- Changes the record of a Link. -/
def modifyRun (c n : Nat) (f : LinkRun → LinkRun) (s : State) : State := modifyChain c (fun ch => ch.setRun n f) s

/-- The state of Link `n`, PENDING where there is none. -/
def Chain.stateOf (ch : Chain) (n : Nat) : LinkState :=
  match ch.link n with
  | some (_, r) => r.st
  | none => .pending

/-- The Link an operation row names, when it is ISSUED and has the row's opcode. -/
def issuedLink (s : State) (c n op : Nat) : Option (Chain × LinkWords × LinkRun) :=
  match getChain s c with
  | none => none
  | some ch =>
    match ch.link n with
    | none => none
    | some (l, r) => if r.st = .issued ∧ l.opcode = op then some (ch, l, r) else none

/-! ### Operands and outputs in chain memory (R49, R53) -/

/-- The address in chain memory of byte `off` of the Chain's buffers. -/
def Chain.addr (ch : Chain) (off : Nat) : Nat := ch.buffers.getD (off / 256) 0 * 256 + off % 256

/-- Bytes of the Chain's buffers. -/
def readChain (s : State) (ch : Chain) (start len : Nat) : Bytes :=
  (List.range len).map fun i => Memory.read s.chainMem (ch.addr (start + i))

/-- Writes bytes of the Chain's buffers. -/
def writeChain (ch : Chain) (start : Nat) (data : Bytes) (s : State) : State :=
  let mem := ((List.range data.length).zip data).foldl (fun m x => Memory.write m (ch.addr (start + x.1)) x.2) s.chainMem
  { s with chainMem := mem }

/-- The bytes an operand reference names; kind none gives none. -/
def operand (s : State) (ch : Chain) (r : Nat) : Bytes :=
  match refKind r with
  | 1 => slice (refOffset r) (refLen r) ch.inlineArea
  | 2 => readChain s ch (refStart r) (refLen r)
  | _ => []

/-- An optional operand. -/
def operandOpt (s : State) (ch : Chain) (r : Nat) : Option Bytes :=
  if refKind r = 0 then none else some (operand s ch r)

/-- Writes a result from the first byte of OUT, and zeros to its end (R53). -/
def writeOut (ch : Chain) (l : LinkWords) (data : Bytes) (s : State) : State :=
  if refKind l.out = 2 then writeChain ch (refStart l.out) (padTo (refLen l.out) data) s else s

/-- Clears the protected ranges of a Chain's Links, its requests among them (R54). -/
def clearProtected (ch : Chain) (s : State) : State :=
  (ch.body.links ++ ch.requested.map fun q => q.2.1).foldl (fun s l =>
    match protectedRange l with
    | some (a, b) => writeChain ch a (zeros (b - a)) s
    | none => s) s

/-! ### Ready and skip rules (R57 to R59) -/

/-- The Links that produce what Link `n` reads from buffers or takes as keys. -/
def producers (b : Body) (l : LinkWords) : List Nat :=
  let reads := [l.in0, l.in1, l.in2].filter fun r => refKind r == 2
  let keys := (if l.key0Src = 3 then [keyRefStart l.key0Ref] else []) ++
    (if l.key1Src = 3 then [keyRefStart l.key1Ref] else [])
  (b.outs.filter fun o =>
    (reads.any fun r => overlaps (refStart r, refStop r) (o.2.1, o.2.2)) ||
      keys.any fun k => decide (o.2.1 ≤ k) && decide (k < o.2.2)).map (·.1)

/-- A buffer input of the Link covers the input region. -/
def readsInput (b : Body) (l : LinkWords) : Bool :=
  [l.in0, l.in1, l.in2].any fun r => refKind r == 2 && decide (refStart r < b.inputBytes)

/-- What the rules make of a PENDING Link. -/
inductive ScanResult
  | wait
  | ready
  | skip
  deriving DecidableEq, Repr

/-- The guard of a Link (R57, R59). -/
def guardResult (ch : Chain) (l : LinkWords) : ScanResult :=
  if l.guardCond = 0 then .ready
  else
    match ch.links[l.guardSrc]? with
    | none => .wait
    | some g =>
      match g.st with
      | .skipped => .skip
      | .done => if g.verify = some (l.guardCond == 1) then .ready else .skip
      | _ => .wait

/-- The ready rule and the skip rule. -/
def scanLink (ch : Chain) (l : LinkWords) : ScanResult :=
  let ps := (producers ch.body l).map ch.stateOf
  match guardResult ch l with
  | .skip => .skip
  | g =>
    if ps.any fun p => p == .skipped then .skip
    else if g == .ready && ps.all (fun p => p == .done) && (ch.inputLanded || !readsInput ch.body l) then .ready
    else .wait

/-- The PENDING Links of a Chain, lowest number first, are made READY or SKIPPED (R58). -/
def rescan (c : Nat) (s : State) : State :=
  match getChain s c with
  | none => s
  | some ch =>
    if ch.closed then s else
    let visit := fun (acc : Chain × Nat) (n : Nat) =>
      match acc.1.body.links[n]?, acc.1.links[n]? with
      | some l, some r =>
        if r.st ≠ .pending then acc
        else
          match scanLink acc.1 l with
          | .wait => acc
          | .skip => (acc.1.setRun n fun r => { r with st := .skipped }, acc.2)
          | .ready => (acc.1.setRun n fun r => { r with st := .ready, readySeq := acc.2 }, acc.2 + 1)
      | _, _ => acc
    let (ch, seq) := (List.range (min 32 ch.links.length)).foldl visit (ch, s.disp.readySeq)
    putChain c ch { s with disp := { s.disp with readySeq := seq } }

/-- A Chain finishes, after those that finished before it (R249). -/
def finishChain (c : Nat) (s : State) : State :=
  let seq := s.disp.finishSeq
  let s := modifyChain c (fun ch => if ch.finished then ch else { ch with finished := true, finSeq := seq }) s
  { s with disp := { s.disp with finishSeq := seq + 1 } }

/-- A Chain all of whose Links are final, and whose input has landed unless the Chain has closed, waits for write-back and completion
(R53, R55). -/
def noteFinal (c : Nat) (s : State) : State :=
  match getChain s c with
  | none => s
  | some ch =>
    if (ch.all.all fun x => x.2.2.st.final) && (ch.inputLanded || ch.closed) then finishChain c s else s

/-! ### The hold account and the bucket (R187, R194) -/

/-- U of R187: the units of 1 µs at the limit. -/
def unitsPerTick (s : State) : Nat := s.energy.limit * 10

/-- The capacity of the bucket. -/
def bucketCapacity (s : State) : Nat := unitsPerTick s * 2000

/-- The hold account closes without issue: its energy goes to the bucket, up to its capacity. -/
def closeHold (s : State) : State :=
  match s.disp.hold with
  | none => s
  | some h =>
    { s with disp := { s.disp with hold := none },
             energy := { s.energy with level := min (bucketCapacity s) (s.energy.level + h.level) } }

/-- Closes the hold account when its Link will never issue. -/
def dropHold (c : Nat) (s : State) : State :=
  match s.disp.hold with
  | none => s
  | some h =>
    if h.chain ≠ c then s
    else
      match getChain s c with
      | some ch => if ch.stateOf h.link = .ready then s else closeHold s
      | none => closeHold s

/-! ### Engines as Links leave them (R123, R147, R164, R166, R169) -/

/-- The region of a pair that a flag names: false A, true B. -/
def Pair.region (p : Pair) (b : Bool) : Region := if b then p.b else p.a

/-- Writes a region. -/
def Pair.setRegion (p : Pair) (b : Bool) (r : Region) : Pair := if b then { p with b := r } else { p with a := r }

/-- The pair table of a kind: true the lattice pairs. -/
def pairs (s : State) (lattice : Bool) : SMap Pair := if lattice then s.engines.lattice else s.engines.pke

/-- A pair. -/
def getPair (s : State) (lattice : Bool) (p : Nat) : Pair := SMap.get Pair.empty (pairs s lattice) p

/-- Writes a pair. -/
def putPair (lattice : Bool) (p : Nat) (v : Pair) (s : State) : State :=
  if lattice then { s with engines := { s.engines with lattice := SMap.set Pair.empty s.engines.lattice p v } }
  else { s with engines := { s.engines with pke := SMap.set Pair.empty s.engines.pke p v } }

/-- A region whose job has ended: what it retains stays. -/
def Region.idle (r : Region) : Region :=
  { r with job := none, key := none, operands := [], loadStatus := 0, plain := [], yields := 0, points := 0, ran := 0,
           eligible := false }

/-- A region that has been wiped: nothing stands in it, and the owner of the last Link that ran there is still known (R169). -/
def Region.wiped (r : Region) : Region := { Region.empty with owner := r.owner }

/-- A pair both of whose units have been cleared (R170). -/
def Pair.cleared (p : Pair) : Pair := { Pair.empty with a := p.a.wiped, b := p.b.wiped }

/-- A pair whose region `b` has ended its job; a suspended job resumes (R166). -/
def Pair.leave (p : Pair) (b wipe : Bool) : Pair :=
  let r := p.region b
  let p := p.setRegion b (if wipe then r.wiped else r.idle)
  if p.running = some b then
    match p.suspended with
    | some q => { p.setRegion q { p.region q with eligible := false } with running := some q, suspended := none }
    | none => { p with running := none }
  else { p with suspended := none }

/-- The region of a pair that holds a job. -/
def Pair.holds (p : Pair) (job : Nat × Nat) : Option Bool :=
  if p.a.job = some job then some false else if p.b.job = some job then some true else none

/-- Every engine gives up a Link: its lane context stays with its Chain's key, its hash unit and its region are free. A
region is wiped when the Link ends without a result (R168, R170). DESIGN CHOICE (assumption 40): the mismatch of R170's table is the disagreement of
the units, 0x0710; a verify mismatch ends with its status and clears nothing. -/
def leaveEngine (c n : Nat) (wipe : Bool) (s : State) : State :=
  let free := fun (_ : Nat) (x : LaneContext) => if x.chain = c ∧ x.link = some n then { x with link := none } else x
  let lanes := SMap.mapValues s.engines.lanes free
  let hashes := SMap.keep s.engines.hashes fun _ u => decide (u.job ≠ some (c, n))
  let leave := fun (_ : Nat) (p : Pair) =>
    match p.holds (c, n) with
    | some b => p.leave b wipe
    | none => p
  let pke := SMap.keep (SMap.mapValues s.engines.pke leave) fun _ p => decide (p ≠ Pair.empty)
  let lattice := SMap.keep (SMap.mapValues s.engines.lattice leave) fun _ p => decide (p ≠ Pair.empty)
  { s with engines := { s.engines with lanes := lanes, hashes := hashes, pke := pke, lattice := lattice } }

/-! ### How a Link ends (R53, R60, R61, R81, R617) -/

/-- The core and tag of a requested Link, numbered 32 + 4 core + tag. -/
def requestCore (n : Nat) : Nat := (n - 32) / 4
def requestTag (n : Nat) : Nat := (n - 32) % 4

/-- Advances a counter of CSR 0x100 to 0x109. -/
def Core.count (c : Core) (i n : Nat) : Core :=
  { c with counters := setAt c.counters i (c.counters.getD i 0 + BitVec.ofNat 64 n) }

/-- An instruction retires and the core goes on at `next`. -/
def Core.retire (c : Core) (next : BitVec 64) : Core := (c.count 1 1).count 2 1 |> fun c => { c with pc := next }

/-- An instruction retires and the core goes on behind it. -/
def Core.advance (c : Core) : Core := c.retire (c.pc + 4)

/-- Changes a core. -/
def modifyCore (k : Nat) (f : Core → Core) (s : State) : State :=
  { s with cores := { s.cores with cores := SMap.modify Core.reset s.cores.cores k f } }

/-- A request of Chain `c` reaches a final state: ENGST of its tag is written, and ENGINE is posted (R359). A core that holds no Link
of the Chain any more has been reset, which cleared the request (R365). -/
def reportRequest (c n status : Nat) (verified : Bool) (s : State) : State :=
  let v := BitVec.ofNat 64 (status + 2 ^ 16 + bit verified * 2 ^ 17)
  let write := fun (k : Core) => { k with engst := setAt k.engst (requestTag n) v,
                                          engBusy := setAt k.engBusy (requestTag n) false }
  if (getCore s (requestCore n)).link.map (·.1) = some c then
    postCoreEvent (requestCore n) 1 (modifyCore (requestCore n) write s)
  else s

/-- Makes every Link not yet issued SKIPPED (R61, R65). -/
def skipWaiting (c : Nat) (s : State) : State :=
  match getChain s c with
  | none => s
  | some ch =>
    let skip := fun (r : LinkRun) => if r.st = .pending ∨ r.st = .ready then { r with st := .skipped } else r
    let ended := ch.requested.filter fun q => decide (q.2.2.st = .ready)
    let requested := ch.requested.map fun q => (q.1, q.2.1, skip q.2.2)
    let s := putChain c { ch with links := ch.links.map skip, requested := requested } s
    let s := ended.foldl (fun s q => reportRequest c q.1 0x0601 false s) s
    dropHold c s

/-- The Chain takes a status and closes (R61). One whose expiry has taken effect and has still to be processed takes 0x0601 whatever
ends it (R200); DESIGN CHOICE (assumption 85): its FIRST_FAIL is 0xFF when every Link has ended DONE by then. -/
def closeChain (c status first : Nat) (s : State) : State :=
  skipWaiting c (modifyChain c (fun ch =>
    if ch.closed then ch
    else if ch.expired then { ch with closed := true, status := 0x0601, firstFail := 0xFF }
    else { ch with closed := true, status := status, firstFail := first }) s)

/-- A Link ends FAILED (R61); a request's failure is its firmware Link's alone (R359). -/
def failLink (c n status : Nat) (s : State) : State :=
  let s := leaveEngine c n (decide (status = 0x0710)) s
  let s := modifyRun c n (fun r => { r with st := .failed }) s
  let s := if n < 32 then closeChain c status n s else reportRequest c n status false s
  noteFinal c s

/-- A Link ends without a result, SKIPPED; its region is wiped (R65, R168). -/
def stopLink (c n : Nat) (s : State) : State :=
  let s := leaveEngine c n true s
  let s := modifyRun c n (fun r => { r with st := .skipped }) s
  let s := if n < 32 then s else reportRequest c n 0x0601 false s
  noteFinal c s

/-- A Link ends DONE with its output and verify result; `key` is the attribute word of a key output and its length. -/
def doneLink (c n : Nat) (verify : Option Bool) (out : Bytes) (key : Option (Nat × Nat)) (s : State) : State :=
  match getChain s c with
  | none => s
  | some ch =>
    match ch.link n with
    | none => s
    | some (l, _) =>
      let s := if ch.closed then s else writeOut ch l out s
      let s := match key with
        | some (attr, len) =>
          let start := refStart l.out + (keyFrom l.opcode l.param).getD 0
          modifyChain c (fun ch => { ch with keys := ch.keys ++ [{ start := start, len := len, attr := attr }] }) s
        | none => s
      let s := leaveEngine c n false s
      let s := modifyRun c n (fun r => { r with st := .done, verify := verify }) s
      let s := if n < 32 then s else reportRequest c n 0 (verify == some true) s
      noteFinal c (rescan c s)

/-- The outcome of an operation ends its Link (R60, R61). -/
def endLink (c n : Nat) (soft : Bool) (res : OpResult) (key : Option (Nat × Nat)) (s : State) : State :=
  match res with
  | .done out => doneLink c n none out key s
  | .verified true _ out => doneLink c n (some true) out key s
  | .verified false mismatch _ => if soft then doneLink c n (some false) [] none s else failLink c n mismatch s
  | .failed status => failLink c n status s

/-! ### Release (R31, R54, R123, R226, R229) -/

/-- The owner tag of a Chain context (R225). -/
def chainTag (c : Nat) : Nat := c

/-- The owner tag of a host function. -/
def functionTag (fn : Nat) : Nat := 0x8000 + fn

/-- Gives back buffers to their pools; one that is free already is noted for the check of R229. -/
def freeBuffers (bs : List Nat) (s : State) : State :=
  { s with flow := { s.flow with buffers := bs.foldl SMap.erase s.flow.buffers
                                 granted := s.flow.granted - bs.length
                                 freeTwice := s.flow.freeTwice || bs.any fun b => (SMap.find s.flow.buffers b).isNone } }

/-- Changes a queue-pair context. -/
def modifyQp (q : Nat) (f : QueuePair → QueuePair) (s : State) : State :=
  { s with host := { s.host with qps := SMap.modify QueuePair.reset s.host.qps q f } }

/-- A queue-pair context. -/
def getQp (s : State) (q : Nat) : QueuePair := SMap.get QueuePair.reset s.host.qps q

/-- A Chain gives up all it holds: protected ranges are cleared, buffers, energy, locks and its context are freed, and
the lane keys it used are cleared. -/
def releaseChain (c : Nat) (s : State) : State :=
  match getChain s c with
  | none => s
  | some ch =>
    let s := clearProtected ch s
    let s := freeBuffers ch.buffers s
    let lanes := SMap.keep s.engines.lanes fun _ x => decide (x.chain ≠ c)
    let loads := s.engines.loads.filter fun x => decide (x.chain ≠ c)
    let locks := SMap.keep s.flow.locks fun _ l => decide (l.holder ≠ chainTag c)
    let entries := ch.links.filterMap (·.entry) ++ ch.requested.filterMap fun q => q.2.2.entry
    let reads := s.host.reads.filter fun r => decide (r.kind ≠ .input c)
    let reserved := s.keys.reserved.filter fun e => !entries.contains e
    let s := dropHold c { s with disp := { s.disp with chains := SMap.erase s.disp.chains c } }
    { s with
      engines := { s.engines with lanes := lanes, loads := loads }
      flow := { s.flow with locks := locks }
      host := { s.host with reads := reads }
      keys := { s.keys with reserved := reserved }
      energy := { s.energy with smallPool := s.energy.smallPool - ch.small,
                                largePool := s.energy.largePool - ch.large } }

/-! ### Expiry, abort and revocation (R24, R65, R168, R226, R254, R363) -/

/-- What an expiry, abort or revocation does to an ISSUED Link. -/
def stopIssued (c : Nat) (s : State) (x : Nat × LinkWords × LinkRun) : State :=
  let n := x.1
  if x.2.2.st ≠ .issued then s
  else if x.2.1.opcode = 0x004 then stopLink c n s
  else
    match engineKind x.2.1.opcode with
    | 3 =>
      match x.2.2.unit with
      | some k =>
        let s := modifyRun c n (fun r => { r with stopping := true }) s
        if (getCore s k).abortAt.isSome then s
        else postCoreEvent k 3 (modifyCore k (fun q => { q with abortAt := some s.disp.tick }) s)
      | none => s
    | 4 => modifyRun c n (fun r => { r with stopping := true }) s
    | 5 =>
      let suspended := match x.2.2.unit with
        | some p =>
          match (getPair s false p).suspended with
          | some b => decide (((getPair s false p).region b).job = some (c, n))
          | none => false
        | none => false
      if suspended then stopLink c n s else modifyRun c n (fun r => { r with stopping := true }) s
    | _ => s

/-- Every ISSUED Link of a Chain is treated as R65 gives. -/
def stopChain (c : Nat) (s : State) : State :=
  match getChain s c with
  | none => s
  | some ch => noteFinal c (ch.all.foldl (stopIssued c) s)

/-- A Chain expires (R65). -/
def expireChain (c : Nat) (s : State) : State := stopChain c (closeChain c 0x0601 0xFF s)

/-- A core whose Link the device has abandoned holds nothing of the Chain; it has still to acknowledge ABORT with LEND
(R363). -/
def dropCoreLinks (c : Nat) (s : State) : State :=
  let drop := fun (_ : Nat) (k : Core) =>
    match k.link with
    | some (c', _) =>
      if c' ≠ c then k
      else
        let k := { k with link := none, stored := [], events := k.events ||| 8 }
        match k.lending with
        | some _ => { k with lending := none, abortAt := none }.advance
        | none => { k with abortAt := some (k.abortAt.getD s.disp.tick) }
    | none => k
  { s with cores := { s.cores with cores := SMap.mapValues s.cores.cores drop } }

/-- Every engine abandons the Chain's Links, and the Chain waits for its abort completion (R24, R468). -/
def abortChain (status c : Nat) (s : State) : State :=
  match getChain s c with
  | none => s
  | some ch =>
    if ch.revoked then s else
    let running := ch.all.filter fun x => decide (x.2.2.st = .issued)
    let s := running.foldl (fun s x => leaveEngine c x.1 true s) s
    let asked := ch.requested.filter fun q => !q.2.2.st.final
    let s := asked.foldl (fun s q => reportRequest c q.1 status false s) s
    let abort := fun (r : LinkRun) => if r.st.final then r else { r with st := .skipped }
    let s := dropCoreLinks c s
    let s := modifyChain c (fun ch =>
      { ch with links := ch.links.map abort,
                requested := ch.requested.map fun q => (q.1, q.2.1, abort q.2.2), closed := true, status := status,
                firstFail := 0xFE, waitRecords := [], waitPages := [], waitEvent := 0 }) s
    dropHold c (finishChain c s)

/-- A Chain is revoked by owner: it runs no further Link and ends without completion (R226, R254). -/
def revokeChain (c : Nat) (s : State) : State :=
  stopChain c (skipWaiting c (modifyChain c (fun ch => { ch with closed := true, revoked := true }) s))

/-- The Chain contexts that a test accepts. -/
def chainsWhere (s : State) (p : Chain → Bool) : List Nat :=
  (s.disp.chains.filter fun x => p x.2).map (·.1)

end Sys2Proof.Machine
end

