-- ==== Sys2Proof/Machine/HostOps.lean ====
section
/-!
DEFINITION. What the host interface's rows share: who may write, ring arithmetic, fetching, the states of a queue pair,
posted writes, completions and resets of functions (R231 to R259).
-/
namespace Sys2Proof.Machine

/-! ### Functions, streams and BAR offsets (R231, R233, R253, R272) -/

/-- What the configuration space of every function tells of the part (R231): class code, and the device ID by grade. No command reads
it. -/
def classCode : Nat := 0x108000
def deviceId (s : State) (fn : Nat) : Nat := byGrade s 0x9120 0x9080 0x9040 + (if fn = 0 then 0 else 1)

/-- A function exists: PF0, or a VF that VF Enable and NumVFs give. -/
def functionExists (s : State) (fn : Nat) : Bool :=
  decide (fn = 0) || (s.host.vfEnable && decide (fn ≤ s.host.numVfs) && decide (fn ≤ instCount s))

/-- A stream in the Secure state covers a function. -/
def coveredBy (s : State) (stream fn : Nat) : Bool :=
  match s.host.ide[stream]? with
  | some i => i.secure && decide (i.firstFn ≤ fn) && decide (fn ≤ i.lastFn)
  | none => false

/-- A memory request to a function's BAR is accepted (R253): with IDE required, only within a Secure stream that
covers the function. -/
def requestAccepted (s : State) (w : HostWrite) : Bool :=
  functionExists s w.fn && s.host.linkUp &&
    (!s.host.ideRequired ||
      match w.stream with
      | some i => coveredBy s i w.fn
      | none => false)

/-- First offset after the doorbells. -/
def doorbellEnd (fn : Nat) : Nat := if fn = 0 then 0x80000 else 0x8000
/-- Base of the mailbox header and of the message slots. -/
def mailHeader (fn : Nat) : Nat := if fn = 0 then 0x80000 else 0x8000
def mailSlots (fn : Nat) : Nat := if fn = 0 then 0x81000 else 0x9000

/-- The instance of a VF is ACTIVE; PF0 always serves. -/
def hasMailbox (s : State) (fn : Nat) : Bool :=
  decide (fn = 0) || decide ((SMap.get Inst.empty s.tenants.insts fn).state = .active)

/-- An offset that some register of the function's BAR0 occupies (R233, R272). -/
def barImplemented (s : State) (fn offset : Nat) : Bool :=
  let header := mailHeader fn
  let slots := mailSlots fn
  let table := if fn = 0 then 0x90000 else 0xC000
  let tableEnd := if fn = 0 then 0x98000 else 0xC400
  let pba := if fn = 0 then 0x98000 else 0xD000
  let pbaEnd := if fn = 0 then 0x98100 else 0xD008
  decide (offset < doorbellEnd fn) ||
    (hasMailbox s fn && ((decide (header ≤ offset) && decide (offset < header + 256)) ||
      (decide (slots ≤ offset) && decide (offset < slots + 4096)))) ||
    (decide (table ≤ offset) && decide (offset < tableEnd)) || (decide (pba ≤ offset) && decide (offset < pbaEnd))

/-- A host write is discarded and counted (R234, R240, R274). -/
def countDiscard (s : State) : State := { s with host := { s.host with discarded := s.host.discarded + 1 } }

/-! ### Rings (R235, R241, R249) -/

/-- The index after `i`. -/
def ringNext (size i : Nat) : Nat := (i + 1) % size

/-- Completion slots that are reserved, or hold entries the host has not released. -/
def cqInUse (q : QueuePair) : Nat := q.cqReserved + ringSteps (ringSize q.cqSize) q.cqHead q.cqTail

/-- A completion slot can be reserved: a ring holds its size less one entries. -/
def cqFree (q : QueuePair) : Bool := decide (cqInUse q + 1 < ringSize q.cqSize)

/-- The queue pair of a function's local number. -/
def localQp (s : State) (fn n : Nat) : Option (Nat × QueuePair) :=
  s.host.qps.find? fun x => x.2.isSet && decide (x.2.fn = fn) && decide (x.2.localNo = n)

/-! ### Fetching (R46, R242, R244) -/

/-- The read requests that a read takes: at most 4,096 B each, none across a 4 KiB boundary (R231). DESIGN CHOICE (assumption 90): the
host has programmed the largest request size that the part supports. -/
def readRequests (addr : Nat) : Nat → Nat → List (Nat × Nat)
  | 0, _ => []
  | fuel + 1, len =>
    if len = 0 then []
    else
      let n := min len (4096 - addr % 4096)
      (addr, n) :: readRequests (addr + n) fuel (len - n)

/-- The requests of an outstanding read; each holds a tag until the read has ended (R211). -/
def HostRead.requests (r : HostRead) : List (Nat × Nat) := readRequests r.addr (r.len / 4096 + 2) r.len

/-- Read tags in use (R211). -/
def tagsInUse (s : State) : Nat :=
  ((s.host.reads.filter (·.sent)).map fun r => r.requests.length).foldl (· + ·) 0

/-- The requests of a read go out on the link. -/
def sendRequests (fn : Nat) (rs : List (Nat × Nat)) (s : State) : State :=
  rs.foldl (fun s x => send (.memRead fn x.1 x.2) s) s

/-- Requests a read of host memory under a new identity. It waits while the 128 tags are short or an earlier read waits (R211, R231). -/
def requestRead (kind : ReadKind) (fn addr len : Nat) (s : State) : State :=
  let r : HostRead := { ident := s.host.readSeq, kind := kind, fn := fn, addr := addr, len := len }
  let go := s.host.reads.all (·.sent) && decide (tagsInUse s + r.requests.length ≤ 128) && maySend s fn
  let s := { s with host := { s.host with reads := s.host.reads ++ [{ r with sent := go }], readSeq := s.host.readSeq + 1 } }
  if go then sendRequests fn r.requests s else s

/-- The outstanding read of an identity. -/
def findRead (s : State) (ident : Nat) : Option HostRead :=
  s.host.reads.find? fun r => decide (r.ident = ident) && r.sent

/-- The first read that waits is sent when the tags cover it. -/
def sendWaiting (s : State) : State :=
  match s.host.reads.find? fun r => !r.sent with
  | none => s
  | some r =>
    if tagsInUse s + r.requests.length ≤ 128 ∧ maySend s r.fn then
      let mark := fun (x : HostRead) => if x.ident = r.ident then { x with sent := true } else x
      sendRequests r.fn r.requests { s with host := { s.host with reads := s.host.reads.map mark } }
    else s

/-- Reads that wait are sent, oldest first, as far as the tags go (R211). -/
def sendWaitingAll (s : State) : State :=
  (s.host.reads.filter fun r => !r.sent).foldl (fun s _ => sendWaiting s) s

/-- A read has ended, and its tags serve the reads that wait. -/
def dropRead (ident : Nat) (s : State) : State :=
  sendWaitingAll { s with host := { s.host with reads := s.host.reads.filter fun r => decide (r.ident ≠ ident) } }

/-- Fetches the entries up to SQ_TAIL: one read for a run of up to 8 entries, never past the ring's end, while read tags
are free (R211, R242). -/
def fetchQp (q : Nat) : Nat → State → State
  | 0, s => s
  | fuel + 1, s =>
    let x := getQp s q
    let size := ringSize x.sqSize
    if x.state ≠ .active ∨ x.fetchTo = x.sqTail ∨ tagsInUse s ≥ 128 then s
    else
      let n := min 8 (min (ringSteps size x.fetchTo x.sqTail) (size - x.fetchTo))
      let s := requestRead (.entries q x.fetchTo n) x.fn (x.sqBase * 4096 + 64 * x.fetchTo) (64 * n) s
      fetchQp q fuel (modifyQp q (fun y => { y with fetchTo := (x.fetchTo + n) % size }) s)

/-- Every queue pair goes on fetching. -/
def fetchAll (s : State) : State :=
  (s.host.qps.filter fun x => decide (x.2.fetchTo ≠ x.2.sqTail)).foldl (fun s x => fetchQp x.1 2048 s) s

/-- Bytes of a window. -/
def windowSize (q : QueuePair) : Nat := 2 ^ q.winSize

/-- A range lies wholly within the data window; an empty range always does. -/
def inWindow (q : QueuePair) (off len : Nat) : Bool := decide (len = 0) || decide (off + len ≤ windowSize q)

/-- Bytes of a descriptor of `n` Links. -/
def descriptorLen (n : Nat) : Nat := 64 + 32 * n

/-- An entry's descriptor is fetched: its address is a multiple of 64, it lies within the window, and its Link count is
one a body can have (R46, R247). -/
def descriptorFetched (q : QueuePair) (e : Bytes) : Bool :=
  decide (entryBody e = 1) && decide (entryRef e % 64 = 0) && decide (1 ≤ entryLinks e) && decide (entryLinks e ≤ 32) &&
    inWindow q (entryRef e) (descriptorLen (entryLinks e))

/-- Starts the fetch of the descriptor that the entry at SQ_HEAD names, once. -/
def startDescriptor (q : Nat) (s : State) : State :=
  let x := getQp s q
  match x.fetched with
  | [] => s
  | e :: _ =>
    if x.state ≠ .active ∨ x.descriptor.isSome ∨ !descriptorFetched x e ∨
        s.host.reads.any (fun r => decide (r.kind = .descriptor q)) then s
    else
      requestRead (.descriptor q) x.fn (x.winBase * 4096 + entryRef e) (descriptorLen (entryLinks e)) s

/-- Reads of a queue pair's ring and descriptors. -/
def qpReads (q : Nat) (r : HostRead) : Bool :=
  match r.kind with
  | .entries p _ _ => decide (p = q)
  | .descriptor p => decide (p = q)
  | _ => false

/-- Fetched entries not consumed are discarded, and reads under way are forgotten (R237). -/
def dropFetched (q : Nat) (s : State) : State :=
  let s := { s with host := { s.host with reads := s.host.reads.filter fun r => !qpReads q r } }
  modifyQp q (fun x => { x with fetched := [], early := [], fetchTo := x.sqHead, descriptor := none, passedOver := false, hintLeft := 0 }) s

/-! ### The states of a queue pair (R237) -/

/-- A number past every queue pair: a Chain whose ring has been stopped names it, so that no slot of a ring set up anew is
taken for its own. -/
def noQp : Nat := 65536

/-- A Chain whose ring stops is revoked without completion. -/
def revokeStopped (s : State) (c : Nat) : State := modifyChain c (fun ch => { ch with qp := noQp }) (revokeChain c s)

/-- Chains of a queue pair are revoked without completion. -/
def revokeQp (q : Nat) (s : State) : State := (chainsWhere s fun ch => decide (ch.qp = q)).foldl revokeStopped s

/-- ACTIVE to ERROR, with its cause; the manager and the tenant are told (R237, R260, R272). -/
def errorQp (q cause : Nat) (s : State) : State :=
  let fn := (getQp s q).fn
  let s := dropFetched q s
  let s := modifyQp q (fun x => { x with state := .error, errCause := cause, cqReserved := 0 }) s
  let s := { s with host := { s.host with queued := s.host.queued.filter fun e => decide (e.qp ≠ q) } }
  tenantNotify fn 1 (managerNotify 2 (revokeQp q s))

/-- The enable of a valid queue pair: running fields zero, PHASE 1. -/
def enableQp (q : Nat) (s : State) : State :=
  modifyQp q (fun x => { x with
    state := .active, sqHead := 0, sqTail := 0, cqTail := 0, cqHead := 0, cqReserved := 0, phase := true, irqPending := 0,
    errCause := 0, admitted := 0, completed := 0, fetched := [], early := [], fetchTo := 0, descriptor := none, modDue := none,
    passedOver := false, hintLeft := 0 }) s

/-- Result of an enable: 0 done, 3 wrong state, 5 IDE policy (R237, R238, R253, R260). -/
def enableResult (s : State) (q : Nat) : Nat :=
  let x := getQp s q
  if !x.isSet || decide (x.state ≠ .disabled) then 3
  else if s.host.ideRequired && !ideCovered s x.fn then 5 else 0

/-- A queue pair freezes: fetched entries are discarded (R237). -/
def freezeQp (q : Nat) (s : State) : State := modifyQp q (fun x => { x with state := .frozen }) (dropFetched q s)

/-- What follows a queue pair's last owed completion (R237): DRAINING becomes DISABLED, and ACTIVE freezes while LOCKED is set, the
aborts of R24 being written. -/
def drained (q : Nat) (s : State) : State :=
  let x := getQp s q
  if x.state = .draining ∧ x.cqReserved = 0 then
    logEvent 0x0104 deviceSource (natLE 4 q) (modifyQp q (fun x => { x with state := .disabled }) s)
  else if x.state = .active ∧ x.cqReserved = 0 ∧ s.modes.word.locked then freezeQp q s
  else s

/-- Result of a disable: 0 done, 3 wrong state. -/
def disableResult (s : State) (q : Nat) : Nat :=
  match (getQp s q).state with
  | .active | .frozen | .error => 0
  | _ => 3

/-- The disable: ACTIVE drains, FROZEN and ERROR become DISABLED. -/
def disableQp (q : Nat) (s : State) : State :=
  let s := dropFetched q s
  match (getQp s q).state with
  | .active => drained q (modifyQp q (fun x => { x with state := .draining }) s)
  | .frozen | .error => modifyQp q (fun x => { x with state := .disabled }) s
  | _ => s

/-- LOCKED is set: ACTIVE queue pairs that owe no completion freeze at once; another freezes when its last abort completion is written
(R24, R237). -/
def freezeQps (s : State) : State :=
  (s.host.qps.filter fun x => decide (x.2.state = .active) && decide (x.2.cqReserved = 0)).foldl (fun s x => freezeQp x.1 s) s

/-- LOCKED is cleared: frozen queue pairs resume fetching from SQ_HEAD up to SQ_TAIL (R237). -/
def thawQps (s : State) : State :=
  (s.host.qps.filter fun x => decide (x.2.state = .frozen)).foldl
    (fun s x => fetchQp x.1 2048 (modifyQp x.1 (fun y => { y with state := .active }) s)) s

/-! ### Posted writes on C0 (R213, R231) -/

/-- The lengths of the packets that carry a write: at most 512 B each, none across a 4 KiB boundary. -/
def packets (addr : Nat) : Nat → Nat → List Nat
  | 0, _ => []
  | fuel + 1, len =>
    if len = 0 then []
    else
      let n := min len (min 512 (4096 - addr % 4096))
      n :: packets (addr + n) fuel (len - n)

/-- Packets of a write. -/
def packetsOf (addr len : Nat) : List Nat := packets addr (len + 1) len

/-- Bytes of the leading packets that the posted credits cover, with the credits left. -/
def affordable : List Nat → Nat → Nat → Nat × Nat × Nat
  | [], h, d => (0, h, d)
  | n :: t, h, d =>
    let need := ceilDiv n 16
    if 1 ≤ h ∧ need ≤ d then
      let r := affordable t (h - 1) (d - need)
      (n + r.1, r.2)
    else (0, h, d)

/-- Writes to host memory as far as the posted credits go; answers the bytes written. -/
def postWrite (fn addr : Nat) (data : Bytes) (s : State) : Nat × State :=
  let r := affordable (packetsOf addr data.length) s.flow.postedHdr s.flow.postedData
  if !maySend s fn || r.1 == 0 then (0, s)
  else
    (r.1, send (.memWrite fn addr (data.take r.1))
      { s with flow := { s.flow with postedHdr := r.2.1, postedData := r.2.2 } })

/-- A message that waits is sent while the reserve stays whole, or waits on. -/
def releaseMessage (s : State) (x : Nat × Nat) : State :=
  if maySend s x.1 && creditsAboveReserve s then
    send (msixMessage s x.1 x.2)
      { s with flow := { s.flow with postedHdr := s.flow.postedHdr - 1, postedData := s.flow.postedData - 1 } }
  else { s with host := { s.host with posted := s.host.posted ++ [x] } }

/-- MSI-X messages that wait for credits are sent, oldest first, while the reserve stays whole (R213). -/
def releasePosted (s : State) : State :=
  s.host.posted.foldl releaseMessage { s with host := { s.host with posted := [] } }

/-! ### Completions (R72, R74, R248 to R250) -/

/-- The masks of a Chain: a bit for each Link that a test accepts. -/
def linkMask (ch : Chain) (p : LinkWords → LinkRun → Bool) : Nat :=
  (((List.range ch.links.length).zip (ch.body.links.zip ch.links)).map fun x =>
    if p x.2.1 x.2.2 then 2 ^ x.1 else 0).foldl (· + ·) 0

/-- FIRST_FAIL: for an expired Chain its lowest-numbered Link that is not DONE (R65). DESIGN CHOICE (assumption 85): 0xFF where every Link
has ended DONE, as the rule names none then. -/
def firstFailOf (ch : Chain) : Nat :=
  if ch.status = 0x0601 ∧ ch.firstFail = 0xFF then
    ((List.range ch.links.length).find? fun n => decide (ch.stateOf n ≠ .done)).getD 0xFF
  else ch.firstFail

/-- The NONCE field and NONCE_PTR (R73, R74). -/
def nonceField (ch : Chain) : Bytes × Bool :=
  if ch.status ≠ 0 then (zeros 12, false)
  else if ch.body.nonceRet = 1 then
    match ch.links[ch.body.nonceLink]? with
    | some r => (if r.st = .done then padTo 12 r.nonce else zeros 12, false)
    | none => (zeros 12, false)
  else if ch.body.nonceRet = 2 then
    let before := ((List.range ch.body.nonceWb).map fun i => refLen (ch.body.wb i)).foldl (· + ·) 0
    (padTo 12 (natLE 8 (ch.resultAddr + before)), true)
  else (zeros 12, false)

/-- A completion entry but for SQ_HEAD and PHASE, which its ring gives. -/
def completionEntry (q : QueuePair) (tag status firstFail flags : Nat) (nonce : Bytes) (skip verify : Nat) : Bytes :=
  natLE 4 tag ++ natLE 2 status ++ [byte firstFail, byte flags] ++ padTo 12 nonce ++ natLE 4 skip ++ natLE 4 verify ++
    natLE 2 q.sqHead ++ natLE 2 (bit q.phase)

/-- The completion entry of a finished Chain. -/
def chainEntry (q : QueuePair) (ch : Chain) : Bytes :=
  let aborted := decide (ch.firstFail = 0xFE)
  let n := nonceField ch
  let flags := bit ch.debug + (ch.epoch % 2) * 2 + bit n.2 * 4
  completionEntry q ch.tag ch.status (firstFailOf ch) flags n.1
    (if aborted then 0 else linkMask ch fun _ r => decide (r.st = .skipped))
    (if aborted then 0 else linkMask ch fun _ r => decide (r.st = .done) && r.verify == some true)

/-- After a completion: IRQ_PENDING, and the queue pair's interrupt when it is due (R250). -/
def moderate (q : Nat) (s : State) : State :=
  let x := getQp s q
  let n := (x.irqPending + 1) % 65536
  if x.modCount = 0 then modifyQp q (fun y => { y with irqPending := n }) s
  else if n ≥ x.modCount then
    sendMsix x.fn x.vector (modifyQp q (fun y => { y with irqPending := 0, modDue := none }) s)
  else
    let due := if x.modTime = 0 then none else if x.irqPending = 0 then some (s.disp.tick + x.modTime) else x.modDue
    modifyQp q (fun y => { y with irqPending := n, modDue := due }) s

/-- A completion entry is written at CQ_TAIL when posted credits cover it; answers whether it was. -/
def writeEntryAt (q : Nat) (entry : QueuePair → Bytes) (s : State) : Bool × State :=
  let x := getQp s q
  let addr := x.cqBase * 4096 + 32 * x.cqTail
  let (n, s) := postWrite x.fn addr (entry x) s
  if n = 0 then (false, s)
  else
    let tail := ringNext (ringSize x.cqSize) x.cqTail
    let step := fun (y : QueuePair) => { y with cqTail := tail, phase := if tail = 0 then !y.phase else y.phase,
                                                cqReserved := y.cqReserved - 1, completed := y.completed + 1 }
    (true, drained q (moderate q (modifyQp q step s)))

/-- A completion that no Chain context holds waits on C0, with a completion slot reserved for it (R55, R72). -/
def queueRefusal (q tag status : Nat) (s : State) : State :=
  let e : QueuedCompletion := { qp := q, tag := tag, status := status, firstFail := 0xFE,
                                flags := bit s.modes.word.debugOpen, finSeq := s.disp.finishSeq }
  let s := { s with disp := { s.disp with finishSeq := s.disp.finishSeq + 1 } }
  let s := { s with host := { s.host with queued := s.host.queued ++ [e] } }
  modifyQp q (fun x => { x with cqReserved := x.cqReserved + 1 }) s

/-! ### Templates and instances as resets and destroys leave them (R254, R256, R268, R269) -/

/-- Gives back what a template slot holds. -/
def clearTemplates (owned : Nat → Bool) (s : State) : State :=
  let clear := fun (s : State) (x : Nat × Template) =>
    let t := x.2
    let cur := owned t.owner && t.body.isSome
    let old := owned t.oldOwner && t.oldBody.isSome
    let s := if cur then freeBuffers t.buffers s else s
    let s := if old then freeBuffers t.oldBuffers s else s
    let s := match t.staged with
      | some (some (o, _, bs)) => if owned o then freeBuffers bs s else s
      | _ => s
    let t := if cur then { t with owner := 0, body := none, buffers := [] } else t
    let t := if old then { t with oldOwner := 0, oldBody := none, oldBuffers := [] } else t
    let staged := match t.staged with
      | some (some (o, b, bs)) => if owned o then none else some (some (o, b, bs))
      | some none => if cur then none else some none
      | none => none
    { s with epochs := { s.epochs with
        templates := SMap.set Template.empty s.epochs.templates x.1 { t with staged := staged } } }
  s.epochs.templates.foldl clear s

/-- Every mailbox slot FREE, the path's own values at their defaults (R521); LAST_EXEC stays (R254, R256, R257). -/
def emptyMailbox (fn : Nat) (s : State) : State :=
  let m := mailbox s fn
  let s := { s with dict := { s.dict with held := s.dict.held.filter fun h => decide (h.path ≠ .mailbox fn)
                                          paths := SMap.erase s.dict.paths fn }
                    keys := { s.keys with selects := SMap.erase s.keys.selects fn } }
  setMailbox fn { m with slots := [] } s

/-- A message that executes when its mailbox is emptied counts as executed; its reply is discarded (R257). -/
def settleHeld (fn : Nat) (s : State) : State :=
  match s.dict.held.find? fun h => decide (h.path = .mailbox fn) with
  | some h => setMailbox fn { mailbox s fn with lastExec := BitVec.ofNat 32 h.seq } s
  | none => s

/-- Zeroises the expire-at-reset slots of the functions given (R298, R317); answers the pages to wait for. -/
def clearExpiring (owned : Nat → Bool) (s : State) : State :=
  let hit := s.keys.slots.filter fun x => (attrOfWord x.2.attr).expire && owned (slotOwner x.2)
  hit.foldl (fun s x => (zeroiseSlot x.1 s).2) s

end Sys2Proof.Machine
end

