-- ==== Sys2Proof/Machine/Allocator.lean ====
section
/-!
DEFINITION. The buffer allocator and the pools of a tenant that admission and template staging draw on (R214 to R219,
R261, R262).
-/
namespace Sys2Proof.Machine

/-! ### Quotas (R261, R262) -/

/-- An instance's record. -/
def getInst (s : State) (fn : Nat) : Inst := SMap.get Inst.empty s.tenants.insts fn

/-- Changes an instance's record. -/
def modifyInst (fn : Nat) (f : Inst → Inst) (s : State) : State :=
  { s with tenants := { s.tenants with insts := SMap.modify Inst.empty s.tenants.insts fn f } }

/-- Buffers of the allocation pools. -/
def poolTotal (s : State) : Nat := poolCount * poolBuffers s

/-- The sum of a field over every instance. -/
def instSum (s : State) (f : Inst → Nat) : Nat := (s.tenants.insts.map fun x => f x.2).foldl (· + ·) 0

/-- Buffer quota of a function: PF0 has what no instance claims. -/
def quotaOf (s : State) (fn : Nat) : Nat :=
  if fn = 0 then poolTotal s - instSum s (·.quota) else (getInst s fn).quota

/-- Buffers that template slots hold for an owner. -/
def templateBuffers (s : State) (fn : Nat) : Nat :=
  (s.epochs.templates.map fun x =>
    let t := x.2
    let cur := if t.owner = fn then t.buffers.length else 0
    let old := if t.oldOwner = fn then t.oldBuffers.length else 0
    let staged := match t.staged with
      | some (some (o, _, bs)) => if o = fn then bs.length else 0
      | _ => 0
    cur + old + staged).foldl (· + ·) 0

/-- Buffers counted against a function's quota. -/
def buffersCounted (s : State) (fn : Nat) : Nat :=
  (s.disp.chains.map fun x => if x.2.fn = fn then x.2.buffers.length else 0).foldl (· + ·) (templateBuffers s fn)

/-- The free quota of a function covers a count. -/
def quotaCovers (s : State) (fn n : Nat) : Bool := decide (buffersCounted s fn + n ≤ quotaOf s fn)

/-! ### Pools (R216 to R218, R377, R385) -/

/-- Buffers of a pool's banks, its reserve among them. -/
def poolSpan (s : State) : Nat := poolBuffers s + 16

/-- Buffers of the reserve pool that hold something of the fault controller's (R227). -/
def reserveHeld (s : State) : List Nat := (List.range (min 64 (reserveInUse s))).map fun i => i / 16 * poolSpan s + poolBuffers s + i % 16

/-- The owner tag of a buffer (R225): its holder's, the fault controller's, or that of a free one. -/
def bufferTag (s : State) (b : Nat) : Nat :=
  match SMap.find s.flow.buffers b with
  | some t => t
  | none => if (reserveHeld s).contains b then 0xC000 else 0xFFFF

/-- The allocator may grant a buffer: it is free, outside the reserve, and its region is not retired. -/
def grantable (s : State) (used : List Nat) (b : Nat) : Bool :=
  decide (b % poolSpan s < poolBuffers s) && !used.contains b && !s.memTest.retired.contains (b / 16)

/-- Free buffers of a pool. -/
def poolFree (s : State) (p : Nat) : Nat :=
  let inPool := fun (b : Nat) => decide (b / poolSpan s = p) && decide (b % poolSpan s < poolBuffers s)
  let used := (s.flow.buffers.filter fun x => inPool x.1 && !s.memTest.retired.contains (x.1 / 16)).length
  let retired := (s.memTest.retired.filter fun r => inPool (16 * r)).length
  poolBuffers s - used - 16 * retired

/-- Free buffers of every pool. -/
def poolsFree (s : State) : List Nat := (List.range poolCount).map (poolFree s)

/-- Free buffers in all, OD 0x2200:32. -/
def freeTotal (s : State) : Nat := (poolsFree s).foldl (· + ·) 0

/-- Puts a pool behind those that have at least as many free buffers. -/
def insertPool (free : List Nat) (p : Nat) : List Nat → List Nat
  | [] => [p]
  | q :: t => if free.getD q 0 < free.getD p 0 then p :: q :: t else q :: insertPool free p t

/-- The pools in the order in which one ECLK takes from them: most free first, the lowest number on a tie. -/
def poolOrder (free : List Nat) : List Nat :=
  ((List.range free.length).foldl (fun acc p => insertPool free p acc) []).filter fun p => decide (free.getD p 0 > 0)

/-- The pools that give `n` buffers, one from each pool in each ECLK. -/
def poolPicks : Nat → Nat → List Nat → List Nat
  | 0, _, _ => []
  | fuel + 1, n, free =>
    let round := (poolOrder free).take n
    if round.isEmpty then []
    else round ++ poolPicks fuel (n - round.length)
      ((List.range free.length).map fun p => free.getD p 0 - (if round.contains p then 1 else 0))

/-- The lowest buffer from `b` on that the allocator may grant. -/
def lowestGrantable (s : State) (used : List Nat) : Nat → Nat → Option Nat
  | 0, _ => none
  | fuel + 1, b => if grantable s used b then some b else lowestGrantable s used fuel (b + 1)

/-- The buffers of a grant: in each pool the lowest-numbered free one. -/
def grantBuffers (s : State) (n : Nat) : List Nat :=
  let picks := poolPicks n n (poolsFree s)
  let used := s.flow.buffers.map (·.1)
  let take := fun (acc : List Nat) (p : Nat) =>
    match lowestGrantable s (acc ++ used) (poolSpan s) (p * poolSpan s) with
    | some b => acc ++ [b]
    | none => acc
  picks.foldl take []

/-- The allocator's decision on a request of `n` buffers for an owner: the whole count, or NONE. -/
def allocate (s : State) (fn n : Nat) : Option (List Nat) :=
  if quotaCovers s fn n && decide (n ≤ freeTotal s) then
    let bs := grantBuffers s n
    if bs.length = n then some bs else none
  else none

/-- Granted buffers carry their owner's tag, and the allocator counts them out. -/
def holdBuffers (tag : Nat) (bs : List Nat) (s : State) : State :=
  { s with flow := { s.flow with buffers := bs.foldl (fun m b => SMap.put m b tag) s.flow.buffers
                                 granted := s.flow.granted + bs.length } }

/-- A requester has been granted (R221): its last wait was nothing where it had not lost since the grant before, and otherwise lasted a
number of ECLK that is free, as the commands carry no clock. -/
def noteGrant (requester : Nat) (s : State) : State :=
  if s.flow.lost.contains requester then
    let (n, s) := takeFree s
    { s with flow := { s.flow with lastWaits := SMap.put s.flow.lastWaits requester (some n)
                                   lost := s.flow.lost.filter fun r => decide (r ≠ requester) } }
  else { s with flow := { s.flow with lastWaits := SMap.put s.flow.lastWaits requester none } }

/-- A requester has lost, or has been answered NONE (R221). -/
def noteLoss (requester : Nat) (s : State) : State :=
  if s.flow.lost.contains requester then s else { s with flow := { s.flow with lost := s.flow.lost ++ [requester] } }

/-- The hint for a last wait in ECLK (R221). -/
def hintOf (wait : Nat) : Nat := if wait ≤ 16 then 0 else if wait > 224 then 0xE else (wait - 1) / 16

/-- The wait hint of a requester (R221). -/
def waitHint (s : State) (requester : Nat) : Nat :=
  match SMap.find s.flow.lastWaits requester with
  | none => 0xF
  | some none => 0
  | some (some n) => hintOf (Config.freeBits n).toNat

/-- The admission cycles of 16 ECLK for which a hint is waited out (R222). -/
def hintCycles (hint : Nat) : Nat := if hint = 0xF then 1 else hint + 1

/-- Requesters of the allocator's ports and of the cores' request ports, by the numbers of their hints. -/
def allocatorPort (port : Nat) : Nat := port
def requestPort (core : Nat) : Nat := 64 + core

/-- A port's request answered NONE. -/
def countNone (port : Nat) (s : State) : State :=
  noteLoss (allocatorPort port) { s with flow := { s.flow with noneResults := s.flow.noneResults + 1 } }

/-- A grant to a port. -/
def takeGrant (port tag : Nat) (bs : List Nat) (s : State) : State :=
  let s := noteGrant (allocatorPort port) (holdBuffers tag bs s)
  { s with flow := { s.flow with lastPort := some port } }

/-- A grant to a port that has withdrawn: the buffers stay committed until the port returns them (R219). -/
def wasteGrant (port fn : Nat) (bs : List Nat) (s : State) : State :=
  let s := takeGrant port (functionTag fn) bs s
  let g : WastedGrant := { port := port, owner := functionTag fn, buffers := bs }
  { s with flow := { s.flow with wasted := s.flow.wasted ++ [g] } }

/-- A port withdraws a request because a check of R55 has refused the Chain (R219): a grant decided for it is wasted. A count outside 1 to
32, or beyond the quota, is never requested (R215, R216). -/
def withdrawRequest (port fn n : Nat) (s : State) : State :=
  if n = 0 ∨ n > 32 ∨ n > quotaOf s fn then s
  else
    match allocate s fn n with
    | none => countNone port s
    | some bs => wasteGrant port fn bs s

/-! ### Rights and units (R55, R67, R261) -/

/-- Link-group rights of a function under the current epoch. -/
def rightsOf (s : State) (fn : Nat) : Nat := if fn = 0 then 0xFFF else (getInst s fn).rights

/-- Unit code and count of an engine kind (R179, R460); the control unit has none. -/
def kindUnits (s : State) (kind : Nat) : Option (Nat × Nat) :=
  match kind with
  | 1 => some (4, laneCount s)
  | 2 => some (5, hashCount s)
  | 3 => some (9, coreCount s)
  | 4 => some (7, latticeCount s)
  | 5 => some (6, pkeCount s)
  | _ => none

/-- A unit of a kind remains in service. -/
def kindInService (s : State) (kind : Nat) : Bool :=
  match kindUnits s kind with
  | none => true
  | some (unit, n) => (List.range n).any fun i => !isWithdrawn unit i s

end Sys2Proof.Machine
end

