-- ==== Sys2Proof/Machine/Admission.lean ====
section
/-!
DEFINITION. Admission of Chains: the turn of a port, refusals, submission checks, reservations and the admitted Chain's
context (R41, R46, R52, R55, R56, R64, R175 to R178, R214, R215, R244 to R247).
-/
namespace Sys2Proof.Machine

/-! ### The port's turn (R244) -/

/-- The entry at SQ_HEAD can be offered. -/
def offerable (x : QueuePair) : Bool :=
  decide (x.state = .active) &&
    match x.fetched with
    | [] => false
    | e :: _ => !descriptorFetched x e || x.descriptor.isSome

/-- The queue pair a port serves next, in round robin; those passed over are left out. -/
def turnOf (s : State) (port : Nat) : Option (Nat × QueuePair) :=
  let mine := s.host.qps.filter fun x => decide (x.1 % 2 = port) && offerable x.2 && !x.2.passedOver
  let start := s.host.rrNext.getD port 0
  ((mine.filter fun x => decide (x.1 ≥ start)) ++ mine.filter fun x => decide (x.1 < start)).head?

/-- A queue pair whose port has gone through one more admission cycle of 16 ECLK (R175, R222). -/
def waitOut (x : QueuePair) : QueuePair :=
  if x.hintLeft ≤ 1 then { x with passedOver := false, hintLeft := 0 } else { x with hintLeft := x.hintLeft - 1 }

/-- Wait hints of a port run on (R222, R244). -/
def runHints (port : Nat) (s : State) : State :=
  let next := fun (q : Nat) (x : QueuePair) => if x.passedOver && decide (q % 2 = port) then waitOut x else x
  { s with host := { s.host with qps := SMap.mapValues s.host.qps next } }

/-- A queue pair whose entry received NONE is passed over until the hint has run out (R244). -/
def passOver (port q : Nat) (s : State) : State :=
  modifyQp q (fun x => { x with passedOver := true, hintLeft := hintCycles (waitHint s (allocatorPort port)) }) s

/-- The port has given a queue pair its turn. -/
def turnTaken (port q : Nat) (s : State) : State :=
  { s with host := { s.host with rrNext := setAt s.host.rrNext port (q + 1) } }

/-- The entry at SQ_HEAD is consumed (R245). -/
def consume (q : Nat) (s : State) : State :=
  let step := fun (x : QueuePair) =>
    { x with fetched := x.fetched.tail, sqHead := ringNext (ringSize x.sqSize) x.sqHead, admitted := x.admitted + 1,
             descriptor := none, passedOver := false, hintLeft := 0 }
  startDescriptor q (modifyQp q step s)

/-! ### Refusals (R41, R55, R56) -/

/-- Why no Chain is served while SERVICE and LOCKED are clear (R41). -/
def serviceRefusal (s : State) : Nat :=
  if fatalOpen s then 0x0504
  else if s.modes.word.auditHold then 0x0502
  else if standbyNow s then 0x0503 else 0x0501

/-- Fields of a submission entry (R246). -/
def entryPrio (e : Bytes) : Nat := bits (entryWord e 0) 2 2
def entryDeadline (e : Bytes) : Nat := bits (entryWord e 0) 12 20
def entryTag (e : Bytes) : Nat := bits (entryWord e 0) 32 32
def entryInputLen (e : Bytes) : Nat := bits (entryWord e 1) 32 14
def entryInputOffset (e : Bytes) : Nat := bits (entryWord e 2) 0 32
def entryResultOffset (e : Bytes) : Nat := bits (entryWord e 2) 32 32
def entryInline (e : Bytes) : Bytes := slice 24 40 e

/-- Reserved fields and encodings of an entry (R246, R247). -/
def entryReserved (e : Bytes) : Bool :=
  decide (entryBody e ≥ 2) || decide (bits (entryWord e 0) 10 2 ≠ 0) || decide (bits (entryWord e 1) 46 18 ≠ 0) ||
    (decide (entryBody e = 0) && (decide (entryLinks e ≠ 0) || decide (bits (entryRef e) 12 20 ≠ 0))) ||
    (decide (entryInputLen e = 0) && decide (entryInputOffset e ≠ 0))

/-- Faults of the entry by itself (R56, R247). -/
def entryOwnFaults (s : State) (q : QueuePair) (e : Bytes) : List Nat :=
  (if entryReserved e then [0x0103] else []) ++
    (if entryDeadline e > s.epochs.config.maxDeadline then [0x0108] else []) ++
    (if inWindow q (entryInputOffset e) (entryInputLen e) then [] else [0x0111]) ++
    (if entryBody e ≠ 1 then []
     else
       (if entryLinks e = 0 ∨ entryLinks e > 32 then [0x0102] else []) ++
         (if entryRef e % 64 ≠ 0 then [0x010E] else []) ++
         (if inWindow q (entryRef e) (descriptorLen (entryLinks e)) then [] else [0x0111]))

/-- The body an entry names (R46): a template's, a descriptor's as it landed, or the fault that there is none. -/
def resolve (s : State) (q : QueuePair) (e : Bytes) : Option Body × List Nat :=
  if entryBody e = 0 then
    let t := SMap.get Template.empty s.epochs.templates (entryRef e % 4096)
    match t.body with
    | some b => if t.owner = q.fn then (some b, []) else (none, [0x0109])
    | none => (none, [0x0109])
  else if entryBody e = 1 then
    match q.descriptor with
    | some (some d) =>
      let b := bodyOfBytes d
      (some b, bodyFaults s.images.firmwareOps b ++ if b.linkCount = entryLinks e then [] else [0x0102])
    | some none => (none, [0x010A])
    | none => (none, [])
  else (none, [])

/-- The effective deadline (R64). -/
def effectiveDeadline (s : State) (e : Bytes) (b : Body) : Nat :=
  if entryDeadline e ≠ 0 then entryDeadline e
  else if b.defaultDeadline ≠ 0 then b.defaultDeadline else s.epochs.config.defaultDeadline

/-- Bytes of the write-back items. -/
def resultLen (b : Body) : Nat := ((List.range b.wbCount).map fun i => refLen (b.wb i)).foldl (· + ·) 0

/-- The checks of a body that depend on the submission, the rights check and the unit check (R55, R215, R247). -/
def submissionFaults (s : State) (q : QueuePair) (e : Bytes) (b : Body) : List Nat :=
  (if effectiveDeadline s e b > s.epochs.config.maxDeadline then [0x0108] else []) ++
    (if entryInputLen e > b.inputBytes then [0x010D] else []) ++
    (if inWindow q (entryResultOffset e) (resultLen b) then [] else [0x0111]) ++
    (if inputNeed b > entryInputLen e then [0x0106] else []) ++
    (if b.groupMask &&& (0xFFF - rightsOf s q.fn) ≠ 0 then [0x0201] else []) ++
    (if b.bufCount > quotaOf s q.fn then [0x0402] else []) ++
    (if (kindsNeeded b).all (kindInService s) then [] else [0x0403])

/-- Every fault of an entry, and its body when it names one. -/
def admissionFaults (s : State) (q : QueuePair) (e : Bytes) : Option Body × List Nat :=
  let r := resolve s q e
  let own := entryOwnFaults s q e ++ r.2
  match r.1 with
  | some b => (some b, own ++ submissionFaults s q e b)
  | none => (none, own)

/-- A Chain is completed at once with a status, when a completion slot can be reserved; otherwise its entry stays. -/
def refuse (port q status : Nat) (e : Bytes) (s : State) : State :=
  if cqFree (getQp s q) then fetchQp q 2048 (consume q (queueRefusal q (entryTag e) status s))
  else turnTaken port q s

/-! ### Reservations (R177, R178, R196, R214) -/

/-- The lowest free Chain context. -/
def freeContext (s : State) : Option Nat :=
  if s.disp.chains.length ≥ 16384 then none
  else (List.range (s.disp.chains.length + 1)).find? fun c => (SMap.find s.disp.chains c).isNone

/-- A pool takes a part of an estimate: within its cap, or when it holds nothing. -/
def poolTakes (held cap part : Nat) : Bool := decide (held = 0) || decide (held + part ≤ cap)

/-- The commit pools take an estimate. -/
def energyFits (s : State) (b : Body) : Bool :=
  let e := estimate b
  poolTakes s.energy.smallPool (bucketCapacity s / 4) e.1 && poolTakes s.energy.largePool (bucketCapacity s) e.2

/-- The context of an admitted Chain (R55, R64, R177). -/
def newChain (s : State) (q : Nat) (x : QueuePair) (e : Bytes) (b : Body) (bs : List Nat) : Chain :=
  let est := estimate b
  { body := b, epoch := s.epochs.current.toNat, qp := q, fn := x.fn, tag := entryTag e, prio := entryPrio e,
    expiry := s.disp.tick + effectiveDeadline s e b, admSeq := s.disp.admSeq, inlineArea := entryInline e,
    inputAddr := x.winBase * 4096 + entryInputOffset e, inputLen := entryInputLen e,
    inputLanded := decide (entryInputLen e = 0), resultAddr := x.winBase * 4096 + entryResultOffset e, buffers := bs,
    links := b.links.map fun _ => LinkRun.pending, requested := [], keys := [], status := 0, firstFail := 0xFF,
    debug := s.modes.word.debugOpen, small := est.1, large := est.2, uses := 0, closed := false, revoked := false,
    finished := false, writtenBack := false, wbSent := 0, waitRecords := [], waitPages := [], waitEvent := 0 }

/-- The Chain takes its context, its completion slot, its buffers and its estimate; its input is fetched and its Links
are scanned. -/
def admitChain (port q c : Nat) (x : QueuePair) (e : Bytes) (b : Body) (bs : List Nat) (s : State) : State :=
  let ch := newChain s q x e b bs
  let s := if bs.isEmpty then s else takeGrant port (chainTag c) bs s
  let s := putChain c ch s
  let s := { s with
    disp := { s.disp with admSeq := s.disp.admSeq + 1 }
    energy := { s.energy with smallPool := s.energy.smallPool + ch.small, largePool := s.energy.largePool + ch.large } }
  let s := if x.fn = 0 then s else modifyInst x.fn (fun i => { i with chains := i.chains + 1 }) s
  let s := modifyQp q (fun y => { y with cqReserved := y.cqReserved + 1 }) s
  let s := if ch.inputLen = 0 then s else requestRead (.input c) x.fn ch.inputAddr ch.inputLen s
  fetchQp q 2048 (consume q (rescan c s))

/-- The reservations of R214: all, or none; a grant for nothing is wasted (R219), and NONE passes the queue pair over (R244). -/
def reserve (port q : Nat) (x : QueuePair) (e : Bytes) (b : Body) (s : State) : State :=
  match allocate s x.fn b.bufCount with
  | none => countNone port (passOver port q s)
  | some bs =>
    match freeContext s with
    | some c =>
      if cqFree x && energyFits s b then admitChain port q c x e b bs s
      else if bs.isEmpty then s else wasteGrant port x.fn bs s
    | none => if bs.isEmpty then s else wasteGrant port x.fn bs s

/-- One entry is taken through the steps of R55. -/
def offer (port q : Nat) (x : QueuePair) (e : Bytes) (s : State) : State :=
  let s := turnTaken port q s
  if !s.modes.word.service then refuse port q (serviceRefusal s) e s
  else
    let r := admissionFaults s x e
    match lowest r.2 with
    | some status =>
      match r.1 with
      | some b => refuse port q status e (withdrawRequest port x.fn b.bufCount s)
      | none => refuse port q status e s
    | none =>
      match r.1 with
      | some b => reserve port q x e b s
      | none => s

/-- An admission cycle of a port: the entry whose turn it is, when there is one. -/
def admissionCycle (s : State) (port : Nat) : State :=
  let s := runHints port s
  match turnOf s port with
  | none => s
  | some (q, x) =>
    match x.fetched with
    | [] => s
    | e :: _ => offer port q x e s

/-- The ports that a row names, in the order in which the allocator serves them (R217): 0 or 1, or 2 for both in one cycle, from the port
after the one it granted last. -/
def portsServed (s : State) (ports : Nat) : List Nat :=
  if ports < 2 then [ports] else if ports ≠ 2 then [] else if s.flow.lastPort = some 0 then [1, 0] else [0, 1]

/-- CHAIN_ADMISSION (R55, R175): nothing is taken while LOCKED is set, in DOZE, or without an entry to offer. -/
def execChainAdmission (port : Nat) (s : State) : Host.Outcome State Fault Refusal :=
  if lockedNow s || s.modes.word.doze then complete s
  else complete ((portsServed s port).foldl admissionCycle s)

end Sys2Proof.Machine
end

