-- ==== Sys2Proof/Machine/Dictionary.lean ====
section
/-!
DEFINITION. The object dictionary: its entries with their types and access, the paths that reach it, and the checks a
request passes before it has an effect (R276, R277, R419, R496, R503, R508 to R515, R529, R530).
-/
namespace Sys2Proof.Machine

/-! ### Types and access (R510, R512) -/

/-- The type of an entry, as far as it fixes the bytes of a value: an integer, exact bytes, or a chunk of 5 to n bytes. -/
inductive EntryType
  | bool
  | int (bytes : Nat)
  | octets (n : Nat)
  | chunk (n : Nat)
  deriving DecidableEq, Repr

/-- The Access column of an entry. -/
structure Access where
  read : Bool
  write : Bool
  m : Bool
  c : Bool
  t : Bool
  d : Bool
  deriving DecidableEq, Repr

/-- An entry: its sub-index, type and access. -/
structure Entry where
  sub : Nat
  type : EntryType
  access : Access
  deriving DecidableEq, Repr

/-- RO, C. -/
def Access.roC : Access := { read := true, write := false, m := false, c := true, t := false, d := false }
/-- RO, M. -/
def Access.roM : Access := { read := true, write := false, m := true, c := false, t := false, d := false }
/-- RO, M, C. -/
def Access.roMC : Access := { read := true, write := false, m := true, c := true, t := false, d := false }
/-- RO, M, C, T. -/
def Access.roMCT : Access := { read := true, write := false, m := true, c := true, t := true, d := false }
/-- RO, M, T. -/
def Access.roMT : Access := { read := true, write := false, m := true, c := false, t := true, d := false }
/-- RO, T. -/
def Access.roT : Access := { read := true, write := false, m := false, c := false, t := true, d := false }
/-- RW, C. -/
def Access.rwC : Access := { read := true, write := true, m := false, c := true, t := false, d := false }
/-- RW, C, D. -/
def Access.rwCD : Access := { read := true, write := true, m := false, c := true, t := false, d := true }
/-- RW, M. -/
def Access.rwM : Access := { read := true, write := true, m := true, c := false, t := false, d := false }
/-- RW, M, C. -/
def Access.rwMC : Access := { read := true, write := true, m := true, c := true, t := false, d := false }
/-- RW, M, T. -/
def Access.rwMT : Access := { read := true, write := true, m := true, c := false, t := true, d := false }
/-- RW, T. -/
def Access.rwT : Access := { read := true, write := true, m := false, c := false, t := true, d := false }
/-- WO, C. -/
def Access.woC : Access := { read := false, write := true, m := false, c := true, t := false, d := false }
/-- WO, C, D. -/
def Access.woCD : Access := { read := false, write := true, m := false, c := true, t := false, d := true }
/-- WO, M. -/
def Access.woM : Access := { read := false, write := true, m := true, c := false, t := false, d := false }
/-- WO, M, C. -/
def Access.woMC : Access := { read := false, write := true, m := true, c := true, t := false, d := false }
/-- WO, M, T. -/
def Access.woMT : Access := { read := false, write := true, m := true, c := false, t := true, d := false }

/-- Entries of OD 0x1000. -/
def od1000 : List Entry :=
  [⟨0x01, (.octets 16), Access.roT⟩, ⟨0x02, (.octets 16), Access.roT⟩, ⟨0x03, (.int 1), Access.roT⟩,
   ⟨0x04, (.int 8), Access.roT⟩, ⟨0x05, (.int 4), Access.roT⟩, ⟨0x06, (.int 4), Access.roMC⟩,
   ⟨0x07, (.int 2), Access.roT⟩, ⟨0x08, (.int 2), Access.roT⟩, ⟨0x09, (.int 2), Access.roT⟩,
   ⟨0x0A, (.int 2), Access.roT⟩, ⟨0x0B, (.int 8), Access.roT⟩, ⟨0x0C, (.int 4), Access.roT⟩,
   ⟨0x0D, (.octets 97), Access.roT⟩, ⟨0x0E, (.octets 97), Access.roMC⟩, ⟨0x0F, (.int 1), Access.roT⟩,
   ⟨0x10, (.int 1), Access.roMC⟩, ⟨0x11, (.int 1), Access.rwMC⟩, ⟨0x12, (.int 2), Access.roMC⟩,
   ⟨0x13, (.octets 2048), Access.roMC⟩, ⟨0x14, (.chunk 228), Access.woM⟩, ⟨0x15, (.octets 17), Access.woM⟩,
   ⟨0x16, (.int 1), Access.roM⟩, ⟨0x17, (.octets 64), Access.rwMC⟩]

/-- Entries of OD 0x1001. -/
def od1001 : List Entry :=
  [⟨0x01, (.int 2), Access.roT⟩, ⟨0x02, (.int 4), Access.rwMC⟩, ⟨0x03, .bool, Access.rwMC⟩,
   ⟨0x04, (.int 2), Access.roT⟩, ⟨0x05, (.int 1), Access.roMC⟩]

/-- Entries of OD 0x1100. -/
def od1100 : List Entry :=
  [⟨0x01, (.int 1), Access.roT⟩, ⟨0x02, (.octets 32), Access.roMC⟩, ⟨0x03, (.int 1), Access.roMC⟩,
   ⟨0x04, (.int 1), Access.woCD⟩, ⟨0x05, (.int 1), Access.roC⟩, ⟨0x06, (.int 1), Access.woCD⟩,
   ⟨0x07, (.int 1), Access.roC⟩, ⟨0x08, (.int 4), Access.roMC⟩, ⟨0x09, (.int 1), Access.roMC⟩]

/-- Entries of OD 0x1200. -/
def od1200 : List Entry :=
  [⟨0x01, (.int 4), Access.roT⟩, ⟨0x02, (.int 4), Access.roT⟩, ⟨0x03, (.int 8), Access.roT⟩,
   ⟨0x04, .bool, Access.rwM⟩, ⟨0x05, (.int 4), Access.rwM⟩, ⟨0x06, (.int 4), Access.rwM⟩,
   ⟨0x07, (.int 4), Access.rwM⟩, ⟨0x08, (.int 1), Access.rwM⟩]

/-- Entries of OD 0x2000. -/
def od2000 : List Entry :=
  [⟨0x01, (.int 2), Access.roM⟩, ⟨0x02, (.int 2), Access.rwMC⟩, ⟨0x03, (.int 2), Access.roM⟩,
   ⟨0x04, (.int 4), Access.roM⟩, ⟨0x05, (.int 4), Access.roM⟩, ⟨0x06, (.int 2), Access.roM⟩,
   ⟨0x07, (.int 2), Access.roM⟩, ⟨0x08, (.int 1), Access.roM⟩, ⟨0x09, (.int 4), Access.roT⟩,
   ⟨0x0A, (.int 4), Access.roM⟩, ⟨0x0B, (.int 8), Access.roM⟩, ⟨0x0C, (.int 8), Access.roM⟩,
   ⟨0x0D, (.int 4), Access.roM⟩, ⟨0x0E, (.int 4), Access.roM⟩, ⟨0x0F, (.int 4), Access.roM⟩,
   ⟨0x10, (.int 1), Access.roM⟩]

/-- Entries of OD 0x2100. -/
def od2100 : List Entry :=
  [⟨0x01, (.int 4), Access.rwM⟩, ⟨0x02, (.int 4), Access.rwM⟩, ⟨0x03, (.int 2), Access.roT⟩,
   ⟨0x04, (.int 2), Access.roT⟩, ⟨0x05, (.int 1), Access.woMC⟩, ⟨0x06, (.int 1), Access.roM⟩,
   ⟨0x07, (.int 8), Access.roM⟩, ⟨0x08, (.int 8), Access.roT⟩, ⟨0x09, (.int 2), Access.roM⟩,
   ⟨0x0A, (.int 2), Access.roM⟩, ⟨0x0B, (.int 4), Access.roM⟩]

/-- Entries of OD 0x2101. -/
def od2101 : List Entry :=
  [⟨0x01, (.int 4), Access.rwM⟩, ⟨0x02, (.int 4), Access.rwM⟩, ⟨0x03, (.int 4), Access.rwM⟩,
   ⟨0x04, (.int 4), Access.rwM⟩, ⟨0x05, (.int 8), Access.roM⟩, ⟨0x06, (.int 8), Access.roM⟩,
   ⟨0x07, (.int 8), Access.roM⟩]

/-- Entries of OD 0x2102. -/
def od2102 : List Entry :=
  [⟨0x01, (.int 2), Access.rwM⟩, ⟨0x02, (.int 2), Access.rwM⟩, ⟨0x03, (.int 8), Access.rwM⟩,
   ⟨0x04, (.int 2), Access.rwM⟩, ⟨0x05, (.int 1), Access.woM⟩, ⟨0x06, (.int 2), Access.roM⟩]

/-- Entries of OD 0x2103. -/
def od2103 : List Entry :=
  [⟨0x01, (.int 1), Access.roT⟩, ⟨0x02, (.int 2), Access.roM⟩, ⟨0x03, (.int 4), Access.rwM⟩,
   ⟨0x04, (.int 4), Access.roM⟩, ⟨0x05, (.int 4), Access.roM⟩, ⟨0x06, (.int 8), Access.roM⟩,
   ⟨0x07, (.int 8), Access.roM⟩]

/-- Entries of OD 0x2200. -/
def od2200 : List Entry :=
  [⟨0x01, (.int 4), Access.rwM⟩, ⟨0x02, (.int 4), Access.rwM⟩, ⟨0x03, (.int 2), Access.rwM⟩,
   ⟨0x04, (.int 2), Access.rwM⟩, ⟨0x10, (.int 4), Access.rwM⟩, ⟨0x11, (.int 4), Access.rwM⟩,
   ⟨0x12, (.int 4), Access.rwM⟩, ⟨0x13, (.int 4), Access.rwM⟩, ⟨0x14, (.int 4), Access.rwM⟩,
   ⟨0x15, (.int 1), Access.rwM⟩, ⟨0x16, (.int 1), Access.rwM⟩, ⟨0x17, (.int 1), Access.rwM⟩,
   ⟨0x18, (.octets 64), Access.roM⟩, ⟨0x20, (.int 2), Access.rwM⟩, ⟨0x21, (.int 2), Access.rwM⟩,
   ⟨0x22, (.int 4), Access.rwM⟩, ⟨0x30, (.int 8), Access.roM⟩, ⟨0x31, (.int 8), Access.roM⟩,
   ⟨0x32, (.int 4), Access.roM⟩, ⟨0x33, (.int 1), Access.roM⟩, ⟨0x34, (.int 4), Access.roM⟩]

/-- Entries of OD 0x3000. -/
def od3000 : List Entry :=
  [⟨0x01, (.int 4), Access.roT⟩, ⟨0x02, (.int 4), Access.roM⟩, ⟨0x03, (.int 4), Access.roM⟩,
   ⟨0x04, (.int 4), Access.roM⟩, ⟨0x05, (.int 4), Access.roM⟩, ⟨0x06, (.int 4), Access.rwM⟩,
   ⟨0x07, (.int 8), Access.roM⟩, ⟨0x08, (.int 8), Access.roM⟩, ⟨0x09, (.int 8), Access.roM⟩,
   ⟨0x0A, (.int 2), Access.roM⟩, ⟨0x0B, (.int 1), Access.woCD⟩, ⟨0x0C, (.int 1), Access.roC⟩]

/-- Entries of OD 0x3001. -/
def od3001 : List Entry :=
  [⟨0x01, (.int 4), Access.rwMT⟩, ⟨0x02, (.int 1), Access.roMT⟩, ⟨0x03, (.int 8), Access.roMT⟩,
   ⟨0x04, (.octets 3), Access.roMT⟩, ⟨0x05, (.int 1), Access.woMT⟩, ⟨0x06, (.int 1), Access.roMT⟩]

/-- Entries of OD 0x3002. -/
def od3002 : List Entry :=
  [⟨0x01, (.int 1), Access.rwMC⟩, ⟨0x02, (.int 1), Access.roMC⟩, ⟨0x03, (.int 8), Access.roMC⟩,
   ⟨0x04, (.octets 3), Access.roMC⟩]

/-- Entries of OD 0x3003. -/
def od3003 : List Entry :=
  [⟨0x01, (.int 1), Access.rwC⟩, ⟨0x02, (.int 8), Access.rwC⟩, ⟨0x03, (.int 1), Access.rwC⟩,
   ⟨0x04, (.octets 40), Access.woCD⟩, ⟨0x05, (.octets 3), Access.roC⟩, ⟨0x06, (.int 1), Access.woCD⟩,
   ⟨0x07, (.int 1), Access.roC⟩]

/-- Entries of OD 0x3100. -/
def od3100 : List Entry :=
  [⟨0x01, (.int 1), Access.roM⟩, ⟨0x02, (.int 1), Access.roM⟩, ⟨0x03, (.int 8), Access.roM⟩,
   ⟨0x04, (.int 2), Access.roM⟩, ⟨0x05, (.int 8), Access.roM⟩, ⟨0x06, (.int 8), Access.roM⟩,
   ⟨0x07, (.int 8), Access.roM⟩, ⟨0x08, (.int 8), Access.roM⟩, ⟨0x09, (.int 8), Access.roM⟩,
   ⟨0x0A, (.octets 32), Access.roM⟩, ⟨0x0B, (.int 1), Access.rwC⟩, ⟨0x0C, (.int 2), Access.roT⟩,
   ⟨0x0D, (.int 2), Access.roT⟩]

/-- Entries of OD 0x3200. -/
def od3200 : List Entry :=
  [⟨0x01, (.int 2), Access.rwM⟩, ⟨0x02, (.int 1), Access.roT⟩, ⟨0x03, (.int 1), Access.roT⟩,
   ⟨0x04, (.int 4), Access.roM⟩, ⟨0x05, (.int 1), Access.roM⟩, ⟨0x06, (.int 8), Access.roM⟩,
   ⟨0x07, (.int 8), Access.roM⟩, ⟨0x08, (.int 8), Access.roM⟩, ⟨0x09, (.int 8), Access.roM⟩,
   ⟨0x0A, (.int 8), Access.roM⟩]

/-- Entries of OD 0x3310. -/
def od3310 : List Entry :=
  [⟨0x01, (.octets 8), Access.rwCD⟩, ⟨0x02, (.octets 8), Access.rwCD⟩, ⟨0x03, (.octets 8), Access.rwCD⟩,
   ⟨0x04, (.octets 8), Access.rwCD⟩, ⟨0x05, (.octets 8), Access.rwCD⟩, ⟨0x06, (.octets 8), Access.rwCD⟩,
   ⟨0x07, (.octets 8), Access.rwCD⟩, ⟨0x08, (.octets 8), Access.rwCD⟩]

/-- Entries of OD 0x3311. -/
def od3311 : List Entry :=
  [⟨0x01, .bool, Access.rwCD⟩]

/-- Entries of OD 0x4000. -/
def od4000 : List Entry :=
  [⟨0x01, (.int 1), Access.roM⟩, ⟨0x02, (.int 1), Access.roM⟩, ⟨0x03, (.int 4), Access.roT⟩,
   ⟨0x04, (.int 4), Access.rwM⟩, ⟨0x06, (.int 8), Access.roM⟩, ⟨0x07, (.int 4), Access.roM⟩,
   ⟨0x08, (.int 4), Access.roM⟩, ⟨0x09, (.int 8), Access.roM⟩, ⟨0x0A, (.int 8), Access.roM⟩]

/-- Entries of OD 0x4010. -/
def od4010 : List Entry :=
  [⟨0x01, (.int 2), Access.roM⟩, ⟨0x02, (.int 4), Access.roM⟩, ⟨0x03, (.int 4), Access.roM⟩]

/-- Entries of OD 0x4020. -/
def od4020 : List Entry :=
  [⟨0x01, (.int 2), Access.rwM⟩, ⟨0x02, (.int 2), Access.rwM⟩, ⟨0x03, (.int 2), Access.rwM⟩,
   ⟨0x04, (.int 8), Access.rwM⟩, ⟨0x05, (.int 8), Access.rwM⟩, ⟨0x06, (.int 8), Access.rwM⟩,
   ⟨0x07, (.int 2), Access.rwM⟩, ⟨0x08, (.int 2), Access.rwM⟩, ⟨0x09, (.int 2), Access.rwM⟩,
   ⟨0x0A, (.int 2), Access.rwM⟩, ⟨0x0B, (.int 1), Access.woM⟩, ⟨0x0C, (.int 1), Access.roM⟩,
   ⟨0x0D, (.octets 64), Access.roM⟩]

/-- Entries of OD 0x4030. -/
def od4030 : List Entry :=
  [⟨0x01, (.int 1), Access.roM⟩, ⟨0x02, .bool, Access.rwCD⟩, ⟨0x03, (.int 4), Access.roM⟩]

/-- Entries of OD 0x4100. -/
def od4100 : List Entry :=
  [⟨0x01, (.int 2), Access.rwM⟩, ⟨0x02, (.int 4), Access.rwM⟩, ⟨0x03, (.int 2), Access.rwM⟩,
   ⟨0x04, (.int 4), Access.rwM⟩, ⟨0x05, (.int 4), Access.rwM⟩, ⟨0x06, (.int 4), Access.rwM⟩,
   ⟨0x07, (.int 2), Access.rwM⟩, ⟨0x08, (.int 2), Access.rwM⟩, ⟨0x09, (.int 1), Access.woM⟩,
   ⟨0x0A, (.int 1), Access.roM⟩, ⟨0x0B, (.int 2), Access.roM⟩, ⟨0x0C, (.int 4), Access.roM⟩,
   ⟨0x0D, (.int 4), Access.roM⟩, ⟨0x0E, (.int 4), Access.roM⟩, ⟨0x0F, (.int 2), Access.roM⟩]

/-- Entries of OD 0x5000 + n − 1. -/
def od5000 : List Entry :=
  [⟨0x01, (.int 1), Access.roMT⟩, ⟨0x02, (.int 4), Access.roMT⟩, ⟨0x03, (.int 2), Access.roMT⟩,
   ⟨0x04, (.int 4), Access.roMT⟩, ⟨0x05, (.int 4), Access.roMT⟩, ⟨0x06, (.int 4), Access.roMT⟩,
   ⟨0x07, (.int 2), Access.roMT⟩, ⟨0x08, (.int 2), Access.roMT⟩, ⟨0x09, (.int 2), Access.roMT⟩,
   ⟨0x0A, (.int 4), Access.roMT⟩, ⟨0x0B, (.int 4), Access.roMT⟩, ⟨0x0C, (.int 8), Access.roMT⟩,
   ⟨0x0D, (.int 8), Access.roMT⟩, ⟨0x0E, (.int 8), Access.roMT⟩, ⟨0x0F, (.int 4), Access.roMT⟩,
   ⟨0x10, (.int 2), Access.roMT⟩, ⟨0x11, (.octets 32), Access.rwT⟩]

/-- Entries of OD 0x6000. -/
def od6000 : List Entry :=
  [⟨0x01, (.int 4), Access.roMC⟩, ⟨0x02, (.int 4), Access.roMC⟩, ⟨0x03, (.int 4), Access.woCD⟩,
   ⟨0x04, (.int 1), Access.roC⟩, ⟨0x05, (.int 1), Access.rwCD⟩, ⟨0x06, .bool, Access.rwCD⟩,
   ⟨0x07, (.int 4), Access.roMC⟩, ⟨0x08, (.int 4), Access.roMC⟩, ⟨0x09, (.int 8), Access.roMC⟩,
   ⟨0x0A, (.int 1), Access.roMC⟩, ⟨0x0B, (.int 4), Access.roMC⟩]

/-- Entries of OD 0x6100. -/
def od6100 : List Entry :=
  [⟨0x01, (.int 1), Access.roMC⟩, ⟨0x02, (.octets 128), Access.roMC⟩, ⟨0x03, (.int 1), Access.rwMC⟩,
   ⟨0x04, (.octets 64), Access.roMC⟩, ⟨0x05, (.int 1), Access.woM⟩, ⟨0x06, (.int 1), Access.roM⟩,
   ⟨0x07, (.octets 136), Access.roM⟩, ⟨0x08, (.int 4), Access.rwM⟩, ⟨0x09, (.int 4), Access.roM⟩,
   ⟨0x0A, (.int 4), Access.rwM⟩, ⟨0x0B, (.int 2), Access.roMC⟩, ⟨0x0C, (.int 8), Access.roMC⟩,
   ⟨0x0D, .bool, Access.roT⟩]

/-- Entries of OD 0x6200. -/
def od6200 : List Entry :=
  [⟨0x01, (.int 4), Access.roMC⟩, ⟨0x02, (.int 4), Access.roMC⟩, ⟨0x03, (.int 4), Access.rwMC⟩,
   ⟨0x04, (.octets 64), Access.roMC⟩, ⟨0x05, (.octets 64), Access.roMC⟩, ⟨0x06, (.int 1), Access.woMC⟩,
   ⟨0x07, (.octets 192), Access.roMC⟩, ⟨0x08, .bool, Access.roMC⟩, ⟨0x09, (.int 1), Access.woCD⟩,
   ⟨0x0A, (.int 1), Access.roC⟩, ⟨0x0B, (.int 8), Access.roM⟩, ⟨0x0C, (.int 2), Access.rwC⟩,
   ⟨0x0D, (.int 2), Access.roM⟩, ⟨0x0E, (.int 4), Access.roMC⟩]

/-- Entries of OD 0x6300. -/
def od6300 : List Entry :=
  [⟨0x01, (.int 4), Access.roMC⟩, ⟨0x02, (.int 4), Access.roMC⟩, ⟨0x03, (.int 4), Access.rwMC⟩,
   ⟨0x04, (.octets 256), Access.roMC⟩, ⟨0x05, (.int 1), Access.woMC⟩, ⟨0x06, (.octets 192), Access.roMC⟩,
   ⟨0x07, .bool, Access.roMC⟩, ⟨0x08, (.int 1), Access.woCD⟩, ⟨0x09, (.int 1), Access.roC⟩,
   ⟨0x0A, .bool, Access.roMT⟩, ⟨0x0B, (.int 8), Access.roT⟩]

/-- Entries of OD 0x7000. -/
def od7000 : List Entry :=
  [⟨0x01, (.int 1), Access.roMCT⟩, ⟨0x02, (.int 1), Access.roMC⟩, ⟨0x03, (.int 8), Access.roMC⟩,
   ⟨0x04, (.int 1), Access.roT⟩, ⟨0x05, (.int 8), Access.roMC⟩, ⟨0x06, (.int 1), Access.roMC⟩,
   ⟨0x07, (.int 1), Access.roMC⟩, ⟨0x08, (.int 1), Access.roM⟩, ⟨0x09, (.int 1), Access.woM⟩,
   ⟨0x0A, (.int 1), Access.roM⟩, ⟨0x0B, (.int 4), Access.rwM⟩, ⟨0x0C, (.int 4), Access.roMC⟩,
   ⟨0x0D, (.int 8), Access.roMC⟩, ⟨0x0E, (.int 8), Access.roM⟩, ⟨0x0F, (.int 8), Access.roM⟩,
   ⟨0x10, (.int 4), Access.roM⟩, ⟨0x11, (.int 4), Access.roM⟩, ⟨0x12, (.int 8), Access.roM⟩,
   ⟨0x13, (.int 8), Access.roM⟩]

/-- Entries of OD 0x7100. -/
def od7100 : List Entry :=
  [⟨0x01, (.int 8), Access.roT⟩, ⟨0x02, (.int 2), Access.roT⟩, ⟨0x03, (.int 1), Access.woCD⟩,
   ⟨0x04, (.int 1), Access.roC⟩, ⟨0x05, (.octets 97), Access.rwCD⟩, ⟨0x06, (.int 8), Access.rwCD⟩,
   ⟨0x07, (.int 2), Access.rwCD⟩, ⟨0x08, (.octets 192), Access.roC⟩, ⟨0x09, (.octets 192), Access.rwCD⟩,
   ⟨0x0A, (.int 2), Access.roMC⟩]

/-- Entries of OD 0x7800. -/
def od7800 : List Entry :=
  [⟨0x01, (.octets 6), Access.roMC⟩, ⟨0x02, (.int 1), Access.rwCD⟩, ⟨0x03, (.int 1), Access.rwCD⟩,
   ⟨0x05, (.int 1), Access.roMC⟩, ⟨0x06, (.int 1), Access.roMC⟩, ⟨0x07, (.int 1), Access.roMC⟩,
   ⟨0x08, (.int 4), Access.roMC⟩, ⟨0x09, (.int 2), Access.rwC⟩, ⟨0x0A, (.int 1), Access.roMC⟩,
   ⟨0x0B, (.int 8), Access.roMC⟩, ⟨0x0C, (.int 4), Access.roMC⟩]

/-- Entries of OD 0x7801. -/
def od7801 : List Entry :=
  [⟨0x01, (.int 1), Access.rwC⟩, ⟨0x02, (.int 1), Access.roMC⟩, ⟨0x03, (.octets 16), Access.roMC⟩,
   ⟨0x04, (.octets 3), Access.roMC⟩, ⟨0x05, (.int 1), Access.woCD⟩]

/-- Entries of OD 0x7810. -/
def od7810 : List Entry :=
  [⟨0x01, (.int 1), Access.woCD⟩, ⟨0x02, (.int 1), Access.roMC⟩, ⟨0x03, (.int 1), Access.woC⟩,
   ⟨0x04, (.int 1), Access.roC⟩]

/-- Entries of OD 0x8000. -/
def od8000 : List Entry :=
  [⟨0x01, .bool, Access.rwCD⟩, ⟨0x02, (.int 4), Access.rwM⟩, ⟨0x03, (.int 4), Access.rwM⟩,
   ⟨0x04, (.octets 40), Access.roM⟩, ⟨0x05, (.octets 20), Access.roM⟩, ⟨0x06, (.int 8), Access.roM⟩,
   ⟨0x07, (.int 1), Access.roM⟩, ⟨0x08, (.octets 128), Access.roM⟩, ⟨0x09, (.octets 40), Access.roM⟩,
   ⟨0x0A, (.int 2), Access.roM⟩, ⟨0x0B, (.int 2), Access.roM⟩]

/-- Entries of OD 0x8010. -/
def od8010 : List Entry :=
  [⟨0x01, (.int 1), Access.rwM⟩, ⟨0x02, (.octets 128), Access.roM⟩, ⟨0x03, (.octets 24), Access.roM⟩,
   ⟨0x04, (.octets 96), Access.roM⟩, ⟨0x05, (.octets 16), Access.roM⟩]

/-- Entries of OD 0x8020. -/
def od8020 : List Entry :=
  [⟨0x01, (.int 8), Access.roM⟩, ⟨0x02, (.int 8), Access.roM⟩, ⟨0x03, (.int 4), Access.roM⟩,
   ⟨0x04, (.int 4), Access.roM⟩, ⟨0x05, (.int 2), Access.roM⟩, ⟨0x06, (.int 2), Access.roM⟩]

/-- Entries of OD 0x9000. -/
def od9000 : List Entry :=
  [⟨0x01, (.int 1), Access.roMC⟩, ⟨0x02, (.int 1), Access.roMC⟩, ⟨0x03, (.int 1), Access.roMC⟩,
   ⟨0x04, (.int 1), Access.roMC⟩, ⟨0x05, (.int 8), Access.rwM⟩, ⟨0x06, (.int 4), Access.rwMC⟩,
   ⟨0x07, (.int 1), Access.woMC⟩, ⟨0x08, (.chunk 228), Access.woMC⟩, ⟨0x09, (.int 4), Access.rwM⟩,
   ⟨0x0A, (.int 1), Access.roMC⟩, ⟨0x0B, (.int 8), Access.roT⟩, ⟨0x0C, (.int 1), Access.roT⟩,
   ⟨0x0D, (.int 1), Access.roT⟩, ⟨0x0E, (.int 8), Access.roMC⟩, ⟨0x0F, (.int 1), Access.woCD⟩,
   ⟨0x10, (.int 1), Access.roC⟩]

/-- Every index that is defined on every grade, with its entries. -/
def odIndex : List (Nat × List Entry) :=
  [(0x1000, od1000), (0x1001, od1001), (0x1100, od1100), (0x1200, od1200), (0x2000, od2000), (0x2100, od2100),
   (0x2101, od2101), (0x2102, od2102), (0x2103, od2103), (0x2200, od2200), (0x3000, od3000), (0x3001, od3001),
   (0x3002, od3002), (0x3003, od3003), (0x3100, od3100), (0x3200, od3200), (0x3310, od3310), (0x3311, od3311),
   (0x4000, od4000), (0x4010, od4010), (0x4020, od4020), (0x4030, od4030), (0x4100, od4100), (0x6000, od6000),
   (0x6100, od6100), (0x6200, od6200), (0x6300, od6300), (0x7000, od7000), (0x7100, od7100), (0x7800, od7800),
   (0x7801, od7801), (0x7810, od7810), (0x8000, od8000), (0x8010, od8010), (0x8020, od8020), (0x9000, od9000)]

/-! ### Entries by address (R283, R371, R508, R509, R531) -/

/-- The index of the record of instance 1. -/
def instIndex : Nat := 0x5000

/-- The entries of an index; counters of Fife cores and records of instances exist for the grade's units. -/
def entriesOf (s : State) (index : Nat) : Option (List Entry) :=
  if index = 0x2104 then some ((List.range (coreCount s)).map fun n => ⟨n + 1, .octets 80, Access.roM⟩)
  else if 0x5000 ≤ index ∧ index < 0x5000 + instCount s then some od5000
  else (odIndex.find? fun x => decide (x.1 = index)).map (·.2)

/-- The highest sub-index of an index. -/
def lastSub (es : List Entry) : Nat := es.foldl (fun m e => max m e.sub) 0

/-- An entry reaches a path (R279, R512, R513): tenants see T entries, and of the instance records their own. -/
def visible (path : Path) (index : Nat) (a : Access) : Bool :=
  match path with
  | .custody => a.c || a.t
  | .mailbox 0 => a.m || a.t
  | .mailbox fn => a.t && !(decide (0x5000 ≤ index) && decide (index < 0x5400) && decide (index ≠ 0x5000 + fn - 1))

/-- The entry of an address as a path sees it: `none` stands for no such entry. Sub-index 0 is RO, for every path that can
read some sub-index. -/
def entryFor (s : State) (path : Path) (index sub : Nat) : Option Entry :=
  match entriesOf s index with
  | none => none
  | some es =>
    if sub = 0 then
      if es.any fun e => visible path index e.access && e.access.read then some ⟨0, .int 1, Access.roMCT⟩ else none
    else
      match es.find? fun e => decide (e.sub = sub) with
      | some e => if visible path index e.access then some e else none
      | none => none

/-- The key of a path's own values (R521). -/
def pathKey : Path → Nat
  | .mailbox fn => fn
  | .custody => 0xFFFF

/-- A path's own values. -/
def pathSel (s : State) (path : Path) : PathSel := SMap.get PathSel.reset s.dict.paths (pathKey path)

/-- Changes a path's own values. -/
def modifyPath (path : Path) (f : PathSel → PathSel) (s : State) : State :=
  { s with dict := { s.dict with paths := SMap.modify PathSel.reset s.dict.paths (pathKey path) f } }

/-! ### Who may write (R279, R503, R513, R514, R529, R530) -/

/-- A tenant's writable entries. -/
def tenantWrites (fn index sub : Nat) : Bool :=
  (decide (index = 0x5000 + fn - 1) && decide (sub = 0x11)) || (decide (index = 0x3001) && (decide (sub = 1) || decide (sub = 5)))

/-- The ceremonies within which an entry accepts writes; none for an entry that needs no ceremony. -/
def ceremoniesOf (index sub : Nat) : List Nat :=
  match index, sub with
  | 0x6000, 0x03 => [1]
  | 0x6000, 0x05 => [1, 4]
  | 0x6000, 0x06 => [1, 4]
  | 0x6200, 0x09 => [1, 6]
  | 0x6300, 0x08 => [1, 7]
  | 0x3003, 0x04 => [2]
  | 0x3003, 0x06 => [2]
  | 0x7801, 0x05 => [3]
  | 0x1100, 0x06 => [5]
  | 0x9000, 0x0F => [8]
  | 0x3000, 0x0B => [9]
  | 0x1100, 0x04 => [10]
  | 0x7100, 0x03 => [11]
  | 0x7100, 0x05 => [11]
  | 0x7100, 0x06 => [11]
  | 0x7100, 0x07 => [11]
  | 0x7100, 0x09 => [11]
  | _, _ => []

/-- The stored board data is all zero (R530). -/
def boardBlank (s : State) : Bool := s.dict.board.all fun b => b == 0

/-- A write's conditions hold: path, dual presence, an open ceremony, and what R529, R422, R481 and R530 add. -/
def writePermitted (s : State) (path : Path) (index sub : Nat) (value : Bytes) (a : Access) : Bool :=
  let tenant := match path with
    | .mailbox 0 => true
    | .mailbox fn => tenantWrites fn index sub
    | .custody => true
  let officer := decide (path = .custody)
  let cs := ceremoniesOf index sub
  let special :=
    if index = 0x1000 ∧ sub = 0x17 then if officer then s.custody.dual else boardBlank s
    else if index = 0x9000 ∧ sub = 0x07 ∧ value = [1] then !officer
    else if index = 0x6200 ∧ sub = 0x06 ∧ value = [2] then officer
    else true
  a.write && tenant && (!a.d || s.custody.dual) && (cs.isEmpty || cs.contains s.custody.ceremony) && special

/-! ### Values (R510, R511) -/

/-- The length of a value fits its type. -/
def EntryType.fits (t : EntryType) (n : Nat) : Bool :=
  match t with
  | .bool => decide (n = 1)
  | .int k => decide (n = k)
  | .octets k => decide (n = k)
  | .chunk k => decide (5 ≤ n) && decide (n ≤ k)

/-- Grade minimum of the power limit, in 0.1 W (R188). -/
def powerMinimum (s : State) : Nat := byGrade s 400 300 200

/-- Ceiling of the power limit from the straps (R188). -/
def powerCeiling (s : State) : Nat :=
  match s.energy.pwrlim with
  | 0 => byGrade s 950 600 400
  | 1 => byGrade s 1200 750 500
  | 2 => byGrade s 750 500 300
  | _ => byGrade s 600 400 250

/-- The fields of `k` bits of a word, from the lowest. -/
def fields (v k n : Nat) : List Nat := (List.range n).map fun i => bits v (k * i) k

/-- Bank ranks are a permutation of 0 to 7 in which M0 holds 0 (R230). -/
def ranksFit (v : Nat) : Bool :=
  let f := fields v 3 8
  decide (v / 2 ^ 24 = 0) && decide (f.getD 0 1 = 0) && (List.range 8).all fun i => f.contains i

/-- A value of bytes as printable ASCII followed by zeros (R510). -/
def stringFits (bs : Bytes) : Bool :=
  let text := bs.takeWhile fun b => b != 0
  text.all (fun b => decide (0x20 ≤ b.toNat) && decide (b.toNat ≤ 0x7E)) && (bs.drop text.length).all fun b => b == 0

/-- The shadow or effective value of a staged entry (R523). -/
def stagedMaxDeadline (s : State) : Nat := s.epochs.staged.maxDeadline.getD s.epochs.config.maxDeadline

/-- A value of an entry that a write may set is one the entry lists (R511, and the meaning of each entry). -/
def valueInRange (s : State) (index sub : Nat) (value : Bytes) : Bool :=
  let v := leNat value
  let within := fun (a b : Nat) => decide (a ≤ v) && decide (v ≤ b)
  match index, sub with
  | 0x1000, 0x11 => within 0 7
  | 0x1000, 0x14 => decide (leNat (value.take 4) + (value.length - 4) ≤ 32256)
  | 0x1000, 0x17 => stringFits (slice 4 32 value) && (value.drop 36).all fun b => b == 0
  | 0x1001, 0x03 => within 0 1
  | 0x1100, 0x04 => within 1 3
  | 0x1100, 0x06 => within 1 2
  | 0x1200, 0x04 => within 0 1
  | 0x1200, 0x05 => within 0 0xFFF
  | 0x1200, 0x06 => within 1 (min 1000000 s.modes.dozeIdle2)
  | 0x1200, 0x07 => within (max 100 s.modes.dozeIdle1) 1000000
  | 0x1200, 0x08 => within 0 2
  | 0x2000, 0x02 => within (powerMinimum s) (powerCeiling s)
  | 0x2100, 0x01 => within 1000 1000000
  | 0x2100, 0x02 => within 1 (stagedMaxDeadline s)
  | 0x2100, 0x05 => within 1 1
  | 0x2101, 0x01 => within 1 1000000
  | 0x2101, 0x02 => within 1 1000000
  | 0x2101, 0x03 => within 1 1000000
  | 0x2101, 0x04 => within 1 1000000
  | 0x2102, 0x01 => within 0 4095
  | 0x2102, 0x02 => within 0 (instCount s)
  | 0x2102, 0x03 => decide (v % 64 = 0)
  | 0x2102, 0x04 => within 96 1088 && decide (v % 32 = 0)
  | 0x2102, 0x05 => within 1 2
  | 0x2103, 0x03 => within 1000 10000000
  | 0x2200, 0x01 => decide (s.fuses.grade = .sk9120) && ranksFit v
  | 0x2200, 0x02 => decide (s.fuses.grade ≠ .sk9120) && decide (v % 16 = 0) && ((fields v 4 8).drop 1).all fun w => decide (w ≥ 1)
  | 0x2200, 0x03 => decide (v / 2 ^ 12 = 0) && (fields v 4 3).all fun w => decide (w ≥ 1)
  | 0x2200, 0x04 => (fields v 4 4).all fun w => decide (w ≥ 1)
  | 0x2200, 0x10 => within 64 0xFFFFFFFF
  | 0x2200, 0x11 => within 64 0xFFFFFFFF
  | 0x2200, 0x12 => within 64 0xFFFFFFFF
  | 0x2200, 0x13 => within 64 0xFFFFFFFF
  | 0x2200, 0x15 => within 0 7
  | 0x2200, 0x16 => within 0 15
  | 0x2200, 0x17 => within 0 15
  | 0x2200, 0x20 => within 4 64
  | 0x2200, 0x21 => within 16 512
  | 0x2200, 0x22 => within 100 100000
  | 0x3000, 0x06 => within 64 65536 && decide (v % 4 = 0)
  | 0x3000, 0x0B => within 1 2
  | 0x3001, 0x05 => within 1 3
  | 0x3003, 0x01 => within 8 255
  | 0x3003, 0x03 => within 2 3
  | 0x3003, 0x06 => within 1 3
  | 0x3100, 0x0B => within 0 3 || decide (v = 0xFF)
  | 0x3200, 0x01 => within 0 1024
  | 0x3310, n => ((nibbles value).take 10 == List.range 10 && (nibbles value).all fun d => decide (d ≤ 9)) ||
      (decide (n ≠ 1) && value.all (· == 0))
  | 0x3311, 0x01 => within 0 1
  | 0x4000, 0x04 => within 0 0xFF
  | 0x4020, 0x02 => within 0 (instCount s)
  | 0x4020, 0x04 => decide (v % 4096 = 0)
  | 0x4020, 0x05 => decide (v % 4096 = 0)
  | 0x4020, 0x06 => decide (v % 4096 = 0)
  | 0x4020, 0x07 => within 0 0x1FFF
  | 0x4020, 0x08 => within 0 2047
  | 0x4020, 0x0B => within 1 4
  | 0x4030, 0x02 => within 0 1
  | 0x4100, 0x01 => within 1 (instCount s)
  | 0x4100, 0x03 => within 1 4096
  | 0x4100, 0x05 => within 0 (slotCount s)
  | 0x4100, 0x07 => within 0 4096
  | 0x4100, 0x08 => within 0 0xFFF
  | 0x4100, 0x09 => within 1 4
  | 0x6000, 0x05 => within 0 15
  | 0x6000, 0x06 => within 0 1
  | 0x6100, 0x03 => within 0 63
  | 0x6100, 0x05 => within 1 1
  | 0x6100, 0x08 => within 1 1000000
  | 0x6100, 0x0A => decide (v = 0) || within 5 60000
  | 0x6200, 0x03 => within 0 65535
  | 0x6200, 0x06 => within 1 2
  | 0x6200, 0x09 => within 1 1
  | 0x6200, 0x0C => within 10 600
  | 0x6300, 0x03 => within 0 8191
  | 0x6300, 0x05 => within 1 1
  | 0x6300, 0x08 => within 1 1
  | 0x7000, 0x09 => within 1 4
  | 0x7000, 0x0B => within 0 50000
  | 0x7100, 0x03 => within 1 4
  | 0x7100, 0x07 => within 0 4095
  | 0x7800, 0x02 => within 0 15 || decide (v = 0xFF)
  | 0x7800, 0x03 => within 2 16
  | 0x7800, 0x09 => within 10 600
  | 0x7801, 0x01 => within 0 4
  | 0x7801, 0x05 => within 1 1
  | 0x7810, 0x03 => within 1 1
  | 0x8000, 0x01 => within 0 1
  | 0x8000, 0x02 => within 10 100000
  | 0x8000, 0x03 => within 1000 1000000
  | 0x8010, 0x01 => within 0 11 || within 16 23
  | 0x9000, 0x05 => decide (v % 4096 = 0)
  | 0x9000, 0x06 => within 8448 8257536
  | 0x9000, 0x07 => within 1 4
  | 0x9000, 0x09 => within 1000000 100000000
  | 0x9000, 0x0F => within 1 1
  | _, _ => true

/-! ### The checks of a request, in their order (R277, R419, R496, R517) -/

/-- The writes by which an export within a ceremony is carried out: a record is selected, a statement is produced (R445 step 2, R481,
R427; DEDUCED, assumption 103). -/
def exportWrite (n index sub : Nat) : Bool :=
  ([1, 6].contains n && decide (index = 0x6200) && (decide (sub = 3) || decide (sub = 6))) ||
    ([1, 7].contains n && decide (index = 0x6300) && (decide (sub = 3) || decide (sub = 5)))

/-- A write belongs to the open ceremony, or opens the ceremony given. -/
def inCeremony (s : State) (n index sub : Nat) (value : Bytes) : Bool :=
  (decide (index = 0x7810) && decide (sub = 1) && decide (value = [byte n])) ||
    (decide (s.custody.ceremony = n) && ((ceremoniesOf index sub).contains n || decide (index = 0x7810) || exportWrite n index sub))

/-- What modes refuse on a path before the entry is looked at (R277, R496). -/
def modeRefusal (s : State) (path : Path) (write : Bool) (index sub : Nat) (value : Bytes) : Option Nat :=
  match path with
  | .mailbox _ =>
    if lockedNow s && !(!write && decide (index = 0x1200) && decide (sub = 1)) then some 0x07
    else if standbyNow s && write then some 0x08
    else none
  | .custody =>
    if !write then none
    else if lockedNow s && !inCeremony s 1 index sub value &&
        !(inCeremony s 10 index sub value && decide (lockCauseNow s = 3)) then some 0x07
    else if standbyNow s &&
        !(decide (0x7800 ≤ index) && decide (index ≤ 0x7810)) &&
        !(decide (index = 0x6200) && decide (sub = 6)) && !(decide (index = 0x6300) && decide (sub = 5)) &&
        !([1, 3, 5, 6, 7].any fun n => inCeremony s n index sub value) then some 0x08
    else if fatalOpen s then some 0x04
    else none

/-- The entries that recovery serves (R419). -/
def recoveryServes (path : Path) (write : Bool) (index : Nat) : Bool :=
  decide (path = .mailbox 0) &&
    (decide (index = 0x9000) ||
      (!write && [0x1000, 0x1200, 0x6100, 0x6200, 0x6300].contains index))

/-- Why a read is refused. -/
def readRefused (s : State) (path : Path) (index sub : Nat) : Option Nat :=
  match modeRefusal s path false index sub [] with
  | some r => some r
  | none =>
    if s.boot.phase = .recovery && !recoveryServes path false index then some 0x03
    else
      match entryFor s path index sub with
      | none => some 0x03
      | some e => if e.access.read then none else some 0x04

/-- Why a write is refused before it reaches its entry's own rules. -/
def writeRefused (s : State) (path : Path) (index sub : Nat) (value : Bytes) : Option Nat :=
  match modeRefusal s path true index sub value with
  | some r => some r
  | none =>
    if s.boot.phase = .recovery && !recoveryServes path true index then some 0x03
    else
      match entryFor s path index sub with
      | none => some 0x03
      | some e =>
        if !writePermitted s path index sub value e.access then some 0x04
        else if !e.type.fits value.length then some 0x02
        else if e.type == .bool && decide (leNat value > 1) then some 0x05
        else if !valueInRange s index sub value then some 0x05
        else none

/-! ### Requests as they arrive (R273 to R277, R515, R524) -/

/-- What a write comes to: its RESULT, the pages, records and event its answer waits for, and the state. -/
structure Answer where
  result : Nat
  pages : List (Store × Nat)
  records : List Nat
  event : Nat
  state : State

/-- A write that is answered at once. -/
def Answer.now (result : Nat) (s : State) : Answer := { result := result, pages := [], records := [], event := 0, state := s }

/-- A write whose answer waits for the last event staged. -/
def Answer.recorded (result : Nat) (s : State) : Answer :=
  { result := result, pages := [], records := [], event := s.log.total, state := s }

/-- A step that must be recorded: the answer waits for the events that it has added to those of `old`, if any (R475). -/
def Answer.noted (result : Nat) (old s : State) : Answer :=
  if s.log.total = old.log.total then Answer.now result s else Answer.recorded result s

/-- Nothing holds back an answer. -/
def Answer.ready (a : Answer) : Bool :=
  pagesDone a.state a.pages && recordsDone a.state a.records && eventDurable a.state a.event

/-- Index, sub-index and value of a message's body. -/
def bodyIndex (v : MailSlot) : Nat := leNat (v.body.take 2)
def bodySub (v : MailSlot) : Nat := (v.body.getD 2 0).toNat
def bodyValue (v : MailSlot) : Bytes := (v.body.take v.length).drop 4
/-- The zero byte of a request body. -/
def bodyZero (v : MailSlot) : Bool := v.body.getD 3 0 == 0

/-- The slot becomes EXECUTING (R275). -/
def startMessage (fn slot : Nat) (s : State) : State :=
  let v := mailSlot s fn slot
  setMailSlot fn slot { v with w0 := mailW0 2 v.length v.command 0 v.seq } s

/-- Answers a message: at once, or when its pages are durable and its records acknowledged. -/
def answerMessage (fn slot : Nat) (a : Answer) : State :=
  let v := mailSlot a.state fn slot
  if Answer.ready a then mailReply fn slot v.seq a.result [] a.state
  else
    let h : HeldReply := { path := .mailbox fn, slot := slot, seq := v.seq, result := a.result, value := [],
                           pages := a.pages, records := a.records, event := a.event }
    let s := startMessage fn slot a.state
    { s with dict := { s.dict with held := s.dict.held ++ [h] } }

/-- Answers a write that a path has brought to the dictionary. -/
def answerWrite (path : Path) (a : Answer) : State :=
  if Answer.ready a then { a.state with reply := (a.result, []) }
  else
    let h : HeldReply := { path := path, slot := 16, seq := 0, result := a.result, value := [], pages := a.pages,
                           records := a.records, event := a.event }
    { a.state with dict := { a.state.dict with held := a.state.dict.held ++ [h] } }

/-- Runs the write of one entry that has a row of its own: the checks every write passes, then its action. A message is
run when it is the next of its mailbox and is a write of that entry with a value the row takes. -/
def runWrite (src : Src) (index sub : Nat) (value : Bytes) (mine : Bytes → Bool) (act : Path → Bytes → State → Answer)
    (s : State) : State :=
  match src with
  | .message fn slot =>
    let v := mailSlot s fn slot
    let w := bodyValue v
    if mailNext s fn slot && decide (v.command = 2) && decide (v.length ≥ 4) && decide (bodyIndex v = index) &&
        decide (bodySub v = sub) && bodyZero v && mine w then
      match writeRefused s (.mailbox fn) index sub w with
      | some r => answerMessage fn slot (Answer.now r s)
      | none => answerMessage fn slot (act (.mailbox fn) w s)
    else s
  | .write path =>
    if !mine value then s
    else
      match writeRefused s path index sub value with
      | some r => answerWrite path (Answer.now r s)
      | none => answerWrite path (act path value s)
  | .debugPort => s

/-- Any value. -/
def anyValue (_ : Bytes) : Bool := true

/-- The value of an action code. -/
def codeIs (n : Nat) (v : Bytes) : Bool := decide (v = [byte n])

/-- The write of an action code. -/
def runAction (src : Src) (index sub code : Nat) (act : Path → State → Answer) (s : State) : State :=
  runWrite src index sub [byte code] (codeIs code) (fun p _ s => act p s) s

end Sys2Proof.Machine
end

