-- ==== Sys2Proof/Machine/SafeOps.lean ====
section
/-!
DEFINITION. What every part of the device may set going: the end of a session, the giving up of the Signet, the safe state
of a Fatal fault, the default response of a Contained one, tamper responses, zeroisation and the wake from DOZE (R200,
R365, R435 to R445, R466 to R470, R497, R498, R538, R547 to R550, R560, R584).
-/
namespace Sys2Proof.Machine

/-! ### Custody session and ceremony (R497, R498, R501, R503) -/

/-- SOURCE of an event of the console in session. -/
def consoleSource (s : State) : Nat := 0x8000 + s.custody.console

/-- SOURCE of an event that a path's write causes. -/
def pathSource (s : State) (path : Path) : Nat :=
  match path with
  | .mailbox fn => fn
  | .custody => consoleSource s

/-- The open ceremony ends: 1 completed, 2 abandoned, 3 presence lost, 4 session closed. -/
def endCeremony (how : Nat) (s : State) : State :=
  if s.custody.ceremony = 0 then s
  else
    let s := logRequired 0x0809 (consoleSource s) [byte s.custody.ceremony, byte how] s
    { s with custody := { s.custody with ceremony := 0, components := [] } }

/-- Session keys, those of an enrolment under way, and components are cleared (R498). -/
def clearSessionKeys (s : State) : State :=
  { s with custody := { s.custody with kmac := [], kwrap := [], cached := [], components := [], enrol := none } }

/-- A session closes, for the reason that event 0x0802 gives; a hold of the Event Log ends with it (R481, R497). -/
def closeSession (reason : Nat) (s : State) : State :=
  match s.custody.session with
  | .none => s
  | .opening => clearSessionKeys { s with custody := { s.custody with session := .none } }
  | .opened =>
    let s := endCeremony 4 s
    let s := logEvent 0x0802 (consoleSource s) (natLE 4 s.custody.sessionId ++ [byte reason]) s
    let held := s.dict.held.filter fun h => decide (h.path ≠ .custody)
    clearSessionKeys
      { s with custody := { s.custody with session := .none, console := 0xFF, sessionId := 0, peerMac := [],
                                           seq := 0, tagFails := 0, closing := false, enrol := none,
                                           plcaNode := (s.custody.newPlca.getD (s.custody.plcaNode, s.custody.plcaCount)).1,
                                           plcaCount := (s.custody.newPlca.getD (s.custody.plcaNode, s.custody.plcaCount)).2,
                                           newPlca := none }
               dict := { s.dict with held := held }
               log := { s.log with hold := none } }

/-- An answer of the custody path is held back (R518, R524). -/
def custodyWaits (s : State) : Bool := s.dict.held.any fun h => decide (h.path = .custody)

/-- A session whose console has been removed closes, once no reply of the session is still to be sent (R492). -/
def closeRemoved (s : State) : State := if s.custody.closing && !custodyWaits s then closeSession 6 s else s

/-- The replies that a durable record lets go are sent, and then a session whose console has been removed closes (R492). -/
def closeAfterReply (s : State) : State := if s.custody.closing then closeRemoved (settle s) else s

/-! ### The Clasp session and the Signet (R535 to R538, R548 to R550, R560) -/

/-- The link session ends; the link stays up, and HELLO is exchanged again. -/
def endSession (s : State) : State :=
  if s.clasp.link < 2 then s
  else
    { s with clasp := { s.clasp with link := 2, myHello := [], peerHello := none, confSent := false, txKey := [],
                                     rxKey := [], bindKey := [], txSeq := 0, rxSeq := 0, fails := 0, repeated := [] }
             twin := { s.twin with renewSent := [], offer := none } }

/-- The link goes down: any session ends with it (R534, R566); 0 names training that has failed. -/
def claspDown (reason : Nat) (s : State) : State :=
  let up := decide (s.clasp.link ≥ 2)
  let s := endSession s
  let s := { s with clasp := { s.clasp with link := 0, lanes := 0 } }
  if up then logEvent 0x0902 0xFFFF [byte reason] s else s

/-- Sends a control frame that is repeated until it is acknowledged (R537). -/
def sendControl (kind : Nat) (body : Bytes) (s : State) : State :=
  if s.clasp.link < 3 then s
  else
    let r : Repeated := { kind := kind, body := body, firstAt := s.disp.tick, lastAt := s.disp.tick, seen := s.clasp.rxSeq }
    let s := claspSend kind body s
    { s with clasp := { s.clasp with repeated := s.clasp.repeated ++ [r] } }

/-- The records whose acknowledgement something waits for (R557, R560). -/
def waitedRecords (s : State) : List SentRecord := if replicating s then s.twin.unacked else []

/-- Every wait for the peer ends (R27, R560): each decrement not acknowledged is recorded before its Chain completes. -/
def dropWaits (s : State) : State :=
  let note := fun (s : State) (r : SentRecord) => if r.kind = 0x03 then logRequired 0x0405 0xFFFF r.content s else s
  let s := (waitedRecords s).foldl note s
  let release := fun (_ : Nat) (ch : Chain) =>
    if ch.waitRecords.isEmpty then ch else { ch with waitRecords := [], waitEvent := s.log.total }
  let held := s.dict.held.map fun h => { h with records := [] }
  { s with disp := { s.disp with chains := SMap.mapValues s.disp.chains release }
           dict := { s.dict with held := held }
           twin := { s.twin with unacked := [], peerSync := 1, renewSent := [] } }

/-- The waits end with a peer that is detached: event 0x0907 counts them. -/
def endWaits (reason : Nat) (s : State) : State :=
  let waits := (waitedRecords s).length
  logEvent 0x0907 0xFFFF ([byte reason] ++ natLE 4 waits) (dropWaits s)

/-- The part no longer holds the Signet; `how` and the Chains revoked go into event 0x0906 (R550, R552). -/
def dropSignet (how source revoked : Nat) (s : State) : State :=
  if !activeNow s then s
  else
    let s := logEvent 0x0906 source (natLE 8 s.sec.generation.toNat ++ [byte how] ++ natLE 4 revoked) s
    { s with twin := { s.twin with holder := false, sync := 1, renewSent := [], drainDue := none, unacked := [] } }

/-- An explicit release: the Signet is given up and RELEASE is sent (R550). -/
def releaseSignet (how source revoked : Nat) (s : State) : State :=
  if !activeNow s then s
  else
    let body := natLE 8 s.sec.generation.toNat ++ [byte how]
    let s := dropSignet how source revoked s
    if s.clasp.link = 4 then sendControl 0x12 body s else s

/-- The part becomes Detached and sends DETACH (R550, R559). -/
def detachSelf (s : State) : State :=
  if !pairedNow s then s
  else
    let s := if s.clasp.link = 4 then sendControl 0x15 [2] s else s
    let s := endWaits 2 s
    { s with twin := { s.twin with sync := 1, ackWaits := [], vaultHalf := none } }

/-- What a Fatal fault or a tamper response does to the pair, and the clearing of the Clasp key register (R538, R550). -/
def leaveService (how : Nat) (s : State) : State := endSession (detachSelf (releaseSignet how 0xFFFF 0 s))

/-- The pair key and pair record are cleared: the binding ends (R548). -/
def clearPairing (reason source : Nat) (s : State) : State :=
  match s.sec.pair with
  | none => { s with keys := { s.keys with vault := SMap.erase s.keys.vault 2 } }
  | some p =>
    let s := logEvent 0x0904 source (natLE 8 p.peer ++ [byte reason]) s
    { s with sec := { s.sec with pair := none, generation := 0, genSide := 0 }
             keys := { s.keys with vault := SMap.erase s.keys.vault 2 }
             twin := { s.twin with holder := false, sync := 0, peerSync := 1, renewSent := [], unacked := [],
                                   drainDue := none, ackWaits := [], vaultHalf := none } }

/-! ### Engines as alarms and faults leave them (R124, R170) -/

/-- The pairs of a table, all cleared. -/
def clearPairs (ps : SMap Pair) : SMap Pair := SMap.keep (SMap.mapValues ps fun _ p => p.cleared) fun _ p => decide (p ≠ Pair.empty)

/-- Every lane and hash key register and every pair is cleared. -/
def clearEngines (s : State) : State :=
  { s with engines := { s.engines with
      lanes := [], loads := [], hashes := [], pke := clearPairs s.engines.pke, lattice := clearPairs s.engines.lattice } }

/-- Links of Chains already revoked end with their engines. -/
def abandonRevoked (s : State) : State :=
  let stop := fun (ch : Chain) =>
    if ch.revoked then
      let skip := fun (r : LinkRun) => if r.st.final then r else { r with st := .skipped }
      { ch with links := ch.links.map skip, requested := ch.requested.map fun q => (q.1, q.2.1, skip q.2.2) }
    else ch
  let s := (chainsWhere s fun ch => ch.revoked).foldl (fun s c => dropCoreLinks c s) s
  { s with disp := { s.disp with chains := SMap.mapValues s.disp.chains fun _ ch => stop ch } }

/-- Every engine abandons its Link, and every admitted Chain waits for its abort completion (R24, R468, R469). -/
def abortAll (status : Nat) (s : State) : State :=
  let s := (chainsWhere s fun ch => !ch.revoked).foldl (fun s c => abortChain status c s) s
  clearEngines (abandonRevoked s)

/-! ### Staging ends with the part's state (R421) -/

/-- STATE of an image slot: 0 EMPTY, 1 STAGING, 2 WRITTEN, 3 VERIFYING, 4 VERIFIED, 5 REJECTED, 6 ACTIVE. -/
def slotEmpty : Nat := 0
def slotStaging : Nat := 1
def slotWritten : Nat := 2
def slotVerifying : Nat := 3
def slotVerified : Nat := 4
def slotRejected : Nat := 5
def slotActive : Nat := 6

/-- The inactive image slot: 0 A, 1 B. -/
def inactiveSlot (s : State) : Nat := 1 - s.mram.active % 2

/-- State of an image slot. -/
def imageState (s : State) (slot : Nat) : Nat := if slot = 0 then s.images.slotA else s.images.slotB

/-- Writes the state of an image slot. -/
def setImageState (slot v : Nat) (s : State) : State :=
  if slot = 0 then { s with images := { s.images with slotA := v } } else { s with images := { s.images with slotB := v } }

/-- The store of an image slot. -/
def imageStore (slot : Nat) : Store := if slot = 0 then .imageA else .imageB

/-- Page 0 of an image slot is erased, and pages of the slot that wait are dropped (R403, R421). -/
def eraseImageHead (slot : Nat) (s : State) : State :=
  let p := physical s (imageStore slot).copyA
  let queue := s.mram.queue.filter fun w => decide (w.store ≠ imageStore slot)
  let erased := { SMap.get Page.blank s.mram.pages p with seq := 0, crc := 0, poisoned := false }
  { s with mram := { s.mram with pages := SMap.set Page.blank s.mram.pages p erased, queue := queue } }

/-- Staging or verification ends with a state and a check code (R421). -/
def endStaging (v result : Nat) (s : State) : State :=
  let slot := inactiveSlot s
  let s := if v = slotEmpty then eraseImageHead slot s else s
  let reads := s.host.reads.filter fun r =>
    match r.kind with
    | .image _ => false
    | _ => true
  let open_ := s.tamper.decisions.filter fun d => decide (d.1 ≠ .signature true)
  let s := setImageState slot v
    { s with host := { s.host with reads := reads }
             tamper := { s.tamper with decisions := open_ }
             images := { s.images with stageDue := none, dma := false, chunks := [], stageResult := result } }
  if v = slotVerified then s else logEvent 0x0503 0xFFFF [byte slot, byte v, byte result] s

/-- A staging or verification under way is abandoned. -/
def abandonStaging (s : State) : State :=
  let v := imageState s (inactiveSlot s)
  if v = slotStaging ∨ v = slotVerifying then endStaging slotEmpty 0 s else s

/-! ### Fatal faults (R468 to R470) -/

/-- The safe state: every Chain aborted with 0x0702, engine key registers and session keys cleared, the Signet released. -/
def safeState (s : State) : State := clearSessionKeys (leaveService 1 (abortAll 0x0702 s))

/-- A Fatal fault opens its record, or merges into one, and the safe state is entered. -/
def raiseFatal (unit cause index : Nat) (args : Bytes) (s : State) : State :=
  let before := fatalOpen s
  let (_, s) := recordFault (faultCode 3 unit cause) index args [] s
  if before then s else safeState s

/-! ### Contained faults (R365, R466, R467) -/

/-- The tag of a unit (R225). -/
def unitTag (unit index : Nat) : Nat := 0x4000 + unit * 256 + index

/-- A unit's resources are given back (R226). -/
def revokeUnit (unit index : Nat) (s : State) : State :=
  let tag := unitTag unit index
  let s := freeBuffers ((s.flow.buffers.filter fun x => decide (x.2 = tag)).map (·.1)) s
  { s with flow := { s.flow with locks := SMap.keep s.flow.locks fun _ l => decide (l.holder ≠ tag) } }

/-- Each Link ISSUED to a lane or hash unit, unit codes 4 and 5. -/
def linksOn (s : State) (unit index : Nat) : List (Nat × Nat) :=
  if unit = 4 then
    (s.engines.lanes.filter fun x => decide (x.1 / 16 = index)).filterMap fun x => x.2.link.map fun n => (x.2.chain, n)
  else if unit = 5 then
    (s.engines.hashes.filter fun x => decide (x.1 = index)).filterMap fun x => x.2.job
  else []

/-- The unit reset of a lane or hash unit clears its state and key registers. -/
def resetUnit (unit index : Nat) (s : State) : State :=
  if unit = 4 then
    { s with engines := { s.engines with lanes := SMap.keep s.engines.lanes fun k _ => decide (k / 16 ≠ index)
                                         loads := s.engines.loads.filter fun x => decide (x.lane ≠ index) } }
  else if unit = 5 then { s with engines := { s.engines with hashes := SMap.erase s.engines.hashes index } }
  else s

/-- The default response: Links of the unit fail with 0x0703, its tag is revoked, it is reset and withdrawn. -/
def defaultContained (unit cause index : Nat) (args : Bytes) (s : State) : State :=
  let respond := fun (s : State) =>
    let s := (linksOn s unit index).foldl (fun s x => failLink x.1 x.2 0x0703 s) s
    resetUnit unit index (revokeUnit unit index s)
  containFault unit cause index args [(unit, index)] respond s

/-- A unit reset of a core (R365): its data part, registers, events, timers and requests are cleared. The counters of
OD 0x2103 are the device's and stay. -/
def resetCore (k : Nat) (s : State) : State :=
  let s := revokeUnit 9 k s
  let fresh : Core := { Core.reset with waitedAt := s.disp.tick, halted := true }
  let cores := SMap.set Core.reset s.cores.cores k fresh
  { s with scratch := Memory.clear s.scratch (0x40000 * k + 0x20000) 0x20000, cores := { s.cores with cores := cores } }

/-- A core's firmware Link ends FAILED with 0x0703. -/
def failCoreLink (k : Nat) (s : State) : State :=
  match (getCore s k).link with
  | some (c, n) => failLink c n 0x0703 s
  | none => s

/-- The response to a Contained fault of a core: its Link fails, the core is reset and withdrawn (R348, R363 to R365). -/
def failCore (cause k : Nat) (args : Bytes) (s : State) : State :=
  containFault 9 cause k args [(9, k)] (fun s => resetCore k (failCoreLink k s)) s

/-! ### Background tests (R387) -/

/-- No region is under test. -/
def testsIdle (s : State) : Bool := s.memTest.engines.all fun e => e.2.active.isNone

/-- Tests in progress of engines `es` are abandoned with the memory that is cleared. -/
def abandonTests (es : List Nat) (s : State) : State :=
  let drop := fun (n : Nat) (e : TestEngine) => if es.contains n then { e with active := none, overdue := false } else e
  { s with memTest := { s.memTest with engines := SMap.mapValues s.memTest.engines drop } }

/-! ### DOZE (R36, R39, R43, R201, R337, R583 to R585) -/

/-- Device Time in whole µs since the entry to depth 2: 32,768 counts a second. -/
def dozeElapsed (s : State) : Nat := (s.sec.deviceTime.toNat - s.modes.dozeAt) * 1000000 / 32768

/-- DOZE_DEPTH as a read that arrives now finds it, 0 outside DOZE. -/
def dozeDepthNow (s : State) : Nat := if s.modes.word.doze then s.modes.word.dozeDepth.toNat else 0

/-- Banks of chain memory that have been powered down are cleared in bulk (R380). A row carries out the whole wake, so that no event stands
between the supply and the end of the clear. -/
def clearBanks (s : State) : State :=
  { s with chainMem := s.modes.banksOff.foldl (fun m b => Memory.clear m (0x40000 * b) 0x40000) s.chainMem
           modes := { s.modes with banksOff := [] } }

/-- The clocks restart: after depth 2 the tick number advances by the time elapsed, thermal history is discarded, each
source begins a new start-up window, and the banks powered down are cleared (R191, R201, R337, R380, R585). -/
def wake (s : State) : State :=
  if !s.modes.word.doze then s
  else
    let deep := decide (s.modes.word.dozeDepth = 2)
    let s := if deep then
        { s with disp := { s.disp with tick := s.disp.tick + dozeElapsed s }
                 energy := { s.energy with samples := 0, temps := [] }
                 rng := { s.rng with sources := s.rng.sources.map fun x =>
                   { Source.reset with freqA := x.freqA, freqB := x.freqB } } } |> clearBanks
      else s
    let s := { s with modes := { s.modes with idleFor := 0, wakeTimer := none }
                      boot := { s.boot with watchdogAt := s.sec.deviceTime.toNat } }
    latchModes (fun w => { w with doze := false, dozeDepth := 0 }) s

/-! ### Tamper responses (R431, R440 to R443, R451) -/

/-- The monitors are armed (R451). -/
def tamperArmed (s : State) : Bool := decide (s.life.state ≠ .blank) && decide (s.life.state ≠ .endOfLife)

/-- Class of a source. -/
def tamperClass (source : Nat) : Nat := if source < 6 then 2 else 1

/-- The DRBG and its stores are erased; it waits for the next seed (R336). -/
def eraseDrbg (s : State) : State :=
  { s with rng := { s.rng with drbg := none, seed := none, reserve := [], buffer := [], calls := 0, capture := 0xFF,
                               state := if s.rng.state = 1 then 3 else s.rng.state } }

/-- Every working slot is cleared; persistent entries stay (R317). -/
def clearWorkingSlots (s : State) : State :=
  { s with keys := { s.keys with slots := [], staging := [], floorWrites := [] } }

/-- Every vault slot and attribute word is cleared, and with slots 1 and 2 what stands beside them (R317, R539, R548). -/
def clearVault (reason : Nat) (s : State) : State :=
  let s := clearPairing reason 0xFFFF s
  { s with keys := { s.keys with vault := [], emptyMasks := [] }
           sec := { s.sec with domainId := 0, member := 0, issued := [] } }

/-- Queued page writes that a tamper response discards (R443). -/
def dropKeyWrites (s : State) : State :=
  { s with mram := { s.mram with queue := s.mram.queue.filter fun w => decide (w.store ≠ .keys) } }

/-- The part is out of reset, so that its compute die holds something. -/
def computeUp (s : State) : Bool := decide (s.boot.phase ≠ .inReset)

/-- What the compute die does on an alarm: Chains end with 0x0701, keys are erased, queue pairs freeze, staging is
abandoned and the pair is left (R441, R442). -/
def computeErase (s : State) : State :=
  if !computeUp s then s
  else
    let s := abortAll 0x0701 s
    let s := leaveService 2 s
    let s := closeSession 7 s
    let s := abandonTests [4, 6] (dropKeyWrites (eraseDrbg (clearWorkingSlots s)))
    let s := { s with keys := { s.keys with rootHeld := false, storageHeld := false, rootPending := true } }
    freezeQps (abandonStaging s)

/-- The response to a source (R441): an alarm wakes the part (rule 29), the erasure of the source's class is carried out, and
its flag is set. -/
def tamperResponse (source : Nat) (s : State) : State :=
  if !tamperArmed s then s
  else
    let cls := tamperClass source
    let s := computeErase (wake s)
    let s := if cls = 2 then clearVault 4 s else s
    let s := { s with sec := { s.sec with
      sticky := s.sec.sticky ||| 2 ^ source, lastResponse := s.sec.deviceTime, lastSource := source,
      responses := s.sec.responses + 1 } }
    let s := { s with tamper := { s.tamper with quietFor := 0 } }
    logEvent 0x0301 0xFFFF (natLE 4 (2 ^ source) ++ [byte cls]) s

/-- A double decision that disagrees raises VDD_GLITCH, and its event names it (R438). -/
def decisionDisagrees (number : Nat) (s : State) : State :=
  let s := { s with sec := { s.sec with decisionDisagreements := s.sec.decisionDisagreements + 1 } }
  tamperResponse 6 (logEvent 0x0304 0xFFFF [byte number] s)

/-! ### Zeroisation of stores (R317, R403) -/

/-- Logical pages of a store that hold something. -/
def usedPages (s : State) (st : Store) : List Nat :=
  (List.range st.size).filter fun q =>
    (SMap.find s.mram.pages (physical s (st.copyA + q))).isSome ||
      (st.two && (SMap.find s.mram.pages (physical s (st.copyB + q))).isSome)

/-- Starts the erase of pages of a store; writes of these pages that wait are dropped. -/
def startErase (purpose : ErasePurpose) (st : Store) (pages : List Nat) (s : State) : State :=
  let source := if s.custody.session = .opened then consoleSource s else deviceSource
  let e : Erase := { purpose := purpose, store := st, pages := pages, source := source }
  { s with mram := { s.mram with
      erases := s.mram.erases ++ [e]
      queue := s.mram.queue.filter fun w => decide (w.store ≠ st) || !pages.contains w.page } }

/-- The persistent key store region is erased. -/
def eraseKeyStore (purpose : ErasePurpose) (s : State) : State :=
  let s := startErase purpose .keys (usedPages s .keys) (dropKeyWrites s)
  { s with keys := { s.keys with entries := [], reserved := [], floorWrites := [] } }

/-- Working slots and the vault cleared and the persistent store erased: value 2 of OD 0x3000:0B (R317). -/
def zeroiseAll (purpose : ErasePurpose) (s : State) : State :=
  eraseKeyStore purpose (clearVault 4 (clearWorkingSlots s))

/-- What R547 and R548 zeroise on a part that leaves or rebuilds its copy: working slots, the persistent store, vault slots
8 to 255, templates and queue-pair contexts. -/
def zeroiseCopy (s : State) : State :=
  let s := eraseKeyStore .peerStore (clearWorkingSlots s)
  let s := clearTemplates (fun _ => true) s
  { s with keys := { s.keys with vault := SMap.keep s.keys.vault fun n _ => decide (n < 8) }
           host := { s.host with qps := [] } }

end Sys2Proof.Machine
end

