-- ==== Sys2Proof/Machine/PowerOps.lean ====
section
/-!
DEFINITION. The warm and the cold reset in progress: what they clear and what they leave (R401, R403, R449, R470, R525, R570,
R571, R574).
-/
namespace Sys2Proof.Machine

/-! ### Work that a reset interrupts -/

/-- Word 0 of a physical page becomes zero; every store treats the page as blank (R403). -/
def eraseHeader (p : Nat) (m : SMap Page) : SMap Page :=
  match SMap.find m p with
  | some g => SMap.set Page.blank m p { g with seq := 0, crc := 0, poisoned := false }
  | none => m

/-- Logical pages of a store are erased in each of its copies. -/
def erasePages (st : Store) (qs : List Nat) (s : State) : State :=
  let copies := fun (q : Nat) => physical s (st.copyA + q) :: (if st.two then [physical s (st.copyB + q)] else [])
  { s with mram := { s.mram with pages := (qs.flatMap copies).foldl (fun m p => eraseHeader p m) s.mram.pages } }

/-- A region erase that a reset interrupts has erased some leading part of its pages; no rule gives how many (assumption
23). -/
def cutErase (s : State) : State :=
  match s.mram.erases with
  | [] => s
  | e :: _ =>
    let (n, s) := takeFree s
    erasePages e.store (e.pages.take ((Config.freeBits n).toNat % (e.pages.length + 1))) s

/-- The fuse bit in progress of bank 0 completes; whether it has blown no rule gives (R449, R571). -/
def cutTransition (s : State) : State :=
  match s.life.transition with
  | none => s
  | some t =>
    match t.running, t.bits with
    | true, b :: _ =>
      let (n, s) := takeFree s
      let hit := (Config.freeBits n).getLsbD 0
      { s with life := { s.life with bank0 := if hit then s.life.bank0 ||| BitVec.ofNat 280 (2 ^ b) else s.life.bank0 } }
    | _, _ => s

/-- The same of the security version. -/
def cutAdvance (s : State) : State :=
  match s.life.advance with
  | none => s
  | some (b, _) =>
    let (n, s) := takeFree s
    let hit := (Config.freeBits n).getLsbD 0
    { s with life := { s.life with secver := if hit then s.life.secver ||| BitVec.ofNat 64 (2 ^ b) else s.life.secver } }

/-! ### What a reset keeps (R470, R525, R570) -/

/-- The security die keeps the code and the time of an open Fatal record; entries that no rule calls battery-held take their
defaults. -/
def secKept (s : State) : SecurityDie :=
  let sec := { s.sec with lastResponse := 0, lastSource := 0xFF, lastTaking := 0 }
  match firstOpened (s.faults.records.filter fun r => r.2.isFatal) with
  | some (_, r) => { sec with lastFatal := r.code, lastFatalTime := r.first }
  | none => sec

/-- Decisions of which the security die still takes the second (R438). It goes on sampling the presence inputs through a warm reset
(R499; DEDUCED, assumption 61). -/
def decisionsKept (s : State) : List (Decision × Bool) :=
  s.tamper.decisions.filter fun d =>
    match d.1 with
    | .tamper _ => true
    | .presence _ => true
    | _ => false

/-- The vault and its expander stand on the security die. -/
def keysKept (s : State) : KeyStore :=
  { KeyStore.reset with vault := s.keys.vault, remaskCycles := s.keys.remaskCycles, expanderSeed := s.keys.expanderSeed,
                        expanderCount := s.keys.expanderCount, emptyMasks := s.keys.emptyMasks, remaskedAt := s.keys.remaskedAt }

/-- The MRAM keeps its pages; a warm reset lets the write in progress end. -/
def mramKept (s : State) : Mram :=
  { Mram.reset with pages := s.mram.pages, replaced := s.mram.replaced, current := s.mram.current,
                    pwrfail := s.mram.pwrfail }

/-- The fuses and the decision on debug, which is held. -/
def lifeKept (s : State) : Life :=
  { Life.reset with state := s.life.state, bank0 := s.life.bank0, secver := s.life.secver, debugOpen := s.life.debugOpen }

/-- The machine as a warm or cold reset leaves it, with its reset asserted. -/
def resetKeeping (s : State) : State :=
  { State.reset with
    fuses := s.fuses, sec := secKept s, keys := keysKept s, mram := mramKept s, life := lifeKept s,
    tamper := { Tamper.reset with live := s.tamper.live, decisions := decisionsKept s, arming := s.tamper.arming,
                                  lightAlone := s.tamper.lightAlone }
    custody := { Custody.reset with presA := s.custody.presA, presB := s.custody.presB, dual := s.custody.dual }
    host := { HostIf.reset with perst := s.host.perst }
    twin := { Twin.reset with side := s.twin.side, sync := bit s.sec.pair.isSome }
    energy := { Energy.reset with pwrlim := s.energy.pwrlim }
    pins := { Pins.reset with boundary := s.pins.boundary }
    tap := s.tap, sent := s.sent, freeUses := s.freeUses, pending := s.pending }

/-- The Mode Word as the reset leaves it: its held fields stand, and no update is counted. -/
def holdModes (s : State) : State := { s with modes := { s.modes with word := modeWordNow s } }

/-- A warm reset (R571). -/
def applyWarmReset (s : State) : State := holdModes (resetKeeping (cutAdvance (cutTransition (cutErase s))))

/-- The count of start-ups that escalation has ended returns to 0 (R574). -/
def clearEscalations (s : State) : State := { s with sec := { s.sec with escalations := 0 } }

/-! ### The page in progress at a loss of power (R401) -/

/-- The words of a page, its header first. -/
def pageWords (g : Page) : List Bytes := (natLE 4 g.seq ++ natLE 4 g.crc) :: chunks 8 (padTo 504 g.payload)

/-- A page from its words. -/
def wordsPage (ws : List Bytes) (poisoned : Bool) : Page :=
  let head := ws.headD (zeros 8)
  { seq := leNat (head.take 4), crc := leNat (head.drop 4), payload := padTo 504 ws.tail.flatten, poisoned := poisoned }

/-- What a page reads as when power fails during the write of word `k`: words written before it are new, words after it in
the order 1 to 63, 0 are old, and word `k` is old (0), new (1) or poisoned (2). -/
def tornPage (old new : Page) (k how : Nat) : Page :=
  let o := pageWords old
  let n := pageWords new
  let place := fun (i : Nat) => if i = 0 then 64 else i
  let word := fun (i : Nat) =>
    if i = k then if how = 0 then o.getD i [] else if how = 1 then n.getD i [] else List.replicate 8 0xFF
    else if place i < place k then n.getD i [] else o.getD i []
  wordsPage ((List.range 64).map word) (decide (how ≥ 2) || (old.poisoned && decide (k ≠ 0 ∧ k < 63)))

/-- The physical page an update writes: the copy not in use, with SEQ one above the copy in use, skipping 0 (R404, R405). -/
def updateTarget (s : State) (w : PageWrite) : Nat × Nat :=
  let a := w.store.copyA + w.page
  let b := w.store.copyB + w.page
  let next := fun (q : Nat) => if (q + 1) % 2 ^ 32 = 0 then 1 else (q + 1) % 2 ^ 32
  match pageView s w.store w.page with
  | .used p g => if !w.store.two then (a, next g.seq) else if p = physical s a then (b, next g.seq) else (a, next g.seq)
  | _ => (a, 1)

/-- The page that a write leaves at a physical page. -/
def writtenPage (p seq : Nat) (payload : Bytes) : Page :=
  { seq := seq, crc := pageCrc p seq payload, payload := payload, poisoned := false }

/-- What a cold reset leaves of a page being written: torn at the word given, or complete where none is given (R401). -/
def leftPage (torn : Option (Nat × Nat)) (old new : Page) : Page :=
  match torn with
  | some (k, how) => tornPage old new (k % 64) how
  | none => new

/-- A cold reset while a page is written: it is torn at the word given, or complete where none is given. -/
def tearPage (torn : Option (Nat × Nat)) (s : State) : State :=
  match s.mram.current with
  | none => s
  | some w =>
    let t := updateTarget s w
    let p := physical s t.1
    let new := writtenPage p t.2 w.payload
    let left := leftPage torn (SMap.get Page.blank s.mram.pages p) new
    { s with mram := { s.mram with pages := SMap.set Page.blank s.mram.pages p left, current := none } }

end Sys2Proof.Machine
end

