-- ==== Sys2Proof/Machine/LogOps.lean ====
section
/-!
DEFINITION. Records of the Event Log and of the Locket: their bytes, their places, appending, and the export statements
(R424 to R428, R474 to R482).
-/
namespace Sys2Proof.Machine

/-! ### Event Log records (R474, R476) -/

/-- The bytes of a record. -/
def logRecord (seq : Nat) (e : LogEvent) (count : Nat) : Bytes :=
  let head := natLE 4 seq ++ natLE 8 e.time.toNat ++ natLE 2 e.code ++ natLE 2 e.source ++ natLE 4 e.boot ++ padTo 32 e.args
  let body := head ++ natLE 4 count ++ zeros 4
  body ++ natLE 4 (crc32c body)

/-- SEQ, CODE and REPEAT of a record. -/
def recordSeq (r : Bytes) : Nat := leNat (r.take 4)
def recordCode (r : Bytes) : Nat := leNat (slice 12 2 r)
def recordRepeat (r : Bytes) : Nat := leNat (slice 52 4 r)

/-- The record with one more occurrence, its CRC rewritten. -/
def repeatRecord (r : Bytes) : Bytes :=
  let n := min (recordRepeat r + 1) 0xFFFFFFFF
  let body := r.take 52 ++ natLE 4 n ++ zeros 4
  body ++ natLE 4 (crc32c body)

/-- The record at a position, as the tail buffer or the store gives it. -/
def logRecordAt (s : State) (r : Nat) : Bytes := slice (64 * (r % 7)) 64 (latestPage s .log (r / 7))

/-- An event has the CODE, SOURCE, BOOT and ARGS of the last record, which is not a clear record. -/
def repeatsLast (s : State) (e : LogEvent) : Bool :=
  let r := s.log.last
  decide (s.log.records > 0) && decide (recordCode r ≠ 0x0701) && decide (recordCode r ≠ 0x0702) &&
    decide (slice 12 8 r = natLE 2 e.code ++ natLE 2 e.source ++ natLE 4 e.boot) && decide (slice 20 32 r = padTo 32 e.args)

/-- One above a SEQ, skipping 0 at wrap. -/
def nextSeqOf (n : BitVec 32) : BitVec 32 := if n + 1 = 0 then 1 else n + 1

/-- Records at which the warning follows (R480). -/
def logWarning : Nat := 58983

/-- A record is appended at the tail, into the payload of its page. -/
def placeRecord (e : LogEvent) (page : Bytes) (s : State) : Bytes × State :=
  let r := logRecord s.log.nextSeq.toNat e 1
  let n := s.log.records + 1
  let page := overlay (64 * (s.log.records % 7)) r page
  let s := { s with log := { s.log with records := n, nextSeq := nextSeqOf s.log.nextSeq, last := r, covers := false } }
  if n = logWarning then (page, managerNotify 6 { s with log := { s.log with warn := true } }) else (page, s)

/-- The last record counts one more occurrence. -/
def placeRepeat (page : Bytes) (s : State) : Bytes × State :=
  let r := repeatRecord s.log.last
  (overlay (64 * ((s.log.records - 1) % 7)) r page, { s with log := { s.log with last := r, covers := false } })

/-- An event of the device, as of now. -/
def deviceEvent (s : State) (code : Nat) (args : Bytes) : LogEvent :=
  { time := s.sec.deviceTime, code := code, source := deviceSource, boot := s.mram.bootCounter.toNat % 2 ^ 32,
    args := padTo 32 args }

/-- The logical page that the next append changes. -/
def appendPage (s : State) : Nat :=
  match s.log.warn, s.log.staged with
  | false, e :: _ => if repeatsLast s e then (s.log.records - 1) / 7 else s.log.records / 7
  | _, _ => s.log.records / 7

/-- One staged event leaves the queue for the page being written. -/
def unstage (s : State) : State :=
  { s with log := { s.log with staged := s.log.staged.tail, inFlight := s.log.inFlight + 1 } }

/-- Appends the staged events that fall into one page, in order; the 90 % warning goes first when it is due. -/
def appendBatch (page : Nat) : Nat → Bytes → State → Bytes × State
  | 0, b, s => (b, s)
  | fuel + 1, b, s =>
    if evlogFull s || decide (appendPage s ≠ page) then (b, s)
    else if s.log.warn then
      let e := deviceEvent s 0x0703 (natLE 4 s.log.records)
      let (b, s) := placeRecord e b { s with log := { s.log with warn := false } }
      appendBatch page fuel b s
    else
      match s.log.staged with
      | [] => (b, s)
      | e :: _ =>
        let (b, s) := if repeatsLast s e then placeRepeat b s else placeRecord e b s
        appendBatch page fuel b (unstage s)

/-- Events that a full log cannot take are counted as not recorded (R479). -/
def countUnrecorded (s : State) : State :=
  if !evlogFull s then s
  else
    let n := s.log.staged.length
    { s with log := { s.log with staged := [], missed := 0, notRecorded := s.log.notRecorded + BitVec.ofNat 64 n,
                                 sinceClear := s.log.sinceClear + BitVec.ofNat 32 n } }

/-- Events were missed while the queue was full, and it has space again (R475). -/
def noteMissed (s : State) : State :=
  if s.log.missed = 0 ∨ s.log.staged.length ≥ 256 then s
  else logEvent 0x0705 deviceSource (natLE 4 s.log.missed) { s with log := { s.log with missed := 0 } }

/-- An erase of the log runs (R482). -/
def logErasing (s : State) : Bool := s.mram.erases.any fun e => decide (e.purpose = .logClear)

/-- The tail is known, no hold is in force and no clear runs, and there is something to append. -/
def canAppend (s : State) : Bool :=
  s.log.tailFound && s.log.hold.isNone && !logErasing s && !s.modes.word.doze &&
    (s.log.warn || !s.log.staged.isEmpty)

/-- Appends staged records in one page write (R475). -/
def appendStaged (s : State) : State :=
  if evlogFull s then countUnrecorded s
  else
    let page := appendPage s
    let (b, s) := appendBatch page (s.log.staged.length + 2) (latestPage s .log page) s
    noteMissed (countUnrecorded (queuePage 5 .log page b s))

/-! ### Export statements (R427, R481) -/

/-- The attestation key can be derived: the root is held, or the test root stands in for it (R304, R306, R457). -/
def attestReady (s : State) : Bool := s.life.debugOpen || s.keys.rootHeld

/-- A statement can be signed: the attestation key can be derived, and the draw of the signature be served (R331). -/
def canSign (s : State) : Bool := attestReady s && reserveCovers s 128

/-- A statement: first, last, count and one more number, the digest, Device Time, the boot counter, and the signature. -/
def statement (first last count extra : Nat) (digest : Bytes) (s : State) : Bytes × State :=
  let body := natLE 4 first ++ natLE 4 last ++ natLE 4 count ++ natLE 4 extra ++ padTo 48 digest ++
    natLE 8 s.sec.deviceTime.toNat ++ natLE 8 s.mram.bootCounter.toNat ++ zeros 16
  let (sig, s) := attestSign body s
  (body ++ padTo 96 sig, s)

/-- Builds the Event Log's statement; its event follows, which the statement does not cover. -/
def exportLog (source hold : Nat) (s : State) : State :=
  let n := s.log.records
  let records := (List.range n).map fun r => logRecordAt s r
  let first := if n = 0 then 0 else recordSeq (records.headD [])
  let last := if n = 0 then 0 else recordSeq s.log.last
  let (st, s) := statement first last n s.log.sinceClear.toNat (sha384 records.flatten) s
  let s := { s with log := { s.log with statement := st, covers := true } }
  logEvent 0x0704 source (natLE 4 first ++ natLE 4 last ++ [byte hold]) s

/-! ### Locket records (R424, R425) -/

/-- The life-cycle state as entries and records show it. -/
def LifeCycle.code : LifeCycle → Nat
  | .blank => 0 | .test => 1 | .production => 2 | .endOfLife => 3 | .invalid => 0xFF

/-- The fused security version: the index of the highest blown bit plus one (R416). -/
def fusedVersion (s : State) : Nat :=
  match (List.range 64).reverse.find? fun i => s.life.secver.getLsbD i with
  | some i => i + 1
  | none => 0

/-- FLAGS of this boot. -/
def bootFlags (s : State) : Nat := bit s.life.debugOpen + s.boot.flags + bit (lockedNow s) * 2 ^ 5

/-- The fuse banks in order, packed into bytes (R455). -/
def fuseBanks (s : State) : List Bytes :=
  let f := s.fuses
  let table := fun (t : Nat) => (List.range 16).flatMap fun e => natLE 8 (SMap.get 0 f.regions (16 * t + e)).toNat
  [natLE 35 s.life.bank0.toNat, natLE 8 f.serial.toNat ++ natLE 4 f.dateCode.toNat ++ natLE 4 f.wafer.toNat,
   natLE 8 f.gradeBank.toNat, natLE 8 s.life.secver.toNat, padTo 48 f.ecdsaDigest ++ padTo 48 f.mldsaDigest, padTo 512 f.helper,
   padTo 1024 f.repair, (List.range 20).flatMap table ++ natLE 24 f.matrix.toNat]

/-- SHA-384 over the fuse banks. -/
def fuseDigest (s : State) : Bytes := sha384 (fuseBanks s).flatten

/-- The unsigned bytes of a record of this boot: its kind and number, a digest, the fuse digest, and the number at bytes 128
to 135. -/
def locketBody (s : State) (kind number : Nat) (digest fuses : Bytes) (value : Nat) : Bytes :=
  [byte 1, byte kind] ++ natLE 2 (bootFlags s) ++ natLE 4 number ++ natLE 8 s.mram.bootCounter.toNat ++
    natLE 8 s.sec.deviceTime.toNat ++ padTo 48 digest ++ padTo 48 fuses ++
    [byte s.life.state.code, byte (fusedVersion s), byte s.boot.imageSecurity, 0] ++ natLE 4 s.sec.sticky ++ natLE 8 value ++
    natLE 8 s.sec.domainId ++ natLE 2 (s.sec.member % 4096 + s.twin.side % 2 * 2 ^ 15) ++ zeros 14

/-- A record as its page holds it, numbered and signed. -/
def signedRecord (body : Bytes) (number : Nat) (s : State) : Bytes × State :=
  let body := body.take 4 ++ natLE 4 number ++ slice 8 152 body
  let (sig, s) := attestSign body s
  (padTo 504 (body ++ padTo 96 sig), s)

/-- Capacity, and the number of records at which the warning is due (R426). -/
def locketCapacity : Nat := 8192
def locketWarning : Nat := 7373

/-- Queues a record as record `number`. -/
def queueRecord (body : Bytes) (number : Nat) (s : State) : State :=
  let (page, s) := signedRecord body number s
  queuePage 2 .locket number page s

/-- The boot record of this boot: queued as the next record, or held pending when the Locket is full (R425). -/
def takeBootRecord (s : State) : State :=
  if !attestReady s || !reserveCovers s 128 then s
  else
    let body := locketBody s 1 s.locket.records s.boot.imageDigest (fuseDigest s) s.boot.imageVersion
    if s.locket.records ≥ locketCapacity then { s with locket := { s.locket with pendingRecord := some body } }
    else queueRecord body s.locket.records { s with locket := { s.locket with recordQueued := true } }

/-- A Locket page has become durable: it counts, and clears the cover of the last statement (R426, R427). -/
def recordDurable (w : PageWrite) (s : State) : State :=
  let n := max s.locket.records (w.page + 1)
  let boot := decide ((w.payload.getD 1 0).toNat = 1)
  let fresh := decide (n > s.locket.records)
  let s := { s with locket := { s.locket with
    records := n, covers := false, pendingRecord := if boot then none else s.locket.pendingRecord } }
  if fresh && decide (n = locketWarning) then managerNotify 6 (logEvent 0x0506 deviceSource (natLE 4 n) s) else s

/-! ### Lost pages and torn copies (R404, R410) -/

/-- A logical page is lost. -/
def losePage (st : Store) (q : Nat) (s : State) : State :=
  let s := { s with mram := { s.mram with lost := s.mram.lost + 1 } }
  containFault 0x0D 2 0 (natLE 1 st.number ++ natLE 4 q) [] id s

/-- A logical page is looked at as its store finds its contents: copies with equal SEQ, a torn copy, a lost page. -/
def scanPage (st : Store) (s : State) (q : Nat) : State :=
  let pa := physical s (st.copyA + q)
  let pb := physical s (st.copyB + q)
  let a := SMap.get Page.blank s.mram.pages pa
  let b := SMap.get Page.blank s.mram.pages pb
  let va := Page.valid pa a
  let vb := Page.valid pb b
  if va && vb then
    if a.seq = b.seq then logEvent 0x0505 deviceSource (natLE 1 st.number ++ natLE 4 q) s else s
  else if (va && !b.emptyHeader) || (vb && !a.emptyHeader) then
    { s with mram := { s.mram with torn := s.mram.torn + 1 } }
  else if !va && !vb && !(a.emptyHeader && b.emptyHeader) then losePage st q s
  else s

/-- Every page of a store that holds something is looked at. -/
def scanStore (st : Store) (s : State) : State := (usedPages s st).foldl (scanPage st) s

end Sys2Proof.Machine
end

