-- ==== Sys2Proof/Machine/CertRows.lean ====
section
/-!
DEFINITION. The attestation certificate chain and the board data (R526, R529, R530).
-/
namespace Sys2Proof.Machine

/-! ### The pages (R526) -/

/-- First page of the certificate data, and the directory's page. -/
def certPage : Nat := 67
def certDirectory : Nat := 66

/-- The directory as stored, and its count. -/
def certCount (s : State) : Nat := ((readPage s .config certDirectory).getD 0 0).toNat

/-- Length of certificate `i` in the directory. -/
def certLength (s : State) (i : Nat) : Nat :=
  if i < certCount s ∧ i < 8 then leNat (slice (8 + 2 * i) 2 (readPage s .config certDirectory)) else 0

/-- The first data byte of certificate `i`. -/
def certStart (s : State) (i : Nat) : Nat := ((List.range i).map (certLength s)).foldl (· + ·) 0

/-- `n` data bytes from `off`, as stored. -/
def certBytes (s : State) (off n : Nat) : Bytes :=
  let first := off / 504
  let pages := (List.range ((off % 504 + n) / 504 + 1)).flatMap fun i => padTo 504 (readPage s .config (certPage + first + i))
  slice (off % 504) n pages

/-! ### Chunks (R529) -/

/-- A data byte has been written. -/
def certWritten (s : State) (d : Nat) : Bool :=
  s.dict.certData.any fun c => decide (c.1 ≤ d) && decide (d < c.1 + c.2.length)

/-- The end of the furthest chunk. -/
def certEnd (s : State) : Nat := s.dict.certData.foldl (fun m c => max m (c.1 + c.2.length)) 0

/-- The bytes of page `p` as the chunks have written them. -/
def certPageBytes (s : State) (p : Nat) : Bytes :=
  let put := fun (c : Nat × Bytes) (b : Bytes) =>
    if c.1 < 504 * (p + 1) ∧ 504 * p < c.1 + c.2.length then
      if 504 * p ≤ c.1 then (overlay (c.1 - 504 * p) c.2 b).take 504 else overlay 0 ((c.2.drop (504 * p - c.1)).take 504) b
    else b
  s.dict.certData.foldr put (zeros 504)

/-- A page is complete: its 504 B, or its bytes up to the furthest byte written. -/
def certPageDone (s : State) (p : Nat) : Bool :=
  let stop := min (504 * (p + 1)) (certEnd s)
  (List.range (stop - 504 * p)).all fun i => certWritten s (504 * p + i)

/-- A page whose bytes are complete is written. -/
def writeCertPage (s : State) (p : Nat) : State :=
  if certPageDone s p then queuePage 6 .config (certPage + p) (certPageBytes s p) s else s

/-- The directory page is blank. -/
def directoryBlank (s : State) : Bool := (latestPage s .config certDirectory).all fun b => b == 0

/-- CERTIFICATE_CHUNK: the pages that the chunk completes are written. A chain that is present is not touched. -/
def execCertificateChunk (src : Src) (value : Bytes) (s : State) : Host.Outcome State Fault Refusal :=
  let act := fun (_ : Path) (v : Bytes) (s : State) =>
    if !directoryBlank s then Answer.now 0x06 s
    else
      let off := leNat (v.take 4)
      let data := v.drop 4
      let s := { s with dict := { s.dict with certData := (off, data) :: s.dict.certData } }
      let first := off / 504
      let last := (off + data.length - 1) / 504
      Answer.now 0 (((List.range (last + 1 - first)).map (· + first)).foldl writeCertPage s)
  complete (runWrite src 0x1000 0x14 value anyValue act s)

/-! ### The commit (R529) -/

/-- One item of a DER encoding: its tag, its contents and what follows it. -/
def derItem (bs : Bytes) : Option (Nat × Bytes × Bytes) :=
  match bs with
  | tag :: n :: rest =>
    let (len, body) := if n.toNat < 128 then (n.toNat, rest)
      else (beNat (rest.take (n.toNat - 128)), rest.drop (n.toNat - 128))
    if n.toNat ≠ 128 ∧ len ≤ body.length then some (tag.toNat, body.take len, body.drop len) else none
  | _ => none

/-- The items of a DER sequence. -/
def derItems : Nat → Bytes → List (Nat × Bytes)
  | 0, _ => []
  | fuel + 1, bs =>
    match derItem bs with
    | some (tag, body, rest) => (tag, body) :: derItems fuel rest
    | none => []

/-- The public key bit string of the subjectPublicKeyInfo of an X.509 certificate, its unused-bits byte included. -/
def certKeyBits (cert : Bytes) : Option Bytes := do
  let (_, outer, _) ← derItem cert
  let (_, tbs, _) ← derItem outer
  let items := (derItems 12 tbs).filter fun x => decide (x.1 ≠ 0xA0)
  let spki ← items[5]?
  let bits_ ← (derItems 4 spki.2)[1]?
  if bits_.1 = 3 then some bits_.2 else none

/-- The attestation public key: the uncompressed point. -/
def attestPoint (s : State) : Bytes := encodePoint p384 (ecMul p384 (attestScalar s) (basePoint p384))

/-- The transport public key. -/
def transportPoint (s : State) : Bytes := encodePoint p384 (ecMul p384 (transportScalar s) (basePoint p384))

/-- The lengths of a commit's value. -/
def commitLengths (v : Bytes) : List Nat := (List.range 8).map fun i => leNat (slice (1 + 2 * i) 2 v)

/-- Count and lengths are in range. -/
def certLengthsFit (v : Bytes) : Bool :=
  let n := (v.getD 0 0).toNat
  decide (1 ≤ n) && decide (n ≤ 8) &&
    ((commitLengths v).take n).all (fun l => decide (1 ≤ l) && decide (l ≤ 2048)) && ((commitLengths v).drop n).all fun l => l == 0

/-- `n` bytes from the start of the data, as the chunks have written them. -/
def certHead (s : State) (n : Nat) : Bytes := ((List.range (n / 504 + 1)).flatMap (certPageBytes s)).take n

/-- The first condition of R529 that a commit does not meet. -/
def certCommitResult (s : State) (v : Bytes) : Nat :=
  let sum := (commitLengths v).foldl (· + ·) 0
  if !directoryBlank s then 1
  else if s.life.debugOpen then 5
  else if !certLengthsFit v then 4
  else if !(List.range sum).all (certWritten s) then 3
  else if certKeyBits (certHead s ((commitLengths v).getD 0 0)) ≠ some (0 :: attestPoint s) then 2 else 0

/-- CERTIFICATE_COMMIT: the directory page is written last. -/
def execCertificateCommit (src : Src) (value : Bytes) (s : State) : Host.Outcome State Fault Refusal :=
  let act := fun (_ : Path) (v : Bytes) (s : State) =>
    let r := certCommitResult s v
    let s := { s with dict := { s.dict with certResult := r } }
    if r ≠ 0 then Answer.now 0 s
    else
      let dir := padTo 504 (v.take 1 ++ zeros 7 ++ slice 1 16 v)
      { Answer.now 0 (queuePage 6 .config certDirectory dir s) with pages := [(Store.config, certDirectory)] }
  complete (runWrite src 0x1000 0x15 value anyValue act s)

/-! ### Board data (R530) -/

/-- The page of the board data. -/
def boardPage : Nat := 132

/-- BOARD_DATA_WRITE: who may write it `writePermitted` says; it takes effect once its page is durable. -/
def execBoardDataWrite (src : Src) (value : Bytes) (s : State) : Host.Outcome State Fault Refusal :=
  let act := fun (_ : Path) (v : Bytes) (s : State) =>
    { Answer.now 0 (queuePage 6 .config boardPage v s) with pages := [(Store.config, boardPage)] }
  complete (runWrite src 0x1000 0x17 value anyValue act s)

end Sys2Proof.Machine
end

