-- ==== Sys2Proof/Machine/KeyWrap.lean ====
section
/-!
DEFINITION. AES key wrap and the counter-mode derivation under AES-CMAC, as SP 800-38F and SP 800-108 define them (R493, R504).
-/
namespace Sys2Proof.Machine

/-- The initial value of AES key wrap. -/
def kwInitial : Bytes := List.replicate 8 0xA6

/-- One step of unwrapping: the register and semiblock `i` (from 1) of `rs` at step count `t`. -/
def kwStep (key : Bytes) (t i : Nat) (x : Bytes × List Bytes) : Bytes × List Bytes :=
  let b := decryptBlock .aes key (xorBytes x.1 (natBE 8 t) ++ x.2.getD (i - 1) [])
  (b.take 8, setAt x.2 (i - 1) (b.drop 8))

/-- The steps of unwrapping, last first. -/
def kwSteps (key : Bytes) (n : Nat) : Nat → Bytes × List Bytes → Bytes × List Bytes
  | 0, x => x
  | t + 1, x => kwSteps key n t (kwStep key (t + 1) (t % n + 1) x)

/-- AES key unwrap: the data, when the initial value is recovered. -/
def kwOpen (key wrapped : Bytes) : Option Bytes :=
  let n := wrapped.length / 8 - 1
  if wrapped.length % 8 ≠ 0 ∨ n < 2 then none
  else
    let x := kwSteps key n (6 * n) (wrapped.take 8, chunks 8 (wrapped.drop 8))
    if x.1 = kwInitial then some x.2.flatten else none

/-- One step of wrapping. -/
def kwSealStep (key : Bytes) (t i : Nat) (x : Bytes × List Bytes) : Bytes × List Bytes :=
  let b := encryptBlock .aes key (x.1 ++ x.2.getD (i - 1) [])
  (xorBytes (b.take 8) (natBE 8 t), setAt x.2 (i - 1) (b.drop 8))

/-- AES key wrap of data of two or more semiblocks. -/
def kwSeal (key data : Bytes) : Bytes :=
  let n := data.length / 8
  let x := (List.range (6 * n)).foldl (fun x t => kwSealStep key (t + 1) (t % n + 1) x) (kwInitial, chunks 8 data)
  x.1 ++ x.2.flatten

/-- Counter-mode derivation with AES-256-CMAC, counter and length as 32-bit big-endian numbers (R493; assumption 29). -/
def kdfCmac (key : Bytes) (label : String) (context : Bytes) (len : Nat) : Bytes :=
  let block := fun (i : Nat) => cmac .aes key (natBE 4 (i + 1) ++ ascii label ++ [0] ++ context ++ natBE 4 (8 * len))
  ((List.range (ceilDiv len 16)).flatMap block).take len

end Sys2Proof.Machine
end

