-- ==== Sys2Proof/Machine/LogRows.lean ====
section
/-!
DEFINITION. Clearing of fault records, Fatal escalation, and the Event Log's rows (R463, R470, R473 to R482, R574).
-/
namespace Sys2Proof.Machine

/-! ### Fault records (R473) -/

/-- The result of a clear, in the order 1, 3, 2, 0. -/
def clearRecordResult (s : State) (e : Nat) : Nat :=
  match SMap.find s.faults.records e with
  | none => 1
  | some r => if r.isFatal then 3 else if r.state ≠ recLatched then 2 else 0

/-- The unit reset that a clear brings a withdrawn unit. -/
def clearUnit (s : State) (u : Nat × Nat) : State :=
  match u.1 with
  | 6 => putPair false u.2 Pair.empty s
  | 7 => putPair true u.2 Pair.empty s
  | 9 => resetCore u.2 s
  | n => resetUnit n u.2 s

/-- A latched record is cleared: its withdrawn units are reset and tested, and it is freed once all are. -/
def clearRecord (e : Nat) (r : FaultRecord) (fn : Nat) (s : State) : State :=
  let testing := r.units.filter fun u => isWithdrawn u.1 u.2 s
  let s := testing.foldl clearUnit s
  let s := if testing.isEmpty then freeRecord e s else putRecord e { r with state := recClearing, testing := testing } s
  logEvent 0x0203 r.code ([byte e, 0] ++ natLE 2 fn) s

/-- FAULT_RECORD_CLEAR (R473). -/
def execFaultRecordClear (src : Src) (s : State) : Host.Outcome State Fault Refusal :=
  let act := fun (p : Path) (s : State) =>
    let e := (pathSel s p).faultSel
    let r := clearRecordResult s e
    let s := { s with faults := { s.faults with clearResult := r } }
    match SMap.find s.faults.records e with
    | some x => if r = 0 then Answer.now 0 (clearRecord e x (pathSource s p) s) else Answer.now 0 s
    | none => Answer.now 0 s
  complete (runAction src 0x6100 0x05 1 act s)

/-! ### Fatal escalation (R470, R574) -/

/-- The reset is withheld: no image passes, or the start-ups that escalation has ended have reached 3. -/
def escalationWithheld (s : State) : Bool :=
  s.faults.records.any (fun r => decide (r.2.code = faultCode 3 0x0D 0x05)) ||
    (!startedUp s && decide (s.sec.escalations ≥ 3))

/-- The delay has run out: the escalation event is staged, and the wait for the log begins, of 100 ms at most. -/
def beginEscalation (e : Nat) (r : FaultRecord) (s : State) : State :=
  let s := logRequired 0x0205 r.code [byte e] s
  { s with faults := { s.faults with escalating := true, escalateBy := s.disp.tick + 100000,
                                     escalateEvent := s.log.total } }

/-- The reset of an escalation. -/
def escalationReset (s : State) : State :=
  let n := if startedUp s then s.sec.escalations else s.sec.escalations + 1
  applyWarmReset { s with sec := { s.sec with escalations := n } }

/-- FATAL_ESCALATION: the delay of OD 0x6100:0A has run out; then the records are durable, or 100 ms have gone. -/
def execFatalEscalation (s : State) : Host.Outcome State Fault Refusal :=
  match firstOpened (s.faults.records.filter fun r => r.2.isFatal) with
  | none => complete s
  | some (e, r) =>
    if s.faults.escalating then
      if eventDurable s s.faults.escalateEvent || decide (s.disp.tick ≥ s.faults.escalateBy) then complete (escalationReset s)
      else complete s
    else if s.faults.delay = 0 ∨ s.disp.tick < r.opened + s.faults.delay * 1000 ∨ escalationWithheld s then complete s
    else complete (beginEscalation e r s)

/-! ### The Event Log -/

/-- EVENT_APPEND (R475). -/
def execEventAppend (s : State) : Host.Outcome State Fault Refusal :=
  if canAppend s then complete (closeAfterReply (appendStaged s)) else complete s

/-- EVENT_LOG_EXPORT (R481); without a root there is no attestation key, without a draw no signature, and a condition of the entry is not met (DEDUCED, assumption 14). -/
def execEventLogExport (src : Src) (s : State) : Host.Outcome State Fault Refusal :=
  let act := fun (p : Path) (s : State) =>
    if canSign s then Answer.now 0 (exportLog (pathSource s p) 0 s) else Answer.now 0x04 s
  complete (runAction src 0x6200 0x06 1 act s)

/-- EVENT_LOG_EXPORT_HOLD (R481): the hold keeps the statement covering every record. -/
def execEventLogExportHold (src : Src) (s : State) : Host.Outcome State Fault Refusal :=
  let act := fun (p : Path) (s : State) =>
    if canSign s then
      let due := s.disp.tick + s.log.holdTime * 1000000
      Answer.now 0 (exportLog (pathSource s p) 1 { s with log := { s.log with hold := some due } })
    else Answer.now 0x04 s
  complete (runAction src 0x6200 0x06 2 act s)

/-- HOLD_TIMEOUT (R481). -/
def execHoldTimeout (s : State) : Host.Outcome State Fault Refusal :=
  match s.log.hold with
  | some due => if s.disp.tick ≥ due then complete { s with log := { s.log with hold := none } } else complete s
  | none => complete s

/-- A ceremony of its own ends with its step; one that is part of the unlock goes on. -/
def endOwnCeremony (n : Nat) (s : State) : State := if s.custody.ceremony = n then endCeremony 1 s else s

/-- The clear of the Event Log starts: pages from the highest down to page 1 are erased. -/
def startLogClear (s : State) : State :=
  let pages := ((usedPages s .log).filter fun q => decide (q ≥ 1)).reverse
  startErase .logClear .log pages
    { s with mram := { s.mram with queue := s.mram.queue.filter fun w => decide (w.store ≠ .log) }
             log := { s.log with inFlight := 0 } }

/-- EVENT_LOG_CLEAR (R482). -/
def execEventLogClear (src : Src) (s : State) : Host.Outcome State Fault Refusal :=
  let act := fun (_ : Path) (s : State) =>
    if s.log.hold.isSome && s.log.covers then
      let s := startLogClear { s with log := { s.log with clearResult := 0 } }
      { Answer.noted 0 s (endOwnCeremony 6 s) with pages := [(.log, 0)] }
    else Answer.now 0 { s with log := { s.log with clearResult := 1 } }
  complete (runAction src 0x6200 0x09 1 act s)

/-- The erase of a clear has ended: page 0 holds the clear record and its continuation, and the hold ends (R482). -/
def finishLogClear (source : Nat) (s : State) : State :=
  let digest := slice 16 48 s.log.statement
  let first := { deviceEvent s 0x0701 (natLE 4 s.log.records ++ natLE 4 s.log.sinceClear.toNat ++ digest.take 24) with
                   source := source }
  let second := { deviceEvent s 0x0702 (digest.drop 24) with source := source }
  let s := { s with log := { s.log with records := 0, sinceClear := 0, hold := none, warn := false } }
  let (b, s) := placeRecord first (zeros 504) s
  let (b, s) := placeRecord second b s
  queuePage 5 .log 0 b s

/-- The tail: one past the highest position whose record is not all zero (R477). -/
def tailOf (s : State) : Nat :=
  let written := fun (r : Nat) => (logRecordAt s r).any fun b => b != 0
  let positions := (usedPages s .log).flatMap fun q => (List.range 7).map fun i => 7 * q + i
  match positions.reverse.find? written with
  | some r => r + 1
  | none => 0

/-- The highest SEQ found. -/
def highestSeq (s : State) : Nat :=
  (List.range s.log.records).foldl (fun m r => max m (recordSeq (logRecordAt s r))) 0

/-- The store of the log as start-up finds it. -/
def findLogTail (s : State) : State :=
  let s := scanStore .log s
  let n := tailOf s
  let s := { s with log := { s.log with records := n, tailFound := true } }
  let next := nextSeqOf (BitVec.ofNat 32 (highestSeq s))
  let last := if n = 0 then zeros 64 else logRecordAt s (n - 1)
  { s with log := { s.log with nextSeq := next, last := last } }

/-- Stages of start-up in which the stores are looked for their tails: the firmware runs, or the boot ROM in recovery, or an
RNG failure has stopped start-up, whose fault record is appended all the same (R327, R409, R419). -/
def tailsSought (s : State) : Bool :=
  match s.boot.phase with
  | .loading | .recovery | .stopped => true
  | _ => false

/-- EVENT_LOG_TAIL_FOUND: a boot that runs the firmware stages its boot event (R418). -/
def execEventLogTailFound (s : State) : Host.Outcome State Fault Refusal :=
  if !tailsSought s || !s.locket.tailFound || s.log.tailFound then complete s
  else if s.boot.phase ≠ .loading then complete (findLogTail s)
  else
    let s := findLogTail s
    let args := natLE 8 s.mram.bootCounter.toNat ++ [byte s.boot.slot] ++ natLE 2 (bootFlags s)
    complete (logEvent 0x0501 deviceSource args s)

/-! ### The Locket (R409, R425 to R428) -/

/-- One past the highest record, lost records counted. -/
def locketTail (s : State) : Nat :=
  let there := fun (q : Nat) => match pageView s .locket q with
    | .empty => false
    | _ => true
  match (usedPages s .locket).reverse.find? there with
  | some q => q + 1
  | none => 0

/-- LOCKET_TAIL_FOUND (R409, R424, R425): a boot that runs the firmware then takes its boot record. -/
def execLocketTailFound (s : State) : Host.Outcome State Fault Refusal :=
  if !tailsSought s || s.locket.tailFound then complete s
  else
    let s' := scanStore .locket s
    let s' := { s' with locket := { s'.locket with records := locketTail s', tailFound := true } }
    if s.boot.phase = .loading then complete (takeBootRecord s') else complete s'

/-- The record at a number: 256 bytes, zeros when it is lost. -/
def locketRecord (s : State) (n : Nat) : Bytes := (latestPage s .locket n).take 256

/-- LOCKET_EXPORT (R427). -/
def execLocketExport (src : Src) (s : State) : Host.Outcome State Fault Refusal :=
  let act := fun (_ : Path) (s : State) =>
    if !canSign s then Answer.now 0x04 s
    else
      let n := s.locket.records
      let records := (List.range n).flatMap fun r => locketRecord s r
      let (st, s) := statement 0 (n - 1) n 0 (sha384 records) s
      Answer.now 0 { s with locket := { s.locket with statement := st, covers := true } }
  complete (runAction src 0x6300 0x05 1 act s)

/-- LOCKET_CLEAR (R428). -/
def execLocketClear (src : Src) (s : State) : Host.Outcome State Fault Refusal :=
  let act := fun (_ : Path) (s : State) =>
    if s.locket.covers then
      let pages := ((usedPages s .locket).filter fun q => decide (q ≥ 1)).reverse
      let s := startErase .locketClear .locket pages { s with locket := { s.locket with clearResult := 0 } }
      { Answer.noted 0 s (endOwnCeremony 7 s) with pages := [(.locket, 0)] }
    else Answer.now 0 { s with locket := { s.locket with clearResult := 1 } }
  complete (runAction src 0x6300 0x08 1 act s)

/-- The erase has ended: record 0 is the clear record, and a pending boot record follows it as record 1. -/
def finishLocketClear (source : Nat) (s : State) : State :=
  let n := s.locket.records
  let body := locketBody s 2 0 (slice 16 48 s.locket.statement) [] n
  let s := logEvent 0x0507 source (natLE 4 n) { s with locket := { s.locket with records := 0, covers := false } }
  let s := queueRecord body 0 s
  match s.locket.pendingRecord with
  | some b => queueRecord b 1 s
  | none => s

end Sys2Proof.Machine
end

