-- ==== Sys2Proof/Machine/TamperRows.lean ====
section
/-!
DEFINITION. Tamper sources, arming, and the unlock ceremony (R14, R431 to R445).
-/
namespace Sys2Proof.Machine

/-! ### Sources (R431, R433, R440, R451) -/

/-- A source's monitor watches: the external Filigree and the seal loop while armed; VBAT_LOST has no monitor of its own. -/
def monitorArmed (s : State) (source : Nat) : Bool :=
  tamperArmed s && decide (source < 10) && decide (source ≠ 5) &&
    (decide (source ≠ 3) || decide (s.sec.extArmed ≠ 0)) && (decide (source ≠ 4) || s.sec.sealArmed)

/-- The light detector that is asserted alone with these live sources, since Device Time `now` unless it was alone before (R436). -/
def lightAloneWith (live now : Nat) (old : Option (Nat × Nat × Bool)) : Option (Nat × Nat × Bool) :=
  if bitOf live 0 = bitOf live 1 then none
  else
    let d := if bitOf live 0 then 0 else 1
    match old with
    | some (e, t, told) => if e = d then some (e, t, told) else some (d, now, false)
    | none => some (d, now, false)

/-- A source is live, or no longer; while one is, the root is not reconstructed (R304). -/
def setLive (source : Nat) (on : Bool) (s : State) : State :=
  let bit := 2 ^ source
  let live := if on then s.tamper.live ||| bit else s.tamper.live - (s.tamper.live &&& bit)
  { s with tamper := { s.tamper with live := live, quietFor := if on then 0 else s.tamper.quietFor,
                                     lightAlone := lightAloneWith live s.sec.deviceTime.toNat s.tamper.lightAlone } }

/-- TAMPER_SOURCE: a condition begins or ends. The response starts on the first decision; the second follows (R440). -/
def execTamperSource (source : Nat) (asserted : Bool) (s : State) : Host.Outcome State Fault Refusal :=
  if source ≥ 10 then complete s
  else if !asserted then complete (setLive source false s)
  else if !monitorArmed s source then complete s
  else
    let s := tamperResponse source (setLive source true s)
    complete { s with tamper := { s.tamper with decisions := s.tamper.decisions ++ [(.tamper source, true)] } }

/-- ALARM_LINES_DISAGREE (R14): a monitor-fault event, and a Class 1 tamper of source VDD_GLITCH. -/
def execAlarmLinesDisagree (s : State) : Host.Outcome State Fault Refusal :=
  if computeUp s && tamperArmed s then complete (tamperResponse 6 (logEvent 0x0305 deviceSource [] s)) else complete s

/-- LIGHT_DETECTOR_DISAGREEMENT (R436): the detector, 0 A or 1 B, has been asserted alone for more than 1 s; once each time. -/
def execLightDetectorDisagreement (detector : Nat) (s : State) : Host.Outcome State Fault Refusal :=
  match s.tamper.lightAlone with
  | some (d, t, false) =>
    if d = detector ∧ s.sec.deviceTime.toNat > t + 32768 then
      complete (logEvent 0x0302 deviceSource [byte detector]
        { s with sec := { s.sec with lightDisagreements := s.sec.lightDisagreements + 1 }
                 tamper := { s.tamper with lightAlone := some (d, t, true) } })
    else complete s
  | _ => complete s

/-! ### Arming (R434) -/

/-- Arming takes effect. -/
def takeArming (ext : Nat) (loop : Bool) (s : State) : State :=
  let args := [byte s.sec.extArmed, byte ext, byte (bit s.sec.sealArmed), byte (bit loop)]
  let source := if s.custody.session = .opened then consoleSource s else deviceSource
  let s := logRequired 0x0306 source args { s with sec := { s.sec with extArmed := ext, sealArmed := loop } }
  { s with tamper := { s.tamper with arming := none, unlockResult := 0 } }

/-- What is asked for: a new arming waits for two correct periods, a disarming takes effect at once. -/
def askArming (ext : Nat) (loop : Bool) (s : State) : State :=
  let more := decide (ext ||| s.sec.extArmed ≠ s.sec.extArmed) || (loop && !s.sec.sealArmed)
  if more then { s with tamper := { s.tamper with arming := some (ext, loop) } }
  else if ext = s.sec.extArmed ∧ loop = s.sec.sealArmed then { s with tamper := { s.tamper with arming := none } }
  else takeArming ext loop s

/-- EXTERNAL_FILIGREE_ARM. -/
def execExternalFiligreeArm (src : Src) (value : Bytes) (s : State) : Host.Outcome State Fault Refusal :=
  let act := fun (_ : Path) (v : Bytes) (s : State) =>
    let loop := match s.tamper.arming with
      | some (_, l) => l
      | none => s.sec.sealArmed
    Answer.noted 0 s (askArming (leNat v) loop s)
  complete (runWrite src 0x6000 0x05 value anyValue act s)

/-- SEAL_LOOP_ARM. -/
def execSealLoopArm (src : Src) (value : Bytes) (s : State) : Host.Outcome State Fault Refusal :=
  let act := fun (_ : Path) (v : Bytes) (s : State) =>
    let ext := match s.tamper.arming with
      | some (e, _) => e
      | none => s.sec.extArmed
    Answer.noted 0 s (askArming ext (decide (leNat v = 1)) s)
  complete (runWrite src 0x6000 0x06 value anyValue act s)

/-- ARMING_COMPLETE: two consecutive periods have compared correctly, or the write is refused with result 2. -/
def execArmingComplete (correct : Bool) (s : State) : Host.Outcome State Fault Refusal :=
  match s.tamper.arming with
  | none => complete s
  | some (ext, loop) =>
    if correct then complete (takeArming ext loop s)
    else complete { s with tamper := { s.tamper with arming := none, unlockResult := 2 } }

/-! ### The unlock (R445) -/

/-- What the write of the flags comes to. -/
def unlockResultOf (s : State) (value : Nat) : Nat :=
  if s.tamper.live ≠ 0 then 1
  else if evlogFull s || locketFull s then 3
  else if value ≠ s.sec.sticky then 4 else 0

/-- The flags are cleared: LOCKED clears unless the state is INVALID, rings resume, and the reload of step 6 begins. -/
def unlock (s : State) : State :=
  let s := logRequired 0x0307 (consoleSource s) (natLE 4 s.sec.sticky) s
  let s := { s with sec := { s.sec with sticky := 0 } }
  let s := if s.life.state = .endOfLife then s else { s with tamper := { s.tamper with reloading := true } }
  endOwnCeremony 1 (if lockedNow s then s else thawQps s)

/-- CLEAR_FLAGS. -/
def execClearFlags (src : Src) (value : Bytes) (s : State) : Host.Outcome State Fault Refusal :=
  let act := fun (_ : Path) (v : Bytes) (s : State) =>
    let r := unlockResultOf s (leNat v)
    let s := { s with tamper := { s.tamper with unlockResult := r } }
    if r = 0 then Answer.recorded 0 (unlock s) else Answer.now 0 s
  complete (runWrite src 0x6000 0x03 value anyValue act s)

end Sys2Proof.Machine
end

