-- ==== Sys2Proof/Machine/CustodyOps.lean ====
section
/-!
DEFINITION. What the custody bus rests on: received frames and their tags, session keys, sessions, consoles and dual presence
(R486 to R500).
-/
namespace Sys2Proof.Machine

/-! ### Frames (R486 to R488) -/

/-- The broadcast address. -/
def broadcastMac : Bytes := List.replicate 6 0xFF

/-- Fields of a received frame. -/
def frameType (f : Frame) : Nat := (f.body.getD 1 0).toNat
def frameLen (f : Frame) : Nat := leNat (slice 2 2 f.body)
def frameSession (f : Frame) : Nat := leNat (slice 4 4 f.body)
def frameSeq (f : Frame) : Nat := leNat (slice 8 4 f.body)
def frameContent (f : Frame) : Bytes := slice 12 (frameLen f) f.body
def frameTag (f : Frame) : Bytes := slice (12 + frameLen f) 16 f.body

/-- A frame is one of its type with LENGTH from `lo` to `hi`, sent to this device, while the bus is up. -/
def frameFor (s : State) (type lo hi : Nat) (broadcast : Bool) (f : Frame) : Bool :=
  s.custody.linkUp && computeUp s && decide (f.etherType = 0x88B5) && decide (frameType f = type) && decide (f.body.getD 0 0 = 1) && decide (lo ≤ frameLen f) &&
    decide (frameLen f ≤ hi) && decide (f.body.length ≥ 28 + frameLen f) &&
    (decide (f.dest = deviceMac s) || (broadcast && decide (f.dest = broadcastMac)))

/-- The tag of a frame verifies; without a key, as after a Fatal fault has cleared the session's, none does (R498). -/
def tagGood (key : Bytes) (f : Frame) : Bool :=
  decide (key.length = 32) && decide (frameTag f = cmac .aes key (f.source ++ f.body.take (12 + frameLen f)))

/-- Sends a frame. -/
def sendLlyno (dest : Bytes) (type session seq : Nat) (body : Bytes) (key : Option Bytes) (s : State) : State :=
  send (.llyno dest (llynoFrame s type session seq body key)) s

/-- ERROR with its reason. -/
def sendError (dest : Bytes) (reason : Nat) (s : State) : State := sendLlyno dest 0x1F 0 0 [byte reason] none s

/-- The controller is withdrawn (R505). -/
def custodyOut (s : State) : Bool := isWithdrawn 0x0C 0 s

/-! ### Consoles and session keys (R490, R493) -/

/-- The vault slot of a console. -/
def consoleSlot (c : Nat) : Nat := 3 + c

/-- Console `c` is enrolled. -/
def enrolled (s : State) (c : Nat) : Bool := decide (c < 5) && (vaultSlot s (consoleSlot c)).isSome

/-- No console is enrolled. -/
def noConsole (s : State) : Bool := !(List.range 5).any (enrolled s)

/-- The attribute word of console keys. -/
def consoleAttr : Nat := 0x04000DA5

/-- K_mac and K_wrap of a session. -/
def sessionKeys (key nc nd : Bytes) (ident : Nat) : Bytes × Bytes :=
  let context := nc ++ nd ++ natLE 4 ident
  (kdfCmac key "LLYNO MAC" context 32, kdfCmac key "LLYNO WRAP" context 32)

/-- A non-zero session ID is drawn. -/
def drawIdent (s : State) : Nat × State := drawNonzero 4 s

/-! ### Sessions (R494 to R497) -/

/-- Ticks of a second. -/
def second : Nat := 1000000

/-- An accepted frame puts off the idle close. -/
def touchSession (s : State) : State :=
  { s with custody := { s.custody with due := s.disp.tick + s.custody.idle * second, tagFails := 0 } }

/-- A session opens: event 0x0801, SEQ at 0, and the session's own dictionary values at their defaults (R494, R521). -/
def openSession (s : State) : State :=
  let s := { s with custody := { s.custody with session := .opened, seq := 0, cached := [], opened := s.custody.opened + 1 } }
  let s := modifyPath .custody (fun _ => PathSel.reset) (touchSession s)
  logEvent 0x0801 (consoleSource s) (natLE 4 s.custody.sessionId) s

/-- An opening session ends without having opened. -/
def dropOpening (s : State) : State :=
  clearSessionKeys { s with custody := { s.custody with session := .none, console := 0xFF, sessionId := 0, peerMac := [],
                                                        enrol := none } }

/-- A frame is rejected within a session: 1 tag, 2 SEQ; eight tags in a row close it (R495, R497). -/
def rejectFrame (reason : Nat) (s : State) : State :=
  let s := logEvent 0x0803 (consoleSource s) [byte reason] s
  let n := if reason = 1 then s.custody.tagFails + 1 else 0
  let s := { s with custody := { s.custody with rejected := s.custody.rejected + 1, tagFails := n } }
  if n ≥ 8 then closeSession 4 s else s

/-- A tagged frame of the session in force. -/
def ofSession (s : State) (f : Frame) : Bool :=
  decide (s.custody.session = .opened) && decide (frameSession f = s.custody.sessionId)

/-! ### Presence (R499 to R501) -/

/-- An input is validated. -/
def inputValid (s : State) (input : Nat) : Bool := if input = 0 then s.custody.presA.isSome else s.custody.presB.isSome

/-- At least one input is validated. -/
def presence (s : State) : Bool := inputValid s 0 || inputValid s 1

/-- Presence state as OD 0x7800:0A shows it. -/
def presenceState (s : State) : Nat := bit (inputValid s 0) + bit (inputValid s 1) * 2 + bit s.custody.dual * 4

/-- The state of presence has changed: its event, and the posting of PRESENCE. -/
def presenceChanged (s : State) : State := postDeviceEvent 9 (logEvent 0x0804 deviceSource [byte (presenceState s)] s)

/-- Writes one input. -/
def setInput (input : Nat) (v : Option Nat) (s : State) : State :=
  if input = 0 then { s with custody := { s.custody with presA := v } } else { s with custody := { s.custody with presB := v } }

/-- The validation of an input stands: dual presence when the other was validated no more than 30 s earlier, else the window
is missed. -/
def validateInput (input : Nat) (s : State) : State :=
  let other := if input = 0 then s.custody.presB else s.custody.presA
  let s := setInput input (some s.sec.deviceTime.toNat) s
  match other with
  | none => presenceChanged s
  | some t =>
    if s.sec.deviceTime.toNat ≤ t + 30 * 32768 then presenceChanged { s with custody := { s.custody with dual := true } }
    else logEvent 0x0805 deviceSource [] (presenceChanged s)

/-- An input is released: dual presence ends, and with it the open ceremony; with both released the session closes. -/
def releaseInput (input : Nat) (s : State) : State :=
  let was := s.custody.dual
  let s := presenceChanged (setInput input none { s with custody := { s.custody with dual := false } })
  let s := if was then endCeremony 3 s else s
  if presence s then s else if s.custody.session = .opened then closeSession 5 s else s

/-! ### Ceremonies (R42, R503) -/

/-- A ceremony is refused by mode. -/
def ceremonyRefused (s : State) (n : Nat) : Bool :=
  (lockedNow s && !(decide (n = 1) || (decide (n = 10) && decide (lockCauseNow s = 3)))) ||
    (decide (s.life.state = .endOfLife) && !(List.contains [1, 6, 7] n)) ||
    (s.modes.word.service && [5, 9, 10, 11].contains n)

/-- A ceremony opens. -/
def openCeremony (n : Nat) (s : State) : State :=
  logRequired 0x0808 (consoleSource s) [byte n]
    { s with custody := { s.custody with ceremony := n, ceremonyAt := s.disp.tick, components := [] } }

end Sys2Proof.Machine
end

