-- ==== Sys2Proof/Machine/CustodyRows.lean ====
section
/-!
DEFINITION. The custody bus: enrolment, sessions, presence, ceremonies and key loading; REQUEST stands in `Requests` (R485 to
R505).
-/
namespace Sys2Proof.Machine

/-! ### Sessions (R493, R494, R497) -/

/-- The ERROR reason that an OPEN_REQ of console `c` meets, 0 for none. -/
def openRefused (s : State) (c : Nat) : Nat :=
  if s.custody.session ≠ .none then 1
  else if !presence s then 2
  else if !enrolled s c then 3
  else if custodyOut s then 4
  else if s.rng.state ≠ 1 then 5 else 0

/-- A session for console `c` is opening. -/
def beginSession (c ident : Nat) (keys : Bytes × Bytes) (mac : Bytes) (s : State) : State :=
  { s with custody := { s.custody with session := .opening, console := c, sessionId := ident, kmac := keys.1, kwrap := keys.2,
                                       peerMac := mac, seq := 0, cached := [], tagFails := 0, due := s.disp.tick + second } }

/-- OPEN_REQ. The answer waits, and the request is repeated, while the draws of R331 cannot be served. -/
def execOpenReq (frame : Frame) (s : State) : Host.Outcome State Fault Refusal :=
  let body := frameContent frame
  if !frameFor s 0x01 32 32 true frame || !(slice 1 15 body).all (fun b => b == 0) then complete s
  else
    let s := wake s
    let c := (body.getD 0 0).toNat
    let r := openRefused s c
    if r ≠ 0 then complete (sendError frame.source r s)
    else if !reserveCovers s 20 then complete s
    else
      let (nd, s) := drawSystem 16 s
      let (ident, s) := drawIdent s
      let keys := sessionKeys (vaultKey s (consoleSlot c)) (slice 16 16 body) nd ident
      complete (sendLlyno frame.source 0x02 ident 0 nd (some keys.1) (beginSession c ident keys frame.source s))

/-- OPEN_CONF: the opening session opens, or ends when the tag fails. -/
def execOpenConf (frame : Frame) (s : State) : Host.Outcome State Fault Refusal :=
  if !frameFor s 0x03 0 0 false frame || decide (s.custody.session ≠ .opening) || s.custody.enrol.isSome ||
      decide (frameSession frame ≠ s.custody.sessionId) then complete s
  else
    let s := wake s
    if tagGood s.custody.kmac frame then complete (openSession s) else complete (dropOpening s)

/-- SESSION_OPEN_TIMEOUT. -/
def execSessionOpenTimeout (s : State) : Host.Outcome State Fault Refusal :=
  if s.custody.session = .opening ∧ s.disp.tick ≥ s.custody.due then complete (dropOpening s) else complete s

/-- CLOSE. -/
def execClose (frame : Frame) (s : State) : Host.Outcome State Fault Refusal :=
  if !frameFor s 0x13 0 0 false frame || !ofSession s frame then complete s
  else
    let s := wake s
    if tagGood s.custody.kmac frame then complete (closeSession 1 s) else complete (rejectFrame 1 s)

/-- SESSION_IDLE_TIMEOUT. -/
def execSessionIdleTimeout (s : State) : Host.Outcome State Fault Refusal :=
  if s.custody.session = .opened ∧ s.disp.tick ≥ s.custody.due then complete (closeSession 2 s) else complete s

/-- CUSTODY_LINK_DOWN. -/
def execCustodyLinkDown (s : State) : Host.Outcome State Fault Refusal :=
  if !s.custody.linkUp then complete s
  else
    let s := { s with custody := { s.custody with linkUp := false } }
    if s.custody.session = .opening then complete (dropOpening s) else complete (closeSession 3 s)

/-- CUSTODY_LINK_UP. -/
def execCustodyLinkUp (s : State) : Host.Outcome State Fault Refusal :=
  if computeUp s then complete { s with custody := { s.custody with linkUp := true } } else complete s

/-- JABBER (R505): the controller is reset and withdrawn, and its session ends. -/
def execJabber (s : State) : Host.Outcome State Fault Refusal :=
  if !computeUp s || custodyOut s then complete s
  else
    let respond := fun (s : State) => if s.custody.session = .opening then dropOpening s else closeSession 7 s
    complete (containFault 0x0C 2 0 [] [(0x0C, 0)] respond s)

/-- The frame is the next of its session, or the one executed last; any other is discarded and counted. -/
inductive FrameOrder
  | next
  | again
  | wrong
  deriving DecidableEq, Repr

/-- Where a frame stands in its session (R495). -/
def frameOrder (s : State) (f : Frame) : FrameOrder :=
  if frameSeq f = s.custody.seq + 1 then .next
  else if frameSeq f = s.custody.seq ∧ s.custody.seq ≠ 0 then .again else .wrong

/-- The reply of the frame executed last is sent again. -/
def repeatReply (s : State) : State :=
  if s.custody.cached.isEmpty then s else send (.llyno s.custody.peerMac s.custody.cached) s

/-- A tagged frame in session whose execution is `run`; a frame breaks the idle time (R39). -/
def runFrame (type lo hi : Nat) (frame : Frame) (run : State → State) (s : State) : State :=
  if !frameFor s type lo hi false frame || !ofSession s frame then s
  else
    let s := wake s
    let s := { s with modes := { s.modes with idleFor := 0 } }
    if !tagGood s.custody.kmac frame then rejectFrame 1 s
    else
      match frameOrder s frame with
      | .next => run { touchSession s with custody := { (touchSession s).custody with seq := frameSeq frame, cached := [] } }
      | .again => repeatReply (touchSession s)
      | .wrong => rejectFrame 2 s

/-- KEEPALIVE: executed once, and answered like a request. -/
def execKeepalive (frame : Frame) (s : State) : Host.Outcome State Fault Refusal :=
  if s.dict.held.any (fun h => decide (h.path = .custody)) then complete s
  else complete (runFrame 0x12 0 0 frame (custodyReply 0 []) s)

/-- Consoles enrolled, a bit each. -/
def consoleBits (s : State) : Nat := ((List.range 5).map fun c => bit (enrolled s c) * 2 ^ c).foldl (· + ·) 0

/-- A second has passed since the last ANNOUNCE (R489). -/
def announceDue (s : State) : Bool :=
  match s.custody.announcedAt with
  | none => true
  | some t => decide (s.sec.deviceTime.toNat ≥ t + 32768)

/-- ANNOUNCE (R489): once a second, outside BLANK. -/
def execAnnounce (s : State) : Host.Outcome State Fault Refusal :=
  if !decoded s || !s.custody.linkUp || decide (s.life.state = .blank) || !announceDue s then complete s
  else
    let s := { s with custody := { s.custody with announcedAt := some s.sec.deviceTime.toNat } }
    let body := natLE 8 s.fuses.serial.toNat ++ [byte s.life.state.code] ++ natLE 4 s.modes.word.toNat ++
      [byte (consoleBits s), byte (bit (decide (s.custody.session = .opened)))]
    complete (sendLlyno broadcastMac 0x20 0 0 body none s)

/-! ### Enrolment (R491) -/

/-- Ceremony 3 is open in the session, no more than 60 s old. -/
def enrolWindow (s : State) : Bool :=
  decide (s.custody.session = .opened) && decide (s.custody.ceremony = 3) && decide (s.disp.tick ≤ s.custody.ceremonyAt + 60 * second)

/-- The lowest EMPTY console number. -/
def freeConsole (s : State) : Option Nat := (List.range 5).find? fun c => !enrolled s c

/-- The ERROR reason that an ENROL_REQ meets, 0 for none. -/
def enrolRefused (s : State) : Nat :=
  if noConsole s && !enrolWindow s then
    if s.custody.session ≠ .none then 1
    else if !s.custody.dual || !attestReady s then 3
    else if custodyOut s then 4
    else if s.rng.state ≠ 1 then 5 else 0
  else if !enrolWindow s || !s.custody.dual || !attestReady s || (freeConsole s).isNone then 3
  else if custodyOut s then 4
  else if s.rng.state ≠ 1 then 5 else 0

/-- The console key of a shared secret and both public keys. -/
def consoleKeyOf (z consolePub devicePub : Bytes) : Bytes :=
  (sha384 (natBE 4 1 ++ z ++ ascii "LLYNO CONSOLE" ++ consolePub ++ devicePub)).take 32

/-- The device's part of the handshake: its key pair, the console key and the signature are formed, and ENROL_RESP is sent. -/
def answerEnrol (c : Nat) (frame : Frame) (s : State) : State :=
  let body := frameContent frame
  let peer := slice 32 97 body
  let (d, s) := drawSystem 56 s
  let (priv, pub) := ecKeyPair p384 d
  match ecdhOp p384 priv peer with
  | .done z =>
    let opens := decide (s.custody.session = .none)
    let (nd, s) := drawSystem 16 s
    let (ident, s) := if opens then drawIdent s else (s.custody.sessionId, s)
    let key := consoleKeyOf z peer pub
    let keys := sessionKeys key (slice 16 16 body) nd ident
    let (sig, s) := attestSign (peer ++ pub ++ [byte c]) s
    let e : Enrolment := { console := c, key := key, label := body.take 16, opens := opens, kmac := keys.1, mac := frame.source,
                           due := s.disp.tick + second }
    let s := if opens then beginSession c ident keys frame.source s else s
    let s := { s with custody := { s.custody with enrol := some e } }
    sendLlyno frame.source 0x05 ident 0 ([byte c] ++ nd ++ pub ++ padTo 96 sig) none s
  | _ => sendError frame.source 3 s

/-- ENROL_REQ. -/
def execEnrolReq (frame : Frame) (s : State) : Host.Outcome State Fault Refusal :=
  if !frameFor s 0x04 129 129 true frame then complete s
  else
    let s := wake s
    match enrolRefused s, freeConsole s with
    | 0, some c => complete (if reserveCovers s 204 then answerEnrol c frame s else s)
    | 0, none => complete (sendError frame.source 3 s)
    | r, _ => complete (sendError frame.source r s)

/-- The enrolment ends without effect. -/
def dropEnrolment (e : Enrolment) (s : State) : State :=
  if e.opens then dropOpening s else { s with custody := { s.custody with enrol := none } }

/-- The console is enrolled: in case (a) its session opens, and the unlock ceremony with it while LOCKED; in case (b) ceremony 3
ends. -/
def finishEnrolment (e : Enrolment) (s : State) : State :=
  let s := writeVault (consoleSlot e.console) e.key consoleAttr s
  let s := { s with custody := { s.custody with enrol := none, labels := SMap.put s.custody.labels e.console e.label } }
  let s := if e.opens then openSession s else s
  let s := logRequired 0x0806 (0x8000 + e.console) ([byte e.console] ++ keyCheckValue 5 e.key) s
  if !e.opens then endCeremony 1 s
  else if lockedNow s && s.custody.dual then openCeremony 1 s else s

/-- An ENROL_CONF that does not complete the enrolment ends it; in case (b) a failed tag is one of the session's (R488, R491). -/
def rejectEnrolment (e : Enrolment) (frame : Frame) (s : State) : State :=
  let s := dropEnrolment e s
  if e.opens || tagGood e.kmac frame then s else rejectFrame 1 s

/-- ENROL_CONF. -/
def execEnrolConf (frame : Frame) (s : State) : Host.Outcome State Fault Refusal :=
  match s.custody.enrol with
  | none => complete s
  | some e =>
    if !frameFor s 0x06 0 0 false frame || decide (frameSession frame ≠ s.custody.sessionId) then complete s
    else
      let s := wake s
      if tagGood e.kmac frame && (vaultSlot s (consoleSlot e.console)).isNone then complete (finishEnrolment e s)
      else complete (rejectEnrolment e frame s)

/-- ENROL_CONF_TIMEOUT: of an enrolment within ceremony 3. -/
def execEnrolConfTimeout (s : State) : Host.Outcome State Fault Refusal :=
  match s.custody.enrol with
  | some e => if s.disp.tick ≥ e.due ∧ e.opens = false then complete (dropEnrolment e s) else complete s
  | none => complete s

/-! ### Presence (R438, R499) -/

/-- PRESENCE_VALIDATED: the first of the two decisions; the input is validated by the second. -/
def execPresenceValidated (input : Nat) (s : State) : Host.Outcome State Fault Refusal :=
  let d := Decision.presence input
  if input ≥ 2 ∨ inputValid s input = true ∨ s.tamper.decisions.any (fun x => decide (x.1 = d)) = true then complete s
  else complete { s with tamper := { s.tamper with decisions := s.tamper.decisions ++ [(d, true)] } }

/-- PRESENCE_RELEASED. -/
def execPresenceReleased (input : Nat) (s : State) : Host.Outcome State Fault Refusal :=
  let left := s.tamper.decisions.filter fun x => decide (x.1 ≠ Decision.presence input)
  let s := { s with tamper := { s.tamper with decisions := left } }
  if input < 2 ∧ inputValid s input = true then complete (releaseInput input s) else complete s

/-! ### Ceremonies and consoles (R492, R503) -/

/-- CEREMONY_BEGIN. -/
def execCeremonyBegin (src : Src) (value : Bytes) (s : State) : Host.Outcome State Fault Refusal :=
  let act := fun (_ : Path) (v : Bytes) (s : State) =>
    let n := leNat v
    let r := if s.custody.ceremony ≠ 0 then 1 else if n = 0 ∨ n > 11 then 3 else if ceremonyRefused s n then 2 else 0
    let s := { s with custody := { s.custody with ceremonyResult := r } }
    if r = 0 then Answer.noted 0 s (openCeremony n s) else Answer.now 0 s
  complete (runWrite src 0x7810 0x01 value anyValue act s)

/-- CEREMONY_ABANDON. -/
def execCeremonyAbandon (src : Src) (s : State) : Host.Outcome State Fault Refusal :=
  complete (runAction src 0x7810 0x03 1 (fun _ s => Answer.noted 0 s (endCeremony 2 s)) s)

/-- The selected console slot is emptied, and ceremony 3 has had its final write. -/
def removeConsole (p : Path) (s : State) : Answer :=
  let c := (pathSel s p).consoleSel
  if !enrolled s c then Answer.now 0 s
  else
    let mine := decide (s.custody.session = .opened) && decide (s.custody.console = c)
    let s := { s with keys := { s.keys with vault := SMap.erase s.keys.vault (consoleSlot c) }
                      custody := { s.custody with labels := SMap.erase s.custody.labels c, closing := s.custody.closing || mine } }
    Answer.noted 0 s (endOwnCeremony 3 (logRequired 0x0807 (consoleSource s) [byte c] s))

/-- The console action as a write of a path. -/
def consoleAction (src : Src) (s : State) : State := runAction src 0x7801 0x05 1 removeConsole s

/-- CONSOLE_REMOVE. -/
def execConsoleRemove (src : Src) (s : State) : Host.Outcome State Fault Refusal := complete (closeRemoved (consoleAction src s))

/-! ### Key loading (R302, R504) -/

/-- The length of a component, from ALG of the load attribute. -/
def componentLen (s : State) : Nat :=
  let alg := bits s.custody.loadAttr 0 5
  if 1 ≤ alg ∧ alg ≤ 5 then algKeyLen alg else 0

/-- A component as it unwraps; none when it is refused. -/
def openComponent (s : State) (value : Bytes) : Option Bytes :=
  let n := componentLen s
  if n = 0 ∨ (value.drop (n + 8)).any (fun b => b != 0) = true ∨ s.custody.components.length ≥ s.custody.loadCount then none
  else
    match kwOpen s.custody.kwrap (value.take (n + 8)) with
    | some k => if s.custody.components.contains k then none else some k
    | none => none

/-- Keys may be loaded in this life-cycle state. -/
def loadPermitted (s : State) : Bool := decide (s.life.state = .test) || decide (s.life.state = .production)

/-- The result of a load write is shown. -/
def loadResult (r : Nat) (s : State) : State := { s with custody := { s.custody with loadResult := r } }

/-- LOAD_COMPONENT. -/
def execLoadComponent (src : Src) (value : Bytes) (s : State) : Host.Outcome State Fault Refusal :=
  let act := fun (_ : Path) (v : Bytes) (s : State) =>
    if !loadPermitted s then Answer.now 0 (loadResult 5 s)
    else
      match openComponent s v with
      | none => Answer.now 0 (loadResult 3 s)
      | some k =>
        let kcv := keyCheckValue (bits s.custody.loadAttr 0 5) k
        let s := { s with custody := { s.custody with components := s.custody.components ++ [k], lastKcv := kcv } }
        Answer.now 0 (loadResult 0 s)
  complete (runWrite src 0x3003 0x04 value anyValue act s)

/-- An attribute word that a vault slot may hold (R302). -/
def vaultAttrFits (w : Nat) : Bool :=
  let a := attrOfWord w
  !attrRefused w && !a.ctrEn && !a.expire && !a.persist && decide (a.mark = 0) && decide (a.exp = 0) && decide (1 ≤ a.alg) &&
    decide (a.alg ≤ 5) && [usageK0, usageK1, usageB0].contains a.usage && (decide (a.scope = 0) || decide (a.owner = 0))

/-- What a load comes to. -/
def loadOutcome (s : State) : Nat :=
  if !loadPermitted s then 5
  else if (vaultSlot s s.custody.loadTarget).isSome then 1
  else if !vaultAttrFits s.custody.loadAttr then 2
  else if s.custody.components.length < s.custody.loadCount then 4 else 0

/-- The components XORed together. -/
def combined (s : State) : Bytes := s.custody.components.foldl xorBytes (zeros (componentLen s))

/-- A vault slot's content goes to the peer as its masked value and its mask (R538, R557, R558). -/
def replicateVault (n : Nat) (s : State) : List Nat × State :=
  match vaultSlot s n with
  | some v =>
    let (a, s) := replicate 0x04 (natLE 1 n ++ natLE 8 v.attr ++ padTo 32 v.v) s
    let (b, s) := replicate 0x05 (natLE 1 n ++ padTo 32 v.m) s
    (a ++ b, s)
  | none => replicate 0x06 (natLE 1 n) s

/-- A vault slot has been loaded (1) or emptied (2): its event, its replication, and the end of ceremony 2. -/
def vaultChanged (n action : Nat) (kcv : Bytes) (s : State) : Answer :=
  let t := logRequired 0x080A (consoleSource s) ([byte n, byte action] ++ kcv) (loadResult 0 s)
  let (rs, t) := replicateVault n (endOwnCeremony 2 t)
  { Answer.noted 0 s t with records := rs }

/-- VAULT_KEY_LOAD. -/
def execVaultKeyLoad (src : Src) (s : State) : Host.Outcome State Fault Refusal :=
  let act := fun (_ : Path) (s : State) =>
    let r := loadOutcome s
    if r ≠ 0 then Answer.now 0 (loadResult r s)
    else
      let n := s.custody.loadTarget
      let key := combined s
      vaultChanged n 1 (keyCheckValue (bits s.custody.loadAttr 0 5) key) (writeVault n key s.custody.loadAttr s)
  complete (runAction src 0x3003 0x06 1 act s)

/-- VAULT_SLOT_EMPTY. -/
def execVaultSlotEmpty (src : Src) (s : State) : Host.Outcome State Fault Refusal :=
  let act := fun (_ : Path) (s : State) =>
    let n := s.custody.loadTarget
    if !loadPermitted s then Answer.now 0 (loadResult 5 s)
    else
      match vaultSlot s n with
      | none => Answer.now 0 (loadResult 1 s)
      | some v => vaultChanged n 2 v.kcv { s with keys := { s.keys with vault := SMap.erase s.keys.vault n } }
  complete (runAction src 0x3003 0x06 2 act s)

/-- COMPONENTS_DISCARD. -/
def execComponentsDiscard (src : Src) (s : State) : Host.Outcome State Fault Refusal :=
  let act := fun (_ : Path) (s : State) =>
    Answer.now 0 (loadResult 0 { s with custody := { s.custody with components := [] } })
  complete (runAction src 0x3003 0x06 3 act s)

end Sys2Proof.Machine
end

