-- ==== Sys2Proof/Machine/ConfigOps.lean ====
section
/-!
DEFINITION. The configuration set in MRAM: its items, and the persistent entries that take effect when its page is durable
(R485, R524, R526, R527).
-/
namespace Sys2Proof.Machine

/-- The logical page of the configuration set. -/
def configPage : Nat := 131

/-- The key of an entry: its index and sub-index. -/
def entryKey (index sub : Nat) : Nat := index * 256 + sub

/-- Defaults of the persistent entries that the set holds, by key. -/
def configDefault (key : Nat) : Bytes :=
  match key / 256, key % 256 with
  | 0x3310, 1 => decTablesDefault.getD 0 []
  | 0x3310, _ => zeros 8
  | 0x3311, _ => [0]
  | 0x4030, _ => [0]
  | 0x6200, _ => natLE 2 60
  | 0x7800, 2 => [0xFF]
  | 0x7800, 3 => [8]
  | 0x7800, _ => natLE 2 60
  | 0x8000, _ => [1]
  | _, _ => []

/-- An entry whose value the set holds (R524). -/
def inConfigSet (index sub : Nat) : Bool :=
  (decide (index = 0x3310) && decide (1 ≤ sub) && decide (sub ≤ 8)) || (decide (index = 0x3311) && decide (sub = 1)) ||
    (decide (index = 0x4030) && decide (sub = 2)) || (decide (index = 0x6200) && decide (sub = 0x0C)) ||
    (decide (index = 0x7800) && (decide (sub = 2) || decide (sub = 3) || decide (sub = 9))) ||
    (decide (index = 0x8000) && decide (sub = 1))

/-- The items of a set, by key. -/
def parseItems : Nat → Bytes → SMap Bytes
  | 0, _ => []
  | fuel + 1, bs =>
    let index := leNat (bs.take 2)
    if index = 0 then []
    else
      let n := (bs.getD 3 0).toNat
      SMap.put (parseItems fuel (bs.drop (4 + n))) (entryKey index (bs.getD 2 0).toNat) (slice 4 n bs)

/-- One item: index, sub-index, length and value. -/
def configItem (key : Nat) (value : Bytes) : Bytes :=
  natLE 2 (key / 256) ++ [byte (key % 256), byte value.length] ++ value

/-- The payload that holds a set of items; an item at its default is left out (R527). -/
def configPayload (items : SMap Bytes) : Bytes :=
  padTo 504 ((items.filter fun x => decide (x.2 ≠ configDefault x.1)).flatMap fun x => configItem x.1 x.2)

/-- The items of the page a new update builds on. -/
def latestItems (s : State) : SMap Bytes := parseItems 126 (latestPage s .config configPage)

/-- Rewrites the set with new values of some entries, as one page update. -/
def writeConfig (values : List (Nat × Bytes)) (s : State) : State :=
  let items := values.foldl (fun m x => SMap.put m x.1 x.2) (latestItems s)
  queuePage 6 .config configPage (configPayload items) s

/-- The value of an entry in a set. -/
def configValue (items : SMap Bytes) (key : Nat) : Bytes := SMap.get (configDefault key) items key

/-- PLCA settings take effect at once outside a session, and at its end within one (R485). -/
def takePlca (node count : Nat) (s : State) : State :=
  if s.custody.session = .opened then
    let new := if node = s.custody.plcaNode ∧ count = s.custody.plcaCount then none else some (node, count)
    { s with custody := { s.custody with newPlca := new } }
  else { s with custody := { s.custody with plcaNode := node, plcaCount := count } }

/-- ACTIVE queue pairs of functions that no Secure stream covers go to ERROR while IDE is required (R253). -/
def enforceIde (s : State) : State :=
  if !s.host.ideRequired then s
  else
    (s.host.qps.filter fun x => decide (x.2.state = .active) && !ideCovered s x.2.fn).foldl (fun s x => errorQp x.1 4 s) s

/-- The persistent entries that are not staged take the values of the durable set (R524). -/
def takeConfig (s : State) : State :=
  let items := parseItems 126 (readPage s .config configPage)
  let v := fun (index sub : Nat) => leNat (configValue items (entryKey index sub))
  let ide := decide (v 0x4030 2 = 1)
  let changed := decide (ide ≠ s.host.ideRequired)
  let s := { s with host := { s.host with ideRequired := ide }
                    log := { s.log with holdTime := v 0x6200 0x0C }
                    custody := { s.custody with idle := v 0x7800 9 }
                    memTest := { s.memTest with enable := decide (v 0x8000 1 = 1) } }
  let s := takePlca (v 0x7800 2) (v 0x7800 3) s
  if changed then enforceIde s else s

/-- The set as start-up restores it, the staged entries among it (R524, R525, R527). -/
def restoreConfig (s : State) : State :=
  let items := parseItems 126 (readPage s .config configPage)
  let tables := (List.range 8).map fun i => configValue items (entryKey 0x3310 (i + 1))
  let config := { EpochConfig.default with
    decTables := tables, pinDowngrade := decide (configValue items (entryKey 0x3311 1) = [1]) }
  let s := { s with epochs := { s.epochs with config := config, oldConfig := config, staged := Staged.none }
                    dict := { s.dict with configSource := if items.isEmpty then 1 else 0 } }
  takeConfig s

end Sys2Proof.Machine
end

