-- ==== Sys2Proof/Machine/LinkOps.lean ====
section
/-!
DEFINITION. What an operation row needs of its Link, how the row ends it, and a pair whose units disagree (R138 to
R142): shared by every opcode family.
-/
namespace Sys2Proof.Machine

/-- An ISSUED Link as its engine sees it: operands, keys, nonce and draw. -/
structure LinkCtx where
  ch : Chain
  l : LinkWords
  r : LinkRun
  p : Nat
  in0 : Bytes
  in1 : Bytes
  in2 : Bytes
  key0 : KeyVal
  key1 : KeyVal
  /-- The private key as the pair's key loader delivered it at issue, or the status it ends with (R139, R145). -/
  priv : Except Nat Bytes

/-- No key. -/
def KeyVal.none : KeyVal := { attr := 0, bytes := [] }

/-- The keys that the engine of a Link holds. -/
def engineKeys (s : State) (c n : Nat) : KeyVal × KeyVal :=
  let pick := fun (k : Option KeyVal) => k.getD KeyVal.none
  match s.engines.lanes.find? fun x => x.2.chain == c && x.2.link == some n with
  | some x => (pick x.2.key0, pick x.2.key1)
  | none =>
    match s.engines.hashes.find? fun u => u.2.job == some (c, n) with
    | some u => (pick u.2.key, KeyVal.none)
    | none =>
      let held := fun (ps : SMap Pair) => ps.findSome? fun x => (x.2.holds (c, n)).map fun b => (x.2.region b).key
      match held s.engines.pke, held s.engines.lattice with
      | some k, _ => (pick k, KeyVal.none)
      | none, some k => (pick k, KeyVal.none)
      | none, none => (KeyVal.none, KeyVal.none)

/-- The region of a pair that runs or holds a Link. -/
def heldRegion (s : State) (c n : Nat) : Option Region :=
  let held := fun (ps : SMap Pair) => ps.findSome? fun x => (x.2.holds (c, n)).map fun b => x.2.region b
  match held s.engines.pke with
  | some r => some r
  | none => held s.engines.lattice

/-- What the key loader made of a region's private key. -/
def Region.priv (r : Region) : Except Nat Bytes := if r.loadStatus = 0 then .ok r.plain else .error r.loadStatus

/-- The Link an operation row names, when it is ISSUED with the row's opcode. A pair works on the operands it received at issue
(R139); the other engines read theirs in chain memory. -/
def linkCtx (s : State) (c n op : Nat) : Option LinkCtx :=
  match issuedLink s c n op with
  | none => none
  | some (ch, l, r) =>
    let keys := engineKeys s c n
    let copy := (heldRegion s c n).map fun g => (g.operands, g.priv)
    let from_ := fun (i ref : Nat) =>
      match copy with
      | some g => g.1.getD i []
      | none => operand s ch ref
    some { ch := ch, l := l, r := r, p := l.param, in0 := from_ 0 l.in0, in1 := from_ 1 l.in1, in2 := from_ 2 l.in2,
           key0 := keys.1, key1 := keys.2, priv := (copy.map (·.2)).getD (.ok []) }

/-- A Link that would generate a nonce and got none at its issue ends with 0x0410, unless its key ended it earlier (R118,
R617). -/
def nonceGate (x : LinkCtx) (res : OpResult) : OpResult :=
  if makesNonce x.l.opcode x.p && x.r.nonce.isEmpty then
    match res with
    | .failed st => .failed st
    | _ => .failed 0x0410
  else res

/-- An operation row with no key output: the Link ends as the operation gives; a row whose Link is not ISSUED has no
effect. -/
def runLink (op c n : Nat) (f : LinkCtx → OpResult) (s : State) : State :=
  match linkCtx s c n op with
  | none => s
  | some x => endLink c n x.l.soft (nonceGate x (f x)) none s

/-- An operation row whose output is a key of the attribute word given (R81). -/
def runKeyLink (op c n : Nat) (f : LinkCtx → OpResult) (attr : LinkCtx → Nat) (len : LinkCtx → Bytes → Nat)
    (s : State) : State :=
  match linkCtx s c n op with
  | none => s
  | some x =>
    let res := nonceGate x (f x)
    match res with
    | .done out => endLink c n x.l.soft res (some (attr x, len x out)) s
    | _ => endLink c n x.l.soft res none s

/-- The attribute word of a key that a Link produces: algorithm, usage and mode (R81). -/
def roleWord (alg usage mode : Nat) : Nat := alg + usage * 2 ^ 5 + mode * 2 ^ 10

/-- The ALG of an AES or TDES key of the class of another and of a length. -/
def sameAlg (k : KeyVal) : Nat := algOf k.attr

/-- The part's own domain identifier, 0 in no domain (R311, R539). -/
def ownDomain (s : State) : Nat := if (vaultSlot s 1).isSome then s.sec.domainId else 0

/-- A Contained fault of a pair (R141, R374): both Links of the pair end with 0x0710, the memories are cleared and the pair
is withdrawn. -/
def failPair (lattice : Bool) (p cause : Nat) (s : State) : State :=
  let unit := if lattice then 7 else 6
  let pair := getPair s lattice p
  let jobs := [pair.a.job, pair.b.job].filterMap id
  let respond := fun (s : State) =>
    let s := jobs.foldl (fun s j => failLink j.1 j.2 0x0710 s) s
    putPair lattice p (getPair s lattice p).cleared s
  containFault unit cause p [] [(unit, p)] respond s

/-- The units of a pair disagree (R141). -/
def pairMismatch (lattice : Bool) (p cause : Nat) (s : State) : State :=
  failPair lattice p cause { s with engines := { s.engines with mismatches := s.engines.mismatches + 1 } }

end Sys2Proof.Machine
end

