-- ==== Sys2Proof/Machine/ControlLinks.lean ====
section
/-!
DEFINITION. Links of the control unit and the format Links: groups 0x0, 0x9 and 0xA (R63, R129 to R132, R341).
-/
namespace Sys2Proof.Machine

/-- NOP does nothing (R63). -/
def execNop (chain link : Nat) (s : State) : Host.Outcome State Fault Refusal :=
  complete (runLink 0x000 chain link (fun _ => .done []) s)

/-- MOVE copies IN0 to the start of OUT (R63). -/
def execMove (chain link : Nat) (s : State) : Host.Outcome State Fault Refusal :=
  complete (runLink 0x001 chain link (fun x => .done x.in0) s)

/-- CONCAT writes its inputs back to back (R63). -/
def execConcat (chain link : Nat) (s : State) : Host.Outcome State Fault Refusal :=
  complete (runLink 0x002 chain link (fun x => .done (x.in0 ++ x.in1 ++ x.in2)) s)

/-- COMPARE is TRUE when its inputs are equal; 0x0301 is its mismatch (R63). -/
def execCompare (chain link : Nat) (s : State) : Host.Outcome State Fault Refusal :=
  complete (runLink 0x003 chain link (fun x => .verified (x.in0 == x.in1) 0x0301 []) s)

/-- The tick at which a lease entry of a part falls due, while it stands: the holder's lease and its renewal, a standby's takeover, and
a control frame that waits to be repeated (R198, R537, R551 to R553). -/
def leaseDue (s : State) (a : Nat) : Option Nat :=
  let holding := activeNow s && decide (s.twin.peerSync ≥ 3)
  match a with
  | 0 => if holding then some s.twin.leaseEnd else none
  | 1 => if holding then some s.twin.renewDue else none
  | 2 => if standbyNow s && decide (s.twin.sync ≥ 3) && s.twin.renewSeen && !s.twin.holdStopped then some s.twin.takeoverAt else none
  | _ => (s.clasp.repeated.map fun r => r.lastAt + 1).foldl (fun m t => some (match m with
      | some u => min u t
      | none => t)) none

/-- A delay-list entry still applies: what it would act on is still there and due (R199). -/
def dueLive (s : State) (d : Due) : Bool :=
  match d.kind with
  | .lease => decide (leaseDue s d.a = some d.tick)
  | .slotLock =>
    match SMap.find s.flow.locks d.a with
    | some l => decide (l.lease ≤ s.disp.tick)
    | none => false
  | .waitTimeout =>
    match (getCore s d.a).wait with
    | .waitw _ (some t) => decide (t ≤ s.disp.tick)
    | .waite _ (some t) => decide (t ≤ s.disp.tick)
    | _ => false
  | .expiry =>
    match getChain s d.a with
    | some ch => decide (ch.expiry = d.tick) && ch.expired
    | none => false
  | .delayLink =>
    match getChain s d.a with
    | some ch =>
      match ch.link d.b with
      | some (_, r) => decide (r.st = .issued) && decide (r.dueTick = some d.tick)
      | none => false
    | none => false
  | .firmwareTimer => decide (((getCore s d.a).timers.getD d.b none) = some d.tick)

/-- The delay-list entry that is processed next (R199): the first that still applies. -/
def nextDue (s : State) : Option Due := s.disp.due.find? (dueLive s)

/-- The entry is the next and concerns what the row names. -/
def dueIs (s : State) (kind : DueKind) (a b : Nat) : Option Due :=
  match nextDue s with
  | some d => if d.kind = kind ∧ d.a = a ∧ d.b = b then some d else none
  | none => none

/-- The entries after a processed one. -/
def dropDue (d : Due) (s : State) : State :=
  { s with disp := { s.disp with due := s.disp.due.filter fun e => decide (e ≠ d) && dueLive s e } }

/-- A DELAY Link whose entry is processed becomes DONE (R63, R199). -/
def execDelay (chain link : Nat) (s : State) : Host.Outcome State Fault Refusal :=
  match dueIs s .delayLink chain link with
  | none => complete s
  | some d => complete (runLink 0x004 chain link (fun _ => .done []) (dropDue d s))

/-- Opcode 0x901 writes its draw to OUT (R341). -/
def execRandomBytes (chain link : Nat) (s : State) : Host.Outcome State Fault Refusal :=
  complete (runLink 0x901 chain link (fun x => .done x.r.draw) s)

/-- Opcode 0xA01 (R130). -/
def execPad (chain link : Nat) (s : State) : Host.Outcome State Fault Refusal :=
  complete (runLink 0xA01 chain link (fun x => pad x.p x.in0) s)

/-- Opcode 0xA02 (R130). -/
def execUnpad (chain link : Nat) (s : State) : Host.Outcome State Fault Refusal :=
  complete (runLink 0xA02 chain link (fun x => unpad x.p x.in0) s)

/-- Opcode 0xA10 (R131). -/
def execPkcs1V15SignatureEncode (chain link : Nat) (s : State) : Host.Outcome State Fault Refusal :=
  complete (runLink 0xA10 chain link
    (fun x => .done (pkcs1Encode (formatHash x.p) (modBitsOf x.p) x.in0)) s)

/-- Opcode 0xA11, with the salt it drew at issue (R132). -/
def execPssSignatureEncode (chain link : Nat) (s : State) : Host.Outcome State Fault Refusal :=
  complete (runLink 0xA11 chain link
    (fun x => .done (pssEncode (formatHash x.p) (modBitsOf x.p) x.in0 x.r.draw)) s)

/-- Opcode 0xA12 compares the representative with the encoding of the digest (R131). -/
def execPkcs1V15SignatureCheck (chain link : Nat) (s : State) : Host.Outcome State Fault Refusal :=
  complete (runLink 0xA12 chain link
    (fun x => .verified (x.in0 == pkcs1Encode (formatHash x.p) (modBitsOf x.p) x.in1) 0x0331 []) s)

/-- Opcode 0xA13 (R132). -/
def execPssSignatureCheck (chain link : Nat) (s : State) : Host.Outcome State Fault Refusal :=
  complete (runLink 0xA13 chain link
    (fun x => .verified (pssVerify (formatHash x.p) (modBitsOf x.p) (saltLenOf x.p) x.in0 x.in1) 0x0331 []) s)

end Sys2Proof.Machine
end

