-- ==== Sys2Proof/Machine/Access.lean ====
section
/-!
DEFINITION. Access control: the internal address map, the region tables, the split at 4 KiB and what a refused access does (R16, R388
to R395).
-/
namespace Sys2Proof.Machine

/-! ### The internal address map (R388) -/

/-- The target of an internal address. -/
def internalTarget (s : State) (a : Nat) : Option Nat :=
  let within := fun (lo n : Nat) => decide (lo ≤ a) && decide (a < lo + n)
  if within 0 (256 * bufferCount s) then some 0
  else if within 0x40000000 (64 * slotCount s) then some 1
  else if within 0x10000000 (64 * qpCount s) || within 0x11000000 (0x2000 * (instCount s + 1)) then some 2
  else if within 0x20000000 (0x20000 * pkeCount s) || within 0x20400000 (0x20000 * latticeCount s) then some 3
  else if within 0x30000000 (0x40000 * coreCount s) then some 4
  else if within 0x50000000 0x10000000 then some 5
  else if within 0x60000000 0x10000000 then some 6
  else if within 0x70000000 0x10000000 then some 7 else none

/-! ### Region tables (R389 to R392) -/

/-- How master `i` reaches target `j`: 0 closed, 1 at the master, 2 at the gate, 3 at both (R390). -/
def pathOf (s : State) (i j : Nat) : Nat := bits s.fuses.matrix.toNat (16 * i + 2 * j) 2

/-- Some valid entry of a table contains the page and grants the kind (0 read, 1 write, 2 fetch) to the initiator. -/
def tablePasses (s : State) (table page kind : Nat) (gateOf : Option Nat) : Bool :=
  (List.range 16).any fun e =>
    let v := (SMap.get 0 s.fuses.regions (16 * table + e)).toNat
    bitOf v 0 && bitOf v (1 + kind) && decide (bits v 4 24 ≤ page) && decide (page ≤ bits v 28 24) &&
      match gateOf with
      | some i => bitOf v (52 + i)
      | none => true

/-- An access of master `i` to target `j` at an internal address passes every check its path calls for (R392). -/
def accessPasses (s : State) (i j addr kind : Nat) : Bool :=
  let page := addr / 4096
  let path := pathOf s i j
  s.access.loaded && decide (path ≠ 0) && (decide (path = 2) || tablePasses s i page kind none) &&
    (decide (path = 1) || tablePasses s (12 + j) page kind (some i))

/-- A refused access is counted for its master and kept as the last refusal (R393, R397). -/
def noteRefusal (i target addr kind : Nat) (s : State) : State :=
  let last := [byte i, byte target, byte kind] ++ zeros 5 ++ natLE 8 addr
  { s with access := { s.access with refusals := setAt s.access.refusals i (s.access.refusals.getD i 0 + 1), last := last } }

/-! ### Transfers and their checks (R16, R393, R395) -/

/-- Masters of the path matrix (R390). -/
def hostMaster : Nat := 0
def slotMaster : Nat := 6
def mramMaster : Nat := 7
def testMaster : Nat := 8
def coreMaster : Nat := 5
def debugMaster : Nat := 11

/-- The parts of a request, none across a 4 KiB boundary: address and length of each. -/
def splitAt4K (addr : Nat) : Nat → Nat → List (Nat × Nat)
  | 0, _ => []
  | fuel + 1, len =>
    if len = 0 then []
    else
      let n := min len (4096 - addr % 4096)
      (addr, n) :: splitAt4K (addr + n) fuel (len - n)

/-- The transfers that a request is split into (R16). -/
def transfers (addr len : Nat) : List (Nat × Nat) := splitAt4K addr (len / 4096 + 2) len

/-- An access of master `i` at an internal address passes: the address has a target, and every check of the path passes. -/
def reachable (s : State) (i addr kind : Nat) : Bool :=
  match internalTarget s addr with
  | some t => accessPasses s i t addr kind
  | none => false

/-- A part that is refused is noted; an address of no target is recorded as target 0xFF. -/
def notePart (i kind addr : Nat) (s : State) : State := noteRefusal i ((internalTarget s addr).getD 0xFF) addr kind s

/-- A refusal of a master whose addresses come from hardware is a Fatal fault of unit 0x0E; its record gives master, target, address and
kind (R393). -/
def refuseHardware (i kind addr : Nat) (s : State) : State :=
  let args := [byte i, byte ((internalTarget s addr).getD 0xFF), byte kind] ++ natLE 8 addr
  raiseFatal 0x0E 0x03 i args (notePart i kind addr s)

/-- The addresses, each the first of a transfer, at which master `i` is refused. -/
def refusedAt (s : State) (i kind : Nat) (addrs : List Nat) : List Nat := addrs.filter fun a => !reachable s i a kind

/-- Every refusal of a list of addresses is recorded. -/
def refuseAll (i kind : Nat) (addrs : List Nat) (s : State) : State := addrs.foldl (fun s a => refuseHardware i kind a s) s

/-! ### Chain memory (R49, R388) -/

/-- The pieces of a range of a Chain's buffers: offset and length of the part in each buffer. A buffer lies within one page, so each
piece is one transfer. -/
def chainPieces (start : Nat) : Nat → Nat → List (Nat × Nat)
  | 0, _ => []
  | fuel + 1, len =>
    if len = 0 then []
    else
      let n := min len (256 - start % 256)
      (start, n) :: chainPieces (start + n) fuel (len - n)

/-- The addresses of the transfers of a range of a Chain's buffers. -/
def chainAddrs (ch : Chain) (start len : Nat) : List Nat :=
  (chainPieces start (len / 256 + 2) len).map fun p => ch.addr p.1

/-- Master `i` writes a range of a Chain's buffers: every part that passes is written, and a refused one is not (R395). -/
def storeChain (i : Nat) (ch : Chain) (start : Nat) (data : Bytes) (s : State) : State :=
  let bad := refusedAt s i 1 (chainAddrs ch start data.length)
  if bad = [] then writeChain ch start data s
  else
    let good := (chainPieces start (data.length / 256 + 2) data.length).filter fun p => !bad.contains (ch.addr p.1)
    refuseAll i 1 bad (good.foldl (fun s p => writeChain ch p.1 (slice (p.1 - start) p.2 data) s) s)

end Sys2Proof.Machine
end

