-- ==== Sys2Proof/Machine/CoreOps.lean ====
section
/-!
DEFINITION. What an instruction of a Fife core meets: registers, traps, waits, the address map, the region tables, the
Link window and the end of a firmware Link (R342 to R357, R369, R389 to R394).
-/
namespace Sys2Proof.Machine

/-! ### Which cores run (R365, R419, R583) -/

/-- The firmware runs on the cores. -/
def firmwareRuns (s : State) : Bool :=
  (decide (s.boot.phase = .loading) || decide (s.boot.phase = .complete)) && !s.modes.word.doze

/-- Core `k` executes instructions: it exists, is neither withdrawn nor halted, waits for nothing and is not stalled in
LEND. -/
def coreRuns (s : State) (k : Nat) : Bool :=
  let c := getCore s k
  firmwareRuns s && decide (k < coreCount s) && !isWithdrawn 9 k s && !c.halted && decide (c.wait = .running) &&
    c.lending.isNone

/-- It holds a firmware Link, or has one to acknowledge after ABORT (R203, R363). -/
def Core.holds (c : Core) : Bool := c.link.isSome || c.abortAt.isSome

/-! ### Registers (R343) -/

/-- A register by its 5-bit number. -/
def Core.reg (c : Core) (r : Nat) : BitVec 64 :=
  if r % 32 = 0 then 0
  else if r % 32 < 16 then c.globals.getD (r % 32) 0
  else SMap.get 0 c.windows (16 * c.cwp + (r % 32 - 16))

/-- Writes a register; writes to g0 are discarded. -/
def Core.setReg (c : Core) (r : Nat) (v : BitVec 64) : Core :=
  if r % 32 = 0 then c
  else if r % 32 < 16 then { c with globals := setAt c.globals (r % 32) v }
  else { c with windows := SMap.set 0 c.windows (16 * c.cwp + (r % 32 - 16)) v }

/-- Register `i` of window `w`. -/
def Core.window (c : Core) (w i : Nat) : BitVec 64 := SMap.get 0 c.windows (16 * w + i)

/-- What a fetch makes observable of the paths it took: instructions fetched on wrong paths, lines filled, and a misprediction (R366,
R367, R369). -/
def Core.speculate (wrongPath fills : Nat) (missed : Bool) (c : Core) : Core :=
  let c := (c.count 2 wrongPath).count 3 fills
  if missed then c.count 4 1 else c

/-- Where a branch's direction counter stands after it resolves (R366; PRESUMED, assumption 96). -/
def Predictors.resolve (pc : Nat) (taken : Option Nat) (p : Predictors) : Predictors :=
  let d := SMap.get 1 p.directions pc
  match taken with
  | some t => { p with directions := SMap.set 1 p.directions pc (min 3 (d + 1)), targets := SMap.put p.targets pc t }
  | none => { p with directions := SMap.set 1 p.directions pc (d - 1) }

/-- A call enters its target in the target buffer and its return address on the return stack; a return takes that off again (R366;
PRESUMED, assumption 96). -/
def Predictors.call (pc target : Nat) (p : Predictors) : Predictors :=
  { p with targets := SMap.put p.targets pc target, returns := (pc + 4) :: p.returns }

/-- A branch trains the predictors as it resolves. -/
def Core.train (fetched : Fetched) (c : Core) : Core :=
  match fetched with
  | .branch b => { c with predictors := c.predictors.resolve c.pc.toNat (b.map (·.toNat)) }
  | .ordinary => c
  | .ownRow => c

/-- Where an ordinary instruction goes on: a taken branch at its target, any other behind it. -/
def Core.goesTo (fetched : Fetched) (c : Core) : BitVec 64 :=
  match fetched with
  | .branch (some t) => t
  | .branch none => c.pc + 4
  | .ordinary => c.pc + 4
  | .ownRow => c.pc + 4

/-! ### The address map of a core (R349 to R351) -/

/-- Where an address leads. -/
inductive Place
  /-- Nothing that the map lists. -/
  | nowhere
  /-- A scratchpad: its core, the byte offset, and how a store acts: 0 plain, 1 bit-set, 2 bit-clear, 3 not at all. -/
  | scratch (core off mode : Nat)
  /-- The Link window, and the inline area. -/
  | window (off : Nat)
  | inline (off : Nat)
  /-- A working slot's bytes, or device registers of target `t`. -/
  | slot (n off : Nat)
  | device (t : Nat)
  deriving DecidableEq, Repr

/-- The data part and its aliases, by offset in a scratchpad's map; the bit-clear alias lies 0x8_0000 above the data. -/
def dataPlace (core off : Nat) : Place :=
  if 0x20000 ≤ off ∧ off < 0x40000 then .scratch core off 0
  else if 0x60000 ≤ off ∧ off < 0x80000 then .scratch core (off - 0x40000) 1
  else if 0xA0000 ≤ off ∧ off < 0xC0000 then .scratch core (off - 0x80000) 2
  else .nowhere

/-- Where an address of core `k` leads. -/
def placeOf (s : State) (k a : Nat) : Place :=
  if a < 0x20000 then .scratch k a 3
  else if a < 0xC0000 then dataPlace k a
  else if 0x1000000 ≤ a ∧ a < 0x1002000 then .window (a - 0x1000000)
  else if 0x1002000 ≤ a ∧ a < 0x1002028 then .inline (a - 0x1002000)
  else if 0x20000000 ≤ a ∧ a < 0x20000000 + 0x100000 * 16 then
    let c := (a - 0x20000000) / 0x100000
    if c < coreCount s ∧ !isWithdrawn 9 c s then dataPlace c (a % 0x100000) else .nowhere
  else if 0x40000000 ≤ a ∧ a < 0x40000000 + 64 * slotCount s then .slot ((a - 0x40000000) / 64) (a % 64)
  else if 0x50000000 ≤ a ∧ a < 0x80000000 then .device (a / 0x10000000)
  else .nowhere

/-- Target and internal address of a place, for the region tables; the inline area is the dispatcher's own. -/
def placeTarget (s : State) (k : Nat) (p : Place) (a : Nat) : Option (Nat × Nat) :=
  match p with
  | .scratch c off _ => some (4, 0x30000000 + 0x40000 * c + off)
  | .window off =>
    match (getCore s k).link with
    | some (c, _) => (getChain s c).map fun ch => (0, ch.addr off)
    | none => none
  | .slot _ _ => some (1, a)
  | .device t => some (t, a)
  | _ => none

/-- The held Link of core `k`: its Chain, its words and its record. -/
def heldLink (s : State) (k : Nat) : Option (Nat × Nat × Chain × LinkWords × LinkRun) :=
  match (getCore s k).link with
  | none => none
  | some (c, n) =>
    match getChain s c with
    | none => none
    | some ch => (ch.link n).map fun x => (c, n, ch, x.1, x.2)

/-- Byte `off` of the window is one that the Link or a finished request of it has written within OUT (R352). -/
def writtenOut (core : Core) (ch : Chain) (off : Nat) : Bool :=
  core.stored.contains off ||
    ch.requested.any fun q => decide (q.2.2.st = .done) &&
      match outRange q.2.1 with
      | some r => decide (r.1 ≤ off) && decide (off < r.2)
      | none => false

/-- Byte `off` of the window is protected: no firmware opcode is entitled to it (R54, R351). -/
def protectedByte (ch : Chain) (off : Nat) : Bool :=
  (ch.body.links ++ ch.requested.map fun q => q.2.1).any fun l =>
    match protectedRange l with
    | some r => decide (r.1 ≤ off) && decide (off < r.2)
    | none => false

/-- A reference of kind buffer covers byte `off`. -/
def refCovers (r off : Nat) : Bool := decide (refKind r = 2) && decide (refStart r ≤ off) && decide (off < refStop r)

/-- A byte of the Link window as a load finds it: none where the Link has no access. -/
def windowByte (s : State) (k off : Nat) : Option Byte :=
  match heldLink s k with
  | none => none
  | some (_, _, ch, l, _) =>
    if protectedByte ch off then none
    else if refCovers l.out off then
      if writtenOut (getCore s k) ch off then some (Memory.read s.chainMem (ch.addr off)) else some 0
    else if [l.in0, l.in1, l.in2].any fun r => refCovers r off then some (Memory.read s.chainMem (ch.addr off))
    else none

/-- A byte of the inline area as a load finds it. -/
def inlineByte (s : State) (k off : Nat) : Option Byte :=
  match heldLink s k with
  | none => none
  | some (_, _, ch, l, _) =>
    let covers := fun (r : Nat) => decide (refKind r = 1) && decide (refStart r ≤ off) && decide (off < refStop r)
    if [l.in0, l.in1, l.in2].any covers then some (ch.inlineArea.getD off 0) else none

/-- The bytes of all that are there. -/
def allBytes : List (Option Byte) → Option Bytes
  | [] => some []
  | none :: _ => none
  | some b :: t => (allBytes t).map fun bs => b :: bs

/-- The bytes a load of a place gives; none where it is refused. Device registers read as bits no rule gives. -/
def loadBytes (s : State) (k : Nat) (p : Place) (width : Nat) : Option Bytes :=
  match p with
  | .nowhere => none
  | .scratch c off _ => some (Memory.readN s.scratch (0x40000 * c + off) width)
  | .window off => allBytes ((List.range width).map fun i => windowByte s k (off + i))
  | .inline off => allBytes ((List.range width).map fun i => inlineByte s k (off + i))
  | .slot n off => if off < 32 then none else
      let sl := getSlot s n
      some (slice off width (sl.bytes ++ natLE 4 sl.check))
  | .device _ => some (natLE width (Config.freeBits s.freeUses).toNat)

/-! ### Traps (R345, R348) -/

/-- The instruction word at the PC, in the firmware region. -/
def fetchedWord (s : State) (k : Nat) : Nat :=
  leNat (Memory.readN s.scratch (0x40000 * k + (getCore s k).pc.toNat % 0x20000) 4)

/-- A trap: PC, cause, value and window are saved and the core goes on at the trap vector in window 11. A trap in window 11
is a double trap: the core halts under a Contained fault. The instruction has been fetched and does not retire; so has one that holds
the cause of its own fetch (R366, R367). -/
def trap (k cause tval : Nat) (s : State) : State :=
  let c := getCore s k
  if c.cwp = 11 then
    let args := [byte k, byte c.tcause.toNat] ++ natLE 8 c.epc.toNat ++ [byte cause]
    failCore 1 k args { s with cores := { s.cores with doubleTraps := s.cores.doubleTraps + 1 } }
  else
    modifyCore k (fun c =>
      let c := (c.count 6 1).count 2 1
      { c with epc := c.pc, tcause := BitVec.ofNat 64 cause, tval := BitVec.ofNat 64 tval, pwp := c.cwp, cwp := 11,
               pc := 0x40 }) s

/-- A trap whose value is the instruction word. -/
def trapWord (k cause : Nat) (s : State) : State := trap k cause (fetchedWord s k) s

/-- A core at its PC may fetch (R349, R392). -/
def fetchOk (s : State) (k : Nat) : Bool :=
  let pc := (getCore s k).pc.toNat
  decide (pc < 0x20000) && decide (pc % 4 = 0) && accessPasses s 5 4 (0x30000000 + 0x40000 * k + pc) 2

/-- One instruction of a core: nothing while the core does not run, the access fault of a fetch refused, else its effect. -/
def instruct (k : Nat) (f : State → State) (s : State) : State :=
  if !coreRuns s k then s
  else if fetchOk s k then f s
  else
    let pc := (getCore s k).pc.toNat
    let s := if pc < 0x20000 then noteRefusal 5 4 (0x30000000 + 0x40000 * k + pc) 2 s else s
    trap k 4 pc s

/-! ### Loads and stores (R342, R349 to R352) -/

/-- Widths of loads and stores. -/
def widthOk (width : Nat) : Bool := [1, 2, 4, 8].contains width

/-- An access of a core: a trap where width, alignment, address map or region tables refuse it, else `f` at its place. -/
def access (k a width kind : Nat) (f : Place → State → State) (s : State) : State :=
  let cause := if kind = 0 then 5 else 6
  if !widthOk width then trapWord k 3 s
  else if a % width ≠ 0 then trap k 7 a s
  else
    let p := placeOf s k a
    if p = .nowhere then
      -- an address of the control window that belongs to no target is refused under R393
      trap k cause a (if 0x40000000 ≤ a ∧ a < 0x80000000 then noteRefusal 5 0xFF a kind s else s)
    else
      match placeTarget s k p a with
      | none => f p s
      | some (t, addr) =>
        if accessPasses s 5 t addr kind then f p s else trap k cause a (noteRefusal 5 t addr kind s)

/-- A load's value: a narrow load leaves bits above its width that no rule gives. -/
def loadValue (s : State) (data : Bytes) : BitVec 64 :=
  let above := (Config.freeBits s.freeUses).toNat / 2 ^ (8 * data.length) * 2 ^ (8 * data.length)
  BitVec.ofNat 64 (leNat data + above)

/-- A load into a register. -/
def loadAt (k rd a width : Nat) (s : State) : State :=
  access k a width 0 (fun p s =>
    match loadBytes s k p width with
    | none => trap k 5 a s
    | some data =>
      let v := loadValue s data
      let (_, s) := takeFree s
      modifyCore k (fun c => (c.setReg rd v).advance) s) s

/-- The word that an alias store leaves. -/
def aliasWord (mode : Nat) (old value : Nat) : Nat := if mode = 1 then old ||| value else old - (old &&& value)

/-- A slot that a core has written: the peer is told, and the persistent entry follows PERSIST (R307, R557). -/
def syncSlot (n attr : Nat) (s : State) : State :=
  let key := (getSlot s n).key
  let s := (replicate 0x01 (natLE 4 n ++ natLE 8 attr ++ padTo 32 key) s).2
  let old := (entryOf s n).map (·.1)
  if !(attrOfWord attr).persist then
    match old with
    | some e => deleteEntry 3 e s
    | none => s
  else
    match old.orElse fun _ => freeStoreEntry s with
    | some e => (writeEntry 3 e n attr (floorFor s attr) key s).getD s
    | none => s

/-- Attribute words of working slots may be stored; other bytes of bytes 32 to 63 are the hardware's own (R13, R284, R290,
R349). -/
def storeSlot (k a n off : Nat) (data : Bytes) (s : State) : State :=
  if off < 32 then trap k 6 a s
  else if off ≥ 40 then modifyCore k Core.advance s
  else
    let attr := leNat (overlay (off - 32) data (natLE 8 (getSlot s n).attr))
    if attrRefused attr || decide ((getSlot s n).state = .bad) || lockedByOther s (unitTag 9 k) n then trap k 6 a s
    else modifyCore k Core.advance (syncSlot n attr (setSlotAttr n attr s))

/-- A store. -/
def storeAt (k a width : Nat) (value : BitVec 64) (s : State) : State :=
  access k a width 1 (fun p s =>
    let data := natLE width value.toNat
    match p with
    | .scratch c off mode =>
      if mode = 3 then trap k 6 a s
      else if mode ≠ 0 ∧ width < 4 then trap k 7 a s
      else
        let at_ := 0x40000 * c + off
        let old := leNat (Memory.readN s.scratch at_ width)
        let new := if mode = 0 then data else natLE width (aliasWord mode old (leNat data))
        modifyCore k Core.advance { s with scratch := Memory.writeN s.scratch at_ new }
    | .window off =>
      match heldLink s k with
      | some (_, _, ch, l, _) =>
        if (List.range width).all fun i => refCovers l.out (off + i) then
          let s := writeChain ch off data s
          let offs := (List.range width).map fun i => off + i
          modifyCore k (fun c => { c with stored := c.stored ++ offs.filter fun o => !c.stored.contains o }.advance) s
        else trap k 6 a s
      | none => trap k 6 a s
    | .slot n off => storeSlot k a n off data s
    | .device _ => modifyCore k Core.advance s
    | _ => trap k 6 a s) s

/-! ### Waits (R202 to R206, R354, R355) -/

/-- A wait ends with its result code, and the detector may fire again (R208). -/
def endWait (k code : Nat) (s : State) : State :=
  let s := modifyCore k (fun c =>
    let c := c.setReg c.waitRd (BitVec.ofNat 64 code)
    { c with wait := .running, waitedAt := s.disp.tick }.advance) s
  { s with disp := { s.disp with detectorArmed := true } }

/-- Postings of bits 4 to 9 that core `k` takes with its mask: one of each bit. -/
def devicePosts (s : State) (mask : Nat) : List Nat := (s.cores.deviceEvents.eraseDups).filter fun b => bitOf mask b

/-- The event word a WAITE of core `k` would deliver. -/
def eventWord (s : State) (k mask : Nat) : Nat :=
  let own := (getCore s k).events.toNat &&& ((mask ||| 8) % 16)
  own + ((devicePosts s mask).map fun b => 2 ^ b).foldl (· + ·) 0

/-- An EVENT result delivers and clears every covered pending event (R204, R205). -/
def deliverEvents (k mask : Nat) (s : State) : State :=
  let word := eventWord s k mask
  let rest := (devicePosts s mask).foldl (fun l b => l.erase b) s.cores.deviceEvents
  let s := { s with cores := { s.cores with deviceEvents := rest } }
  let s := modifyCore k (fun c =>
    { c with events := c.events &&& ~~~(BitVec.ofNat 16 word) }.setReg 8 (BitVec.ofNat 64 word)) s
  endWait k 0 s

/-- A lower-numbered core is blocked in WAITE with a mask that covers device event `b` (R205). -/
def lowerWaits (s : State) (k b : Nat) : Bool :=
  (List.range k).any fun j =>
    !isWithdrawn 9 j s && match (getCore s j).wait with
    | .waite mask _ => bitOf mask b
    | _ => false

/-- The part of a mask under which core `k` is the one that device events go to. -/
def maskFor (s : State) (k mask : Nat) : Nat :=
  ((List.range 16).filter fun b => bitOf mask b && (decide (b < 4) || !lowerWaits s k b)).foldl (fun m b => m + 2 ^ b) 0

/-! ### The end of a firmware Link (R352, R356, R357, R363) -/

/-- The codes that LEND may give, of families 0x01 to 0x04 as R251 lists them; key-check codes are 0x0202 to 0x0213. -/
def lendCodes : List Nat :=
  ((List.range 17).map (· + 0x0101)) ++ [0x0120, 0x0121, 0x0122, 0x0130, 0x0131, 0x0132] ++
    ((List.range 19).map (· + 0x0201)) ++ [0x0220, 0x0221, 0x0230] ++
    [0x0301, 0x0310, 0x0311, 0x0312, 0x0313, 0x0314, 0x0315, 0x0320, 0x0321, 0x0330, 0x0331] ++
    [0x0401, 0x0402, 0x0403, 0x0410]

/-- What OUT holds at LEND: what the Link and its requests wrote, and zeros. -/
def outBytes (s : State) (core : Core) (ch : Chain) (l : LinkWords) : Bytes :=
  if refKind l.out = 2 then
    (List.range (refLen l.out)).map fun i =>
      let off := refStart l.out + i
      if writtenOut core ch off then Memory.read s.chainMem (ch.addr off) else 0
  else []

/-- The core no longer holds a Link, and its LEND retires. -/
def dropHeld (k : Nat) (s : State) : State :=
  modifyCore k (fun c => { c with link := none, stored := [], lending := none, abortAt := none }.advance) s

/-- LEND takes effect once no request of the Link is outstanding. -/
def finishLend (k status : Nat) (s : State) : State :=
  match heldLink s k with
  | none => dropHeld k s
  | some (c, n, ch, l, r) =>
    let verify := isVerify s.images.firmwareOps l.opcode l.param
    let out := outBytes s (getCore s k) ch l
    let s := dropHeld k s
    if r.st ≠ .issued then s
    else if r.stopping then stopLink c n s
    else if status = 0 then endLink c n l.soft (if verify then .verified true 0 out else .done out) none s
    else if lendCodes.contains status then
      endLink c n l.soft (if verify ∧ status / 256 = 3 then .verified false status [] else .failed status) none s
    else failCore 5 k [byte k] (failLink c n 0x0703 s)

/-- LENDs that stalled on requests which have ended since take effect. -/
def finishLends (s : State) : State :=
  (List.range (coreCount s)).foldl (fun s k =>
    let c := getCore s k
    match c.lending with
    | some status => if c.engBusy.any id then s else finishLend k status s
    | none => s) s

/-! ### Counters that time moves (R369) -/

/-- Each core's CYCLE, and WAITCYC while it is blocked, gain the 1,000 CCLK of a tick. -/
def countCycles (s : State) : State :=
  if s.modes.word.doze then s
  else
    (List.range (coreCount s)).foldl (fun s k =>
      modifyCore k (fun c =>
        let c := c.count 0 1000
        if c.wait = .running then c else c.count 5 1000) s) s

end Sys2Proof.Machine
end

