-- ==== Sys2Proof/Machine/Timekeeping.lean ====
section
/-!
DEFINITION. The tick, the delay lists and the energy governor: refill, ageing, thermal and draw corrections, THROTTLED,
expiries and leases (R38, R65, R181, R185 to R201, R206 to R210, R228, R263).
-/
namespace Sys2Proof.Machine

/-! ### Refill (R187 to R195, R263) -/

/-- The static allowance in units a tick (R189). -/
def staticUnits (s : State) : Nat := byGrade s 1800 1200 800

/-- The lesser of the warm-up factor and the thermal factor, in 4,096ths. -/
def grantFactor (s : State) : Nat := min (if s.energy.samples < 100 then 2048 else 4096) s.energy.d

/-- The refill of a tick edge (R187); zero while d is zero (R190). -/
def refillOf (s : State) : Nat :=
  let u := unitsPerTick s
  if s.energy.d = 0 then 0 else max (u * s.energy.k * grantFactor s / 4096 / 4096 - staticUnits s) (u / 16)

/-- The part of a refill that the hold account takes: half, and no more than its Link's cost (R194). -/
def holdTake (s : State) (refill : Nat) : Nat :=
  match s.disp.hold with
  | none => 0
  | some h =>
    match getChain s h.chain with
    | none => 0
    | some ch =>
      match ch.link h.link with
      | some (l, _) => min (refill / 2) (linkCost l - h.level)
      | none => 0

/-- Level of the hold account. -/
def holdLevel (s : State) : Nat :=
  match s.disp.hold with
  | some h => h.level
  | none => 0

/-- The bucket and the hold account gain a refill; together they never exceed the capacity. -/
def refillBucket (s : State) : State :=
  let refill := refillOf s
  let taken := holdTake s refill
  let level := min (bucketCapacity s - (holdLevel s + taken)) (s.energy.level + refill - taken)
  { s with disp := { s.disp with hold := s.disp.hold.map fun h => { h with level := h.level + taken } }
           energy := { s.energy with level := level } }

/-- A share account gains its share, and never exceeds its share of the capacity (R195, R263). -/
def gainShare (s : State) (share : Nat) (account : Int) : Int :=
  min (bucketCapacity s * share / 4096 : Nat) (account + (refillOf s * share / 4096 : Nat))

/-- Share accounts gain at a tick edge while SHARED is set. DESIGN CHOICE (assumption 84): an account, PF0's among them, holds its balance
while SHARED is clear; the rule names none for it. -/
def refillShares (s : State) : State :=
  if !s.modes.word.shared then s
  else
    let claimed := instSum s (·.share)
    let gain := fun (_ : Nat) (i : Inst) => { i with account := gainShare s i.share i.account }
    { s with tenants := { s.tenants with insts := SMap.mapValues s.tenants.insts gain }
             energy := { s.energy with pf0Account := gainShare s (4096 - claimed) s.energy.pf0Account } }

/-! ### Held-back ticks and ageing (R181, R193) -/

/-- The tick that ends counts as held back, or not; the counts of R38 follow. -/
def countHeld (s : State) : State :=
  let held := s.disp.heldNow || s.disp.holdAtEdge || s.disp.hold.isSome
  { s with energy := { s.energy with heldTicks := s.energy.heldTicks + (if held then 1 else 0) }
           modes := { s.modes with heldRun := if held then s.modes.heldRun + 1 else 0
                                   quietRun := if held then 0 else s.modes.quietRun + 1 }
           disp := { s.disp with heldBefore := s.disp.heldNow, heldNow := false, holdAtEdge := s.disp.hold.isSome } }

/-- A READY Link ages by one; at the limit of its class it is aged. -/
def ageRun (now limit : Nat) (r : LinkRun) : LinkRun :=
  if r.st ≠ .ready then r
  else
    let age := r.age + 1
    { r with age := age, agedAt := if r.agedAt.isNone ∧ age ≥ limit then some now else r.agedAt }

/-- Every READY Link ages, but for the Link of the hold account (R194). -/
def ageLinks (s : State) : State :=
  let held := fun (c n : Nat) =>
    match s.disp.hold with
    | some h => decide (h.chain = c) && decide (h.link = n)
    | none => false
  let age := fun (c : Nat) (ch : Chain) =>
    let limit := s.disp.ageLimits.getD ch.prio 0
    let f := fun (n : Nat) (r : LinkRun) => if held c n then r else ageRun s.disp.tick limit r
    let links := ((List.range ch.links.length).zip ch.links).map fun x => f x.1 x.2
    let requested := ch.requested.map fun q => (q.1, q.2.1, f q.1 q.2.2)
    { ch with links := links, requested := requested }
  { s with disp := { s.disp with chains := SMap.mapValues s.disp.chains age } }

/-! ### Delay lists (R197 to R201) -/

/-- An entry is processed before another of its group: by due tick, then by sequence number (R199). -/
def dueBefore (d e : Due) : Bool := decide (d.tick < e.tick) || (decide (d.tick = e.tick) && decide (d.seq < e.seq))

/-- Inserts an entry ahead of those it is processed before. -/
def insertDue (d : Due) : List Due → List Due
  | [] => [d]
  | e :: t => if dueBefore d e then d :: e :: t else e :: insertDue d t

/-- The entries of a group in the order in which they are processed. -/
def sortDue (ds : List Due) : List Due := ds.foldl (fun acc d => insertDue d acc) []

/-- Chain contexts in admission order. -/
def byAdmission (s : State) : List (Nat × Chain) :=
  let insert := fun (acc : List (Nat × Chain)) (x : Nat × Chain) =>
    (acc.takeWhile fun y => decide (y.2.admSeq < x.2.admSeq)) ++ [x] ++
      acc.dropWhile fun y => decide (y.2.admSeq < x.2.admSeq)
  s.disp.chains.foldl insert []

/-- Leases of working slot locks. -/
def dueLocks (s : State) : List Due :=
  s.flow.locks.map fun x => { kind := .slotLock, a := x.1, b := 0, tick := x.2.lease, seq := x.2.seq }

/-- Lease, renewal and guard of a pair, and the retries of its link controller: each stands for what `leaseDue` tells of it. -/
def dueLeases (s : State) : List Due :=
  (List.range 4).filterMap fun a => (leaseDue s a).map fun t => { kind := .lease, a := a, b := 0, tick := t }

/-- Wait timeouts. -/
def dueWaits (s : State) : List Due :=
  s.cores.cores.filterMap fun x =>
    match x.2.wait with
    | .waitw _ (some t) => some { kind := .waitTimeout, a := x.1, b := 0, tick := t, seq := x.2.waitSeq }
    | .waite _ (some t) => some { kind := .waitTimeout, a := x.1, b := 0, tick := t, seq := x.2.waitSeq }
    | _ => none

/-- Expiries of Chains with Links not final, none of which has taken effect yet (R66, R200). -/
def dueExpiries (s : State) : List Due :=
  ((byAdmission s).filter fun x => !x.2.expired && x.2.all.any fun y => !y.2.2.st.final).map fun x =>
    { kind := .expiry, a := x.1, b := 0, tick := x.2.expiry, seq := x.2.admSeq }

/-- DELAY Links. -/
def dueDelays (s : State) : List Due :=
  (byAdmission s).flatMap fun x => x.2.all.filterMap fun y =>
    if y.2.2.st = .issued then
      y.2.2.dueTick.map fun t => { kind := .delayLink, a := x.1, b := y.1, tick := t, seq := y.2.2.dueSeq }
    else none

/-- Firmware timers. -/
def dueTimers (s : State) : List Due :=
  s.cores.cores.flatMap fun x => ((List.range 8).zip x.2.timers).filterMap fun y =>
    y.2.map fun t => { kind := .firmwareTimer, a := x.1, b := y.1, tick := t, seq := x.2.timerSeqs.getD y.1 0 }

/-- The groups of R199, in the order in which they are processed. -/
def dueGroups (s : State) : List (List Due) :=
  [dueLeases s ++ dueLocks s, dueWaits s, dueExpiries s, dueDelays s ++ dueTimers s]

/-- An expiry takes effect at its tick edge: the Chain is one that expires, however late its entry is processed (R200). -/
def markExpired (s : State) (d : Due) : State :=
  if d.kind = .expiry then modifyChain d.a (fun ch => { ch with expired := true }) s else s

/-- Every entry due at or before this edge, in the order of R199; one left from an earlier edge comes first. -/
def collectDue (s : State) : State :=
  let all := (dueGroups s).flatMap fun g => sortDue (g.filter fun d => decide (d.tick ≤ s.disp.tick))
  let old := s.disp.due.filter (dueLive s)
  let fresh := all.filter fun d => !old.contains d
  fresh.foldl markExpired { s with disp := { s.disp with due := old ++ fresh } }

/-! ### What the tick counts (R39, R207, R304) -/

/-- Times that run in µs from tick to tick. -/
def countTimes (s : State) : State :=
  let live := decide (s.tamper.live ≠ 0)
  { s with modes := { s.modes with idleFor := if partIdle s then s.modes.idleFor + 1 else 0 }
           disp := { s.disp with allWaitingFor := if allWaiting s then s.disp.allWaitingFor + 1 else 0
                                 detectorArmed := s.disp.detectorArmed || !allWaiting s }
           tamper := { s.tamper with quietFor := if live then 0 else s.tamper.quietFor + 1 }
           boot := { s.boot with watchdogAt := s.sec.deviceTime.toNat } }

/-- Limits written since the last edge take effect (R188, R210). -/
def applyLimits (s : State) : State :=
  let limit := s.energy.newLimit.getD s.energy.limit
  let s := { s with energy := { s.energy with limit := limit, newLimit := none }
                    disp := { s.disp with ageLimits := s.disp.newAgeLimits } }
  { s with energy := { s.energy with level := min s.energy.level (bucketCapacity s) } }

/-- Wait hints all run out within a tick, as none lasts longer than 240 ECLK (R222): ports look again at every queue pair (R244). -/
def offerAgain (s : State) : State :=
  let again := fun (_ : Nat) (q : QueuePair) => if q.passedOver then { q with passedOver := false, hintLeft := 0 } else q
  { s with host := { s.host with qps := SMap.mapValues s.host.qps again } }

/-- The tick runs: the PLLs are locked and the part is not in DOZE depth 2 (R197, R201, R576). -/
def tickRuns (s : State) : Bool :=
  decoded s && !(s.modes.word.doze && decide (s.modes.word.dozeDepth = 2))

/-- Sum of numbers. -/
def total (ns : List Nat) : Nat := ns.foldl (· + ·) 0

/-- The energy accounts are within their bounds (R186, R187, R194, R209): each commit pool holds what the Chains in flight have still to
be charged, and bucket and hold account together do not exceed the capacity. -/
def energySound (s : State) : Bool :=
  decide (s.energy.smallPool = total (s.disp.chains.map fun x => x.2.small)) &&
    decide (s.energy.largePool = total (s.disp.chains.map fun x => x.2.large)) &&
    decide (s.energy.level + holdLevel s ≤ bucketCapacity s)

/-- Accounts beyond their bounds are a Fatal fault of the governor (R209). -/
def checkEnergy (s : State) : State := if energySound s then s else raiseFatal 0x01 0x04 0 [] s

/-- A tag that no owner has (R225): KIND 00 and 01 leave no context and no listed unit out; KIND 10 names a function; KIND 11 names the fault
controller or a free resource. -/
def reservedTag (t : Nat) : Bool :=
  match t / 0x4000 with
  | 0 => false
  | 1 => decide (t / 256 % 64 = 0) || decide (t / 256 % 64 > 0x11)
  | 2 => decide (t % 0x4000 > 1024)
  | 3 => decide (t % 0x4000 ≠ 0) && decide (t % 0x4000 ≠ 0x3FFF)
  | _ => true

/-- The owner tags in force: of buffers, Chain contexts (whose tag their completion slot, energy estimate and ring reservation share), slot
locks and wasted grants (R225). -/
def ownerTags (s : State) : List Nat :=
  s.flow.buffers.map (·.2) ++ s.disp.chains.map (fun x => chainTag x.1) ++ s.flow.locks.map (fun x => x.2.holder) ++
    s.flow.wasted.map (·.owner)

/-- The ownership table agrees with the allocator, no free resource has been returned, and no tag is a reserved one (R229). -/
def ownershipSound (s : State) : Bool :=
  decide (s.flow.granted = s.flow.buffers.length) && !s.flow.freeTwice && !(ownerTags s).any reservedTag

/-- An ownership table that is not sound is a Fatal fault of the dispatcher (R229). DESIGN CHOICE (assumption 89): it is looked at on each
tick edge. -/
def checkOwnership (s : State) : State :=
  if ownershipSound s then s
  else
    let s := { s with flow := { s.flow with granted := s.flow.buffers.length, freeTwice := false } }
    raiseFatal 0x01 0x05 0 [] s

/-- A delay-list entry that has fallen due wakes the part (R39, R201). -/
def wakeForDue (s : State) : State := if s.disp.due.isEmpty then s else wake s

/-- A tick edge (R197). -/
def tickEdge (s : State) : State :=
  let s := countCycles (finishLends (countHeld (checkOwnership (checkEnergy s))))
  let s := { s with disp := { s.disp with tick := s.disp.tick + 1 } }
  wakeForDue (offerAgain (countTimes (collectDue (ageLinks (refillShares (refillBucket (applyLimits s)))))))

/-- TICK (R197). -/
def execTick (s : State) : Host.Outcome State Fault Refusal :=
  if tickRuns s then complete (tickEdge s) else complete s

/-! ### Rows of due entries (R65, R228) -/

/-- CHAIN_EXPIRY (R65, R199, R200). -/
def execChainExpiry (chain : Nat) (s : State) : Host.Outcome State Fault Refusal :=
  match dueIs s .expiry chain 0 with
  | none => complete s
  | some d =>
    complete (expireChain chain (dropDue d s))

/-- SLOT_LOCK_LEASE_EXPIRY (R228). -/
def execSlotLockLeaseExpiry (slot : Nat) (s : State) : Host.Outcome State Fault Refusal :=
  match dueIs s .slotLock slot 0, SMap.find s.flow.locks slot with
  | some d, some l =>
    let s := dropDue d { s with flow := { s.flow with locks := SMap.erase s.flow.locks slot,
                                                      leaseExpiries := s.flow.leaseExpiries + 1 } }
    complete (logEvent 0x0403 0xFFFF (natLE 2 l.holder ++ [0, 0] ++ natLE 4 slot) s)
  | _, _ => complete s

/-! ### Draw, temperature and THROTTLED (R38, R190 to R193, R209) -/

/-- The power monitor reads out of range: it is withdrawn under a Contained fault, and k is held at 0.5 (R209). -/
def withdrawMonitor (s : State) : State :=
  containFault 0x0F 0x03 8 [] [(0x0F, 8)] (fun s => { s with energy := { s.energy with monitorOut := true, k := 2048 } }) s

/-- DRAW_CORRECTION_UPDATE (R192): `measured` is P_meas in 0.1 W, none a reading out of range; k stays at 0.5 while the monitor
is withdrawn (R209). -/
def execDrawCorrectionUpdate (measured : Option Nat) (s : State) : Host.Outcome State Fault Refusal :=
  if !tickRuns s || decide (s.disp.tick % 1000 ≠ 0) then complete s
  else if s.energy.monitorOut then complete { s with energy := { s.energy with k := 2048 } }
  else
    match measured with
    | none => complete (withdrawMonitor s)
    | some 0 => complete { s with energy := { s.energy with k := 4096 } }
    | some m => complete { s with energy := { s.energy with k := min 4096 (max 1024 (s.energy.k * s.energy.limit / m)) } }

/-- Inserts a temperature in rising order. -/
def insertTemp (t : Int) : List Int → List Int
  | [] => [t]
  | u :: l => if t ≤ u then t :: u :: l else u :: insertTemp t l

/-- Twice the median of temperatures. -/
def medianTwice (ts : List Int) : Int :=
  let l := ts.foldl (fun acc t => insertTemp t acc) []
  let n := l.length
  l.getD ((n - 1) / 2) 0 + l.getD (n / 2) 0

/-- Sensors in use: number and latest sample. -/
def sensorsUsed (s : State) : List (Nat × Int) :=
  ((List.range 8).zip s.energy.temps).filter fun x => !bitOf s.energy.sensorsOut x.1

/-- A sensor of those in use differs from the median of the others by more than 10 °C (R209). -/
def sensorOff (used : List (Nat × Int)) (x : Nat × Int) : Bool :=
  let others := (used.filter fun y => decide (y.1 ≠ x.1)).map (·.2)
  !others.isEmpty && decide ((2 * x.2 - medianTwice others).natAbs > 40)

/-- Such a sensor is withdrawn under a Contained fault. -/
def checkSensors (s : State) : State :=
  let used := sensorsUsed s
  let off := used.filter (sensorOff used)
  off.foldl (fun s x =>
    containFault 0x0F 0x02 x.1 [] [(0x0F, x.1)]
      (fun s => { s with energy := { s.energy with sensorsOut := s.energy.sensorsOut ||| 2 ^ x.1 } }) s) s

/-- The thermal factor of a junction temperature in 0.5 °C (R190). -/
def thermalFactor (t : Int) : Nat :=
  if t ≤ 190 then 4096 else if t ≥ 220 then 0 else (220 - t).toNat * 4096 / 30

/-- The highest latest sample among the sensors in use. -/
def junctionOf (s : State) : Int :=
  match (sensorsUsed s).map (·.2) with
  | [] => s.energy.junction
  | t :: ts => ts.foldl max t

/-- T, d and what follows from them: the bucket empties at 110 °C, and 115 °C is a Fatal fault. -/
def applyThermal (s : State) : State :=
  let t := junctionOf s
  let d := if (sensorsUsed s).length < 4 then 2048 else thermalFactor t
  let s := { s with energy := { s.energy with junction := t, d := d, level := if d = 0 then 0 else s.energy.level } }
  if t ≥ 230 then raiseFatal 0x0F 0x01 0 [] s else s

/-- THERMAL_SAMPLE (R190, R191, R209): samples of the eight sensors in 0.5 °C; none are taken in DOZE depth 2. -/
def execThermalSample (temps : List Int) (s : State) : Host.Outcome State Fault Refusal :=
  if !tickRuns s || decide (temps.length ≠ 8) then complete s
  else
    let s := { s with energy := { s.energy with temps := temps, samples := min 100 (s.energy.samples + 1) } }
    complete (applyThermal (checkSensors s))

/-- WARMUP_END (R191): with 100 samples of history the warm-up factor is 1, as `grantFactor` reads it. -/
def execWarmupEnd (s : State) : Host.Outcome State Fault Refusal := complete s

/-- THROTTLED_SET (R38, R193). -/
def execThrottledSet (s : State) : Host.Outcome State Fault Refusal :=
  if s.modes.heldRun ≥ 1000 && !s.modes.word.doze then complete (latchModes (fun w => { w with throttled := true }) s)
  else complete s

/-- THROTTLED_CLEAR (R38). -/
def execThrottledClear (s : State) : Host.Outcome State Fault Refusal :=
  if s.modes.quietRun ≥ 1000 then complete (latchModes (fun w => { w with throttled := false }) s) else complete s

/-- POWER_LIMIT_WRITE (R188): from the next tick edge, with its event. -/
def execPowerLimitWrite (src : Src) (value : Bytes) (s : State) : Host.Outcome State Fault Refusal :=
  let act := fun (p : Path) (v : Bytes) (s : State) =>
    let old := s.energy.newLimit.getD s.energy.limit
    let s := { s with energy := { s.energy with newLimit := some (leNat v) } }
    Answer.now 0 (logEvent 0x0103 (pathSource s p) (natLE 2 old ++ natLE 2 (leNat v)) s)
  complete (runWrite src 0x2000 0x02 value anyValue act s)

/-! ### Starvation (R223) -/

/-- STARVATION_DETECTED: a wait counter has passed its threshold; the flag is set, the event appended and the manager
told. -/
def execStarvationDetected (arbiter requester bank wait : Nat) (s : State) : Host.Outcome State Fault Refusal :=
  let flags := s.flow.flags.getD arbiter 0
  let flag := if arbiter = 0 then 8 * (bank / 8) + requester else requester
  if arbiter ≥ 4 ∨ requester ≥ [8, 3, 4, 4].getD arbiter 0 ∨ bank ≥ 32 ∨ wait ≤ s.flow.thresholds.getD arbiter 0 then complete s
  else
    let s := { s with flow := { s.flow with flags := setAt s.flow.flags arbiter (flags ||| 2 ^ flag) } }
    complete (managerNotify 1 (logEvent 0x0601 0xFFFF [byte arbiter, byte requester, byte bank] s))

/-- STARVATION_FLAG_CLEAR: a 1 written to a flag clears it. -/
def execStarvationFlagClear (src : Src) (arbiter : Nat) (value : Bytes) (s : State) : Host.Outcome State Fault Refusal :=
  let act := fun (_ : Path) (v : Bytes) (s : State) =>
    let flags := s.flow.flags.getD arbiter 0
    Answer.now 0 { s with flow := { s.flow with flags := setAt s.flow.flags arbiter (flags - (flags &&& leNat v)) } }
  if arbiter < 4 then complete (runWrite src 0x2200 (0x14 + arbiter) value anyValue act s) else complete s

end Sys2Proof.Machine
end

