-- ==== Sys2Proof/Machine/Epochs.lean ====
section
/-!
DEFINITION. Epochs and what waits for them: commits, templates, settling, SERVICE permission, revocations that end, and
DOZE (R36 to R39, R67 to R71, R226, R300, R523, R583 to R585).
-/
namespace Sys2Proof.Machine

/-! ### The shadow set (R67, R523) -/

/-- The shadow values joined to those in force. -/
def mergedConfig (s : State) : EpochConfig :=
  let c := s.epochs.config
  let t := s.epochs.staged
  { maxDeadline := t.maxDeadline.getD c.maxDeadline
    defaultDeadline := t.defaultDeadline.getD c.defaultDeadline
    yieldLimit := t.yieldLimit.getD c.yieldLimit
    decTables := t.decTables.foldl (fun ts x => setAt ts x.1 x.2) c.decTables
    pinDowngrade := t.pinDowngrade.getD c.pinDowngrade }

/-- Some shadow value differs from the value in force, or a template action is staged. -/
def shadowChanged (s : State) : Bool :=
  decide (mergedConfig s ≠ s.epochs.config) ||
    s.tenants.insts.any (fun i => decide (i.2.stagedRights ≠ i.2.rights)) ||
    s.epochs.templates.any fun t => t.2.staged.isSome

/-- Every staged value in force, as items of a configuration set (R558). -/
def stagedItems (c : EpochConfig) : Bytes :=
  configItem (entryKey 0x2100 1) (natLE 4 c.maxDeadline) ++ configItem (entryKey 0x2100 2) (natLE 4 c.defaultDeadline) ++
    configItem (entryKey 0x3200 1) (natLE 2 c.yieldLimit) ++
    (((List.range 8).zip c.decTables).flatMap fun x => configItem (entryKey 0x3310 (x.1 + 1)) x.2) ++
    configItem (entryKey 0x3311 1) [byte (bit c.pinDowngrade)]

/-! ### Settling (R300) -/

/-- A slot settles or is zeroised when the epoch before a commit has drained; a BAD one only leaves the list (R291). -/
def settleSlot (s : State) (n : Nat) : State :=
  let a := attrOfWord (getSlot s n).attr
  let leave := fun (s : State) => { s with keys := { s.keys with staging := s.keys.staging.filter fun m => decide (m ≠ n) } }
  if (getSlot s n).state ≠ .valid then leave s
  else if a.mark = 1 ∧ a.epoch = s.epochs.current.toNat % 256 then
    let attr := withMark (getSlot s n).attr 0 s.epochs.current.toNat
    let s := setSlotAttr n attr s
    let s := match entryOf s n with
      | some (e, f) => (resealEntry 4 e n attr f (getSlot s n).key s).getD s
      | none => s
    leave (replicate 0x02 (natLE 4 n ++ natLE 8 attr ++ [1]) s).2
  else if a.mark = 2 ∧ a.epoch ≠ s.epochs.current.toNat % 256 then
    leave (replicate 0x02 (natLE 4 n ++ zeros 8 ++ [0]) (zeroiseSlot n s).2).2
  else s

/-- Nothing of the old epoch is kept any more: its templates, rights and values go (R68, R71). -/
def dropOldEpoch (s : State) : State :=
  let s := s.epochs.templates.foldl (fun s x => freeBuffers x.2.oldBuffers s) s
  let drop := fun (_ : Nat) (t : Template) => { t with oldOwner := 0, oldBody := none, oldBuffers := [] }
  let templates := SMap.keep (SMap.mapValues s.epochs.templates drop) fun _ t => decide (t ≠ Template.empty)
  let insts := SMap.mapValues s.tenants.insts fun _ i => { i with oldRights := i.rights }
  { s with epochs := { s.epochs with templates := templates, oldConfig := s.epochs.config }
           tenants := { s.tenants with insts := insts } }

/-- The old epoch has drained: what was kept for it goes, and the staged slots are settled (R68, R71, R300). -/
def drainEpoch (s : State) : State :=
  let work := !s.keys.staging.isEmpty
  let s := dropOldEpoch s
  s.keys.staging.foldl settleSlot { s with epochs := { s.epochs with settling := work } }

/-! ### The commit (R67, R68, R71) -/

/-- A template slot takes its staged content; the body in force becomes the old one. -/
def commitTemplate (t : Template) : Template :=
  match t.staged with
  | none => t
  | some none =>
    { owner := 0, body := none, buffers := [], oldOwner := t.owner, oldBody := t.body, oldBuffers := t.buffers,
      staged := none }
  | some (some (o, b, bs)) =>
    { owner := o, body := some b, buffers := bs, oldOwner := t.owner, oldBody := t.body, oldBuffers := t.buffers,
      staged := none }

/-- The shadow set takes effect as a new epoch. -/
def doCommit (source : Nat) (s : State) : State :=
  let old := s.epochs.current
  let new := old + 1
  let config := mergedConfig s
  let inFlight := !s.disp.chains.isEmpty
  let pin : Bytes := [byte (bit config.pinDowngrade)]
  let values := (((List.range 8).zip config.decTables).map fun x => (entryKey 0x3310 (x.1 + 1), x.2)) ++
    [(entryKey 0x3311 1, pin)]
  let moved := decide (config.decTables ≠ s.epochs.config.decTables ∨ config.pinDowngrade ≠ s.epochs.config.pinDowngrade)
  let insts := SMap.mapValues s.tenants.insts fun _ i => { i with oldRights := i.rights, rights := i.stagedRights }
  let s := { s with
    epochs := { s.epochs with
      current := new, old := old, config := config, oldConfig := s.epochs.config, staged := Staged.none,
      commitResult := 0, templates := SMap.mapValues s.epochs.templates fun _ t => commitTemplate t, commitWaits := false }
    tenants := { s.tenants with insts := insts } }
  let s := if moved then writeConfig values s else s
  let s := notifyTenants 4 (logRequired 0x0102 source (natLE 2 old.toNat ++ natLE 2 new.toNat) s)
  let s := (replicate 0x13 (natLE 2 new.toNat ++ stagedItems config) s).2
  if inFlight then latchModes (fun w => { w with epochSwitch := true }) s else drainEpoch s

/-- Why a commit is refused, as OD 0x2100:06 shows it. -/
def commitRefused (s : State) : Nat :=
  if lockedNow s then 2
  else if evlogFull s then 3
  else if s.modes.word.epochSwitch then 1
  else if !shadowChanged s then 4 else 0

/-- COMMIT (R67, R68): a commit that finds the settling of the epoch before still running waits for it (R300). -/
def execCommit (src : Src) (s : State) : Host.Outcome State Fault Refusal :=
  let act := fun (p : Path) (s : State) =>
    let r := commitRefused s
    if r ≠ 0 then Answer.now 0 { s with epochs := { s.epochs with commitResult := r } }
    else if s.epochs.settling then
      { Answer.recorded 0 { s with epochs := { s.epochs with commitWaits := true } } with event := s.log.total + 1 }
    else
      let t := doCommit (pathSource s p) s
      { Answer.recorded 0 t with
        pages := if pageWaiting t .config configPage then [(Store.config, configPage)] else []
        records := if replicating t then [t.twin.nextRecord - 1] else [] }
  complete (runAction src 0x2100 0x05 1 act s)

/-- EPOCH_DRAINED (R68): no Chain tagged with the old epoch remains. On the standby of a pair the row says that the holder's old epoch
has drained (rule 21 of R43), and slots settle by the holder's records (DESIGN CHOICE, assumption 83: no record carries the
drain). -/
def execEpochDrained (s : State) : Host.Outcome State Fault Refusal :=
  if s.modes.word.epochSwitch && (chainsWhere s fun ch => decide (ch.epoch = s.epochs.old.toNat)).isEmpty then
    let s := if standbyNow s then dropOldEpoch s else drainEpoch s
    complete (latchModes (fun w => { w with epochSwitch := false }) s)
  else complete s

/-- SETTLING_COMPLETE (R300): a commit that waited takes effect. -/
def execSettlingComplete (s : State) : Host.Outcome State Fault Refusal :=
  if !s.epochs.settling then complete s
  else
    let s := { s with epochs := { s.epochs with settling := false } }
    complete (if s.epochs.commitWaits then doCommit 0 s else s)

/-! ### Templates (R69 to R71) -/

/-- Buffers of a staged load are given back. -/
def dropStaged (t : Template) (s : State) : State :=
  match t.staged with
  | some (some (_, _, bs)) => freeBuffers bs s
  | _ => s

/-- The result of a template action is shown. -/
def templateResult (r : Nat) (s : State) : State :=
  let x := s.epochs.record
  { s with epochs := { s.epochs with
      record := { x with result := r, before := shownResult s x.result x.before x.await, await := [] } } }

/-- The result shows once the action's records are acknowledged (R557). -/
def templateAwait (rs : List Nat) (s : State) : State :=
  { s with epochs := { s.epochs with record := { s.epochs.record with await := rs } } }

/-- TEMPLATE_STAGE_LOAD (R70): the body is fetched from host memory. -/
def execTemplateStageLoad (src : Src) (s : State) : Host.Outcome State Fault Refusal :=
  let act := fun (_ : Path) (s : State) =>
    let r := s.epochs.record
    if !s.host.linkUp then Answer.now 0 (templateResult 0x010A s)
    else if r.len < 96 then Answer.now 0 (templateResult 0x0102 s)
    else Answer.now 0 (requestRead (.template r.slot r.owner) 0 r.addr r.len s)
  complete (runAction src 0x2102 0x05 1 act s)

/-- Content of a template record (R558). -/
def templateRecord (slot owner epoch : Nat) (body : Bytes) : Bytes := natLE 2 slot ++ natLE 2 owner ++ natLE 2 epoch ++ body

/-- TEMPLATE_STAGE_CLEAR (R70). -/
def execTemplateStageClear (src : Src) (s : State) : Host.Outcome State Fault Refusal :=
  let act := fun (_ : Path) (s : State) =>
    let n := s.epochs.record.slot
    let t := SMap.get Template.empty s.epochs.templates n
    let s := dropStaged t s
    let templates := SMap.set Template.empty s.epochs.templates n { t with staged := some none }
    let s := templateResult 0 { s with epochs := { s.epochs with templates := templates } }
    let (rs, s) := replicate 0x12 (templateRecord n t.owner (s.epochs.current.toNat + 1) []) s
    { Answer.now 0 (templateAwait rs s) with records := rs }
  complete (runAction src 0x2102 0x05 2 act s)

/-- The checks of R56 that do not depend on a submission. -/
def templateFaults (s : State) (bytes : Bytes) : List Nat :=
  let b := bodyOfBytes bytes
  let count := if b.linkCount = (bytes.length - 64) / 32 then [] else [0x0102]
  (count ++ bodyFaults s.images.firmwareOps b).filter fun f => !(List.contains [0x0108, 0x010D, 0x0201] f)

/-- A fetched body is checked and staged, or refused. -/
def stageTemplate (slot owner : Nat) (bytes : Bytes) (s : State) : State :=
  let faults := templateFaults s bytes
  match faults with
  | f :: fs => templateResult (fs.foldl min f) s
  | [] =>
    let n := ceilDiv bytes.length 256
    if !quotaCovers s owner n then templateResult 0x0401 s
    else
      match allocate s owner n with
      | none => templateResult 0x0401 (countNone 2 s)
      | some bs =>
        let s := takeGrant 2 (functionTag owner) bs s
        let t := SMap.get Template.empty s.epochs.templates slot
        let s := dropStaged t s
        let templates := SMap.set Template.empty s.epochs.templates slot
          { t with staged := some (some (owner, bodyOfBytes bytes, bs)) }
        let s := templateResult 0 { s with epochs := { s.epochs with templates := templates } }
        let (rs, s) := replicate 0x12 (templateRecord slot owner (s.epochs.current.toNat + 1) bytes) s
        templateAwait rs s

/-- TEMPLATE_BODY_FETCH (R70). -/
def execTemplateBodyFetch (ident : Nat) (answer : ReadAnswer) (s : State) : Host.Outcome State Fault Refusal :=
  match findRead s ident with
  | some r =>
    match r.kind, answer with
    | .template slot owner, .data bytes => complete (stageTemplate slot owner (padTo r.len bytes) (dropRead ident s))
    | .template _ _, _ => complete (templateResult 0x010A (send (.aer 0 3) (dropRead ident s)))
    | _, _ => complete s
  | none => complete s

/-! ### Permission for SERVICE (R38, R557) -/

/-- SERVICE_ENABLE_WRITE. -/
def execServiceEnableWrite (src : Src) (value : Bytes) (s : State) : Host.Outcome State Fault Refusal :=
  let act := fun (_ : Path) (v : Bytes) (s : State) =>
    let s := { s with modes := { s.modes with serviceEnable := decide (leNat v = 1) } }
    let (rs, s) := replicate 0x14 (configItem (entryKey 0x1200 4) v) s
    { Answer.now 0 s with records := rs }
  complete (runWrite src 0x1200 0x04 value anyValue act s)

/-! ### Revocations that end (R226, R254) -/

/-- A revoked Chain has no Link ISSUED. -/
def revocationDone (ch : Chain) : Bool := ch.revoked && ch.all.all fun x => decide (x.2.2.st ≠ .issued)

/-- A revoked Chain's context and all it holds are freed, its completion slot with them. -/
def freeRevoked (s : State) (c : Nat) : State :=
  match getChain s c with
  | none => s
  | some ch =>
    let s := releaseChain c s
    drained ch.qp (modifyQp ch.qp (fun q => { q with cqReserved := q.cqReserved - 1 }) s)

/-- REVOCATION_COMPLETE: `owner` is the tag of a Chain context or of a host function (R225). -/
def execRevocationComplete (owner : Nat) (s : State) : Host.Outcome State Fault Refusal :=
  let mine := fun (c : Nat) (ch : Chain) => decide (chainTag c = owner) || decide (functionTag ch.fn = owner)
  let chains := s.disp.chains.filter fun x => mine x.1 x.2 && x.2.revoked
  if chains.all fun x => revocationDone x.2 then complete (chains.foldl (fun s x => freeRevoked s x.1) s) else complete s

/-! ### DOZE (R39, R583 to R585) -/

/-- DOZE_DEPTH1_ENTRY: region tests under way are restored (R387), and the clocks are gated. -/
def execDozeDepth1Entry (s : State) : Host.Outcome State Fault Refusal :=
  if decoded s && !s.modes.word.doze && !s.modes.word.epochSwitch && decide (s.modes.dozePermission ≠ 0) && partIdle s &&
      decide (s.modes.idleFor ≥ s.modes.dozeIdle1) && testsIdle s then
    complete (latchModes (fun w => { w with doze := true, dozeDepth := 1, throttled := false }) s)
  else complete s

/-- No delay-list entry falls due within the next 1,000 µs. -/
def nothingSoon (s : State) : Bool :=
  (dueGroups s).flatten.all fun d => decide (d.tick > s.disp.tick + 1000)

/-- The Device Time at which the ACLK wake timer ends depth 2: when the earliest entry falls due (R201). -/
def wakeTime (s : State) : Option Nat :=
  let earliest := ((dueGroups s).flatten.map (·.tick)).foldl (fun m t => some (match m with
    | some u => min u t
    | none => t)) none
  earliest.map fun t => s.sec.deviceTime.toNat + ceilDiv ((t - s.disp.tick) * 32768) 1000000

/-- Banks of chain memory (R372). -/
def bankCount (s : State) : Nat := byGrade s 32 32 16

/-- The banks in which no buffer is allocated (R379). DEDUCED (assumption 88): the reserve buffers in use are the lowest-numbered of the
reserve, which lies at the end of the pools. -/
def idleBanks (s : State) : List Nat :=
  let used := s.flow.buffers.map (·.1) ++ reserveHeld s
  (List.range (bankCount s)).filter fun b => !used.any fun x => decide (x / 1024 = b)

/-- DOZE_DEPTH2_ENTRY: neither PAIRED nor UPDATE limits the part to depth 1 (rules 23 and 34). Engine key registers and
pair memories are cleared, the wake timer is set, tick, sources and sensors stop, and banks that hold nothing power down. -/
def execDozeDepth2Entry (s : State) : Host.Outcome State Fault Refusal :=
  if s.modes.word.doze && decide (s.modes.word.dozeDepth = 1) && decide (s.modes.dozePermission = 2) && partIdle s &&
      decide (s.modes.idleFor ≥ s.modes.dozeIdle2) && testsIdle s && !pairedNow s && !updateNow s && nothingSoon s then
    let s := clearEngines s
    let s := { s with modes := { s.modes with dozeAt := s.sec.deviceTime.toNat, wakeTimer := wakeTime s, banksOff := idleBanks s } }
    complete (latchModes (fun w => { w with dozeDepth := 2 }) s)
  else complete s

/-- DOZE_WAKE. -/
def execDozeWake (s : State) : Host.Outcome State Fault Refusal := complete (wake s)

end Sys2Proof.Machine
end

