-- ==== Sys2Proof/Machine/HostRings.lean ====
section
/-!
DEFINITION. The rows of the host interface's rings: doorbells, fetches, write-back, completions, credits and interrupts
(R234, R239 to R252).
-/
namespace Sys2Proof.Machine

/-! ### Writes to BAR0 -/

/-- A doorbell's fields are taken (R239 to R241): the state of its queue pair after the write. DESIGN CHOICE (assumption 91): where both
fields are bad, SQ_TAIL is judged first and ERR_CAUSE reads 1. -/
def takeDoorbell (q v : Nat) (s : State) : State :=
  let x := getQp s q
  let tail := bits v 0 16
  let head := bits v 16 16
  let sq := bitOf v 32 && decide (x.state = .active)
  let cq := bitOf v 33
  let cqSize := ringSize x.cqSize
  let badTail := sq && decide (tail ≥ ringSize x.sqSize)
  let badHead := cq && (decide (head ≥ cqSize) || decide (ringSteps cqSize x.cqHead head > ringSteps cqSize x.cqHead x.cqTail))
  if badTail then errorQp q 1 s
  else if badHead then errorQp q 2 s
  else
    let s := modifyQp q (fun y => { y with sqTail := if sq then tail else y.sqTail,
                                           cqHead := if cq then head else y.cqHead }) s
    fetchQp q 2048 s

/-- A doorbell write is accepted or discarded (R240). -/
def doorbellWrite (w : HostWrite) (s : State) : State :=
  let v := leNat w.data
  if w.data.length ≠ 8 ∨ w.offset % 8 ≠ 0 ∨ bits v 34 30 ≠ 0 then countDiscard s
  else
    match localQp s w.fn (w.offset / 8) with
    | none => countDiscard s
    | some (q, x) => if x.state = .active ∨ x.state = .draining then takeDoorbell q v s else countDiscard s

/-- DOORBELL (R239 to R242). A write that is no doorbell, or that IDE policy discards, has no effect. -/
def execDoorbell (w : HostWrite) (s : State) : Host.Outcome State Fault Refusal :=
  if requestAccepted s w && decide (w.offset < doorbellEnd w.fn) then complete (doorbellWrite w (wake s)) else complete s

/-- BAR_UNIMPLEMENTED_ACCESS (R234): a read of an unimplemented offset or of a doorbell returns zeros; a write to an
unimplemented offset is discarded; both are counted. -/
def execBarUnimplementedAccess (read : Bool) (len : Nat) (w : HostWrite) (s : State) :
    Host.Outcome State Fault Refusal :=
  if !requestAccepted s w then complete s
  else if read then
    if w.offset < doorbellEnd w.fn ∨ !barImplemented s w.fn w.offset then
      complete (countDiscard (send (.barRead w.fn w.offset (zeros len)) s))
    else complete s
  else if barImplemented s w.fn w.offset then complete s
  else complete (countDiscard s)

/-- POISONED_WRITE (R234, R252): discarded, with its report; one that IDE policy discards reports nothing (R253). -/
def execPoisonedWrite (w : HostWrite) (s : State) : Host.Outcome State Fault Refusal :=
  if requestAccepted s w then complete (send (.aer w.fn aerPoisoned) s) else complete s

/-! ### Fetches that land or fail (R46, R52, R242, R252) -/

/-- Runs that have landed and follow on the entries held are joined to them. -/
def joinRuns (size : Nat) (x : QueuePair) : Nat → QueuePair
  | 0 => x
  | fuel + 1 =>
    let y := joinRuns size x fuel
    match y.early.find? fun r => decide (r.1 = (y.sqHead + y.fetched.length) % size) with
    | some r => { y with fetched := y.fetched ++ r.2, early := y.early.filter fun e => decide (e ≠ r) }
    | none => y

/-- A run of entries lands; entries are held in ring order, whatever the order in which runs land. -/
def landEntries (q first count : Nat) (data : Bytes) (s : State) : State :=
  let x := getQp s q
  if x.state ≠ .active then s
  else
    let es := (List.range count).map fun i => padTo 64 (slice (64 * i) 64 data)
    let x := { x with early := x.early ++ [(first, es)] }
    let x := joinRuns (ringSize x.sqSize) x x.early.length
    startDescriptor q (modifyQp q (fun _ => x) s)

/-- A ring's fetch fails: the queue pair goes to ERROR with ERR_CAUSE 3. -/
def failEntries (q kind : Nat) (s : State) : State :=
  let x := getQp s q
  let s := send (.aer x.fn kind) s
  if x.state = .active then errorQp q 3 s else s

/-- SUBMISSION_FETCH_COMPLETION (R242). -/
def execSubmissionFetchCompletion (ident : Nat) (answer : ReadAnswer) (s : State) : Host.Outcome State Fault Refusal :=
  match findRead s ident with
  | some r =>
    match r.kind, answer with
    | .entries q first count, .data bytes => complete (fetchAll (landEntries q first count bytes (dropRead ident s)))
    | .entries q _ _, _ => complete (fetchAll (failEntries q aerUnexpected (dropRead ident s)))
    | _, _ => complete s
  | none => complete s

/-- A descriptor lands, or its fetch has failed; its entry becomes offerable. -/
def landDescriptor (q : Nat) (d : Option Bytes) (s : State) : State :=
  if (getQp s q).state = .active then modifyQp q (fun x => { x with descriptor := some d }) s else s

/-- DESCRIPTOR_FETCH_COMPLETION (R46, R252). -/
def execDescriptorFetchCompletion (ident : Nat) (answer : ReadAnswer) (s : State) : Host.Outcome State Fault Refusal :=
  match findRead s ident with
  | some r =>
    match r.kind, answer with
    | .descriptor q, .data bytes => complete (fetchAll (landDescriptor q (some (padTo r.len bytes)) (dropRead ident s)))
    | .descriptor q, _ =>
      complete (fetchAll (landDescriptor q none (send (.aer r.fn aerUnexpected) (dropRead ident s))))
    | _, _ => complete s
  | none => complete s

/-- The input block lands in the input region, and the Links that wait for it are evaluated again (R52, R58). -/
def landInput (c : Nat) (data : Bytes) (s : State) : State :=
  match getChain s c with
  | none => s
  | some ch =>
    let s := modifyChain c (fun ch => { ch with inputLanded := true }) s
    storeChain hostMaster ch 0 (padTo ch.inputLen data) (noteFinal c (rescan c s))

/-- The fetch of the input block fails: the Chain is completed with 0x010A (R55, R252). -/
def failInput (c : Nat) (s : State) : State := noteFinal c (closeChain c 0x010A 0xFE s)

/-- INPUT_FETCH_COMPLETION (R52, R252). -/
def execInputFetchCompletion (ident : Nat) (answer : ReadAnswer) (s : State) : Host.Outcome State Fault Refusal :=
  match findRead s ident with
  | some r =>
    match r.kind, answer with
    | .input c, .data bytes => complete (fetchAll (landInput c bytes (dropRead ident s)))
    | .input c, _ => complete (fetchAll (failInput c (send (.aer r.fn aerUnexpected) (dropRead ident s))))
    | _, _ => complete s
  | none => complete s

/-! ### Results on C0 (R30, R73, R248) -/

/-- One byte of a write-back item: zero in the output range of a SKIPPED Link (R73). -/
def itemByte (s : State) (ch : Chain) (skipped : List (Nat × Nat)) (off : Nat) : Byte :=
  if skipped.any fun r => decide (r.1 ≤ off) && decide (off < r.2) then 0 else Memory.read s.chainMem (ch.addr off)

/-- The write-back items of a Chain, back to back. -/
def writeBackData (s : State) (ch : Chain) : Bytes :=
  let skipped := (ch.body.outs.filter fun o => decide (ch.stateOf o.1 = .skipped)).map fun o => (o.2.1, o.2.2)
  (List.range ch.body.wbCount).flatMap fun i =>
    (List.range (refLen (ch.body.wb i))).map fun j => itemByte s ch skipped (refStart (ch.body.wb i) + j)

/-- A Chain's results may leave: it is finished and its ring has not been stopped (R24, R237). -/
def mayLeave (s : State) (ch : Chain) : Bool :=
  ch.finished && !ch.revoked && !(ch.expired && !ch.closed) &&
    (decide ((getQp s ch.qp).state ≠ .error) && decide ((getQp s ch.qp).state ≠ .disabled))

/-- A Chain has items to write. -/
def owesData (ch : Chain) : Bool := decide (ch.status = 0) && decide (ch.body.wbCount > 0) && !ch.writtenBack

/-- The addresses of the transfers with which the host interface reads the items of a Chain. -/
def writeBackAddrs (ch : Chain) : List Nat :=
  (List.range ch.body.wbCount).flatMap fun i => chainAddrs ch (refStart (ch.body.wb i)) (refLen (ch.body.wb i))

/-- CHAIN_WRITE_BACK (R30, R73): as many packets of the items as the posted credits cover; the rest follows when credits
return. A read that the tables refuse is Fatal, and nothing of it leaves (R393, R395). -/
def execChainWriteBack (chain : Nat) (s : State) : Host.Outcome State Fault Refusal :=
  match getChain s chain with
  | none => complete s
  | some ch =>
    let bad := refusedAt s hostMaster 0 (writeBackAddrs ch)
    if !mayLeave s ch || !owesData ch then complete s
    else if bad ≠ [] then complete (refuseAll hostMaster 0 bad s)
    else
      let data := writeBackData s ch
      let (n, s) := postWrite ch.fn (ch.resultAddr + ch.wbSent) (data.drop ch.wbSent) s
      complete (modifyChain chain (fun c => { c with wbSent := c.wbSent + n,
                                                     writtenBack := decide (c.wbSent + n ≥ data.length) }) s)

/-- Nothing holds back a Chain's completion: its data is written, its pages are durable and its records acknowledged
(R27, R30, R308). -/
def completionReady (s : State) (ch : Chain) : Bool :=
  mayLeave s ch && !owesData ch && recordsDone s ch.waitRecords && eventDurable s ch.waitEvent && pagesDone s (ch.waitPages.map fun p => (Store.keys, p))

/-- A completion of a queue pair would leave ahead of one that is as due and whose Chain finished before (R249). -/
def outOfTurn (s : State) (q seq : Nat) : Bool :=
  s.disp.chains.any (fun x => decide (x.2.qp = q) && decide (x.2.finSeq < seq) && completionReady s x.2) ||
    s.host.queued.any fun e => decide (e.qp = q) && decide (e.finSeq < seq)

/-- A Chain's completion is the next of its ring. -/
def completionDue (s : State) (ch : Chain) : Bool := completionReady s ch && !outOfTurn s ch.qp ch.finSeq

/-- The completion entry of a Chain is written and the Chain's reservations are released (R31, R248). -/
def completeChain (c : Nat) (s : State) : State :=
  match getChain s c with
  | none => s
  | some ch =>
    if !completionDue s ch then s
    else
      let (sent, s) := writeEntryAt ch.qp (fun q => chainEntry q ch) s
      let expiries := if ch.status = 0x0601 then s.epochs.expiries + 1 else s.epochs.expiries
      if sent then releaseChain c { s with epochs := { s.epochs with expiries := expiries } } else s

/-- The completion at the head of C0 that no Chain context holds. -/
def completeQueued (s : State) : State :=
  match s.host.queued with
  | [] => s
  | e :: rest =>
    if outOfTurn s e.qp e.finSeq then s else
    let entry := fun (q : QueuePair) => completionEntry q e.tag e.status e.firstFail e.flags (zeros 12) 0 0
    let (sent, s) := writeEntryAt e.qp entry s
    if sent then { s with host := { s.host with queued := rest } } else s

/-- COMPLETION_WRITE (R248): of a Chain context, or of the oldest refusal that waits. -/
def execCompletionWrite (chain : Option Nat) (s : State) : Host.Outcome State Fault Refusal :=
  match chain with
  | some c => complete (completeChain c s)
  | none => complete (completeQueued s)

/-- POSTED_CREDIT_UPDATE (R213): credits the link partner advertises anew; waiting messages above the reserve leave. -/
def execPostedCreditUpdate (headers data : Nat) (s : State) : Host.Outcome State Fault Refusal :=
  let s := { s with flow := { s.flow with postedHdr := s.flow.postedHdr + headers, postedData := s.flow.postedData + data } }
  complete (releasePosted s)

/-! ### Interrupts (R250) -/

/-- MODERATION_TIMER_EXPIRY: the message is sent once MOD_TIME has passed since the first completion it counts. -/
def execModerationTimerExpiry (qp : Nat) (s : State) : Host.Outcome State Fault Refusal :=
  let x := getQp s qp
  match x.modDue with
  | none => complete s
  | some t =>
    if t > s.disp.tick then complete s
    else complete (sendMsix x.fn x.vector (modifyQp qp (fun y => { y with irqPending := 0, modDue := none }) s))

/-- Vectors of a function's MSI-X table (R231). -/
def vectorCount (fn : Nat) : Nat := if fn = 0 then 2048 else 64

/-- MSIX_UNMASK: the vector's entry is written and unmasked, and a pending message is sent. -/
def execMsixUnmask (fn vector : Nat) (address : BitVec 64) (data : BitVec 32) (s : State) : Host.Outcome State Fault Refusal :=
  if !functionExists s fn || decide (vector ≥ vectorCount fn) then complete s
  else
    let m := SMap.get Msix.reset s.host.msix fn
    let unmasked := if m.unmasked.contains vector then m.unmasked else m.unmasked ++ [vector]
    let m' := { unmasked := unmasked, pending := m.pending.filter fun v => decide (v ≠ vector),
                table := SMap.set (0, 0) m.table vector (address, data) : Msix }
    let s' := { s with host := { s.host with msix := SMap.put s.host.msix fn m' } }
    if m.pending.contains vector then complete (sendMsix fn vector s') else complete s'

/-! ### Buffers that a withdrawn request has still to give back (R219) -/

/-- GRANT_RETURN: the port returns every buffer of its wasted grant, which is counted. -/
def execGrantReturn (port : Nat) (s : State) : Host.Outcome State Fault Refusal :=
  match s.flow.wasted.find? fun g => decide (g.port = port) with
  | none => complete s
  | some g =>
    let s := freeBuffers g.buffers s
    complete { s with flow := { s.flow with wasted := s.flow.wasted.filter fun h => decide (h ≠ g)
                                            wastedGrants := s.flow.wastedGrants + 1 } }

end Sys2Proof.Machine
end

