-- ==== Sys2Proof/Machine/QueuePairs.lean ====
section
/-!
DEFINITION. Queue pairs as the manager sets them up, fetches that time out, IDE, and the manager's notification causes
(R235 to R238, R242, R252, R253, R260).
-/
namespace Sys2Proof.Machine

/-- STATE of a queue pair as its context shows it. -/
def QpState.code : QpState → Nat
  | .disabled => 0 | .active => 1 | .draining => 2 | .frozen => 3 | .error => 4

/-- The 64 B context (R236). -/
def qpContext (q : QueuePair) : Bytes :=
  natLE 8 (q.sqSize + q.cqSize * 2 ^ 4 + q.state.code * 2 ^ 8 + q.sqBase * 2 ^ 12) ++
  natLE 8 (q.fn + q.cqBase * 2 ^ 12) ++ natLE 8 (q.winSize + q.winBase * 2 ^ 12) ++
  natLE 8 (q.sqHead + q.sqTail * 2 ^ 16 + q.cqTail * 2 ^ 32 + q.cqHead * 2 ^ 48) ++
  natLE 8 (q.cqReserved % 2 ^ 16 + bit q.phase * 2 ^ 16 + q.vector * 2 ^ 17 +
    q.modCount * 2 ^ 32 + q.modTime * 2 ^ 48) ++
  natLE 8 (q.irqPending + q.errCause * 2 ^ 16 + q.localNo * 2 ^ 32) ++
  natLE 8 (q.admitted.toNat + q.completed.toNat * 2 ^ 32) ++ zeros 8

/-- A queue pair is replicated (R557, R558). -/
def replicateQp (n : Nat) (s : State) : List Nat × State := replicate 0x11 (natLE 4 n ++ qpContext (getQp s n)) s

/-- The queue pair lies in a function's pool (R261). -/
def inQpPool (s : State) (fn n : Nat) : Bool :=
  let holds := fun (i : Inst) => decide (i.state ≠ .free) && decide (i.qpBase ≤ n) && decide (n < i.qpBase + i.qpCount)
  decide (n < qpCount s) &&
    (if fn = 0 then !s.tenants.insts.any fun i => holds i.2 else holds (getInst s fn))

/-- The record's fields are in range (R235, R238). DESIGN CHOICE (assumption 91): WIN_SIZE has five bits in its entry and in the context, so
that the size 32 of its range cannot be named. -/
def qpFieldsFit (r : QpRecord) : Bool :=
  let sq := bits r.sizes 0 4
  let cq := bits r.sizes 4 4
  let win := bits r.sizes 8 5
  let vectors := if r.fn = 0 then 2048 else 64
  decide (4 ≤ sq) && decide (sq ≤ 14) && decide (4 ≤ cq) && decide (cq ≤ 14) && decide (12 ≤ win) && decide (win ≤ 32) &&
    decide (r.localNo < if r.fn = 0 then 65536 else 4096) && decide (1 ≤ r.vector) && decide (r.vector < vectors) &&
    decide (r.sqBase + 64 * 2 ^ sq ≤ 2 ^ 64) && decide (r.cqBase + 32 * 2 ^ cq ≤ 2 ^ 64) &&
    decide (r.winBase + 2 ^ win ≤ 2 ^ 64)

/-- Result of the set-up action (R238, OD 0x4020:0C). -/
def setUpResult (s : State) : Nat :=
  let r := s.host.record
  if !qpFieldsFit r then 1
  else if !inQpPool s r.fn r.qp then 2
  else if (getQp s r.qp).state ≠ .disabled then 3
  else if s.host.qps.any fun x => decide (x.1 ≠ r.qp) && x.2.isSet && decide (x.2.fn = r.fn) && decide (x.2.localNo = r.localNo)
  then 4 else 0

/-- The context the set-up action writes: RW fields from the record. -/
def setUpContext (r : QpRecord) : QueuePair :=
  { QueuePair.reset with
    sqSize := bits r.sizes 0 4, cqSize := bits r.sizes 4 4, sqBase := r.sqBase / 4096, fn := r.fn, cqBase := r.cqBase / 4096,
    winSize := bits r.sizes 8 5, winBase := r.winBase / 4096, vector := r.vector, modCount := r.modCount, modTime := r.modTime,
    localNo := r.localNo, isSet := true }

/-- The result of a queue-pair action is shown. -/
def qpResult (r : Nat) (s : State) : State :=
  let x := s.host.record
  { s with host := { s.host with record := { x with result := r, before := shownResult s x.result x.before x.await, await := [] } } }

/-- A queue-pair action: its result, and its effect with the record that its answer waits for. -/
def qpAction (result : Nat) (f : State → State) (s : State) : Answer :=
  if result ≠ 0 then Answer.now 0 (qpResult result s)
  else
    let n := s.host.record.qp
    let (rs, s) := replicateQp n (f (qpResult 0 s))
    let s := { s with host := { s.host with record := { s.host.record with await := rs } } }
    { Answer.now 0 s with records := rs }

/-- QP_SET_UP (R238). -/
def execQpSetUp (src : Src) (s : State) : Host.Outcome State Fault Refusal :=
  let act := fun (_ : Path) (s : State) =>
    qpAction (setUpResult s) (fun s => modifyQp s.host.record.qp (fun _ => setUpContext s.host.record) s) s
  complete (runAction src 0x4020 0x0B 1 act s)

/-- QP_ENABLE (R237, R238, R253). -/
def execQpEnable (src : Src) (s : State) : Host.Outcome State Fault Refusal :=
  let act := fun (_ : Path) (s : State) => qpAction (enableResult s s.host.record.qp) (enableQp s.host.record.qp) s
  complete (runAction src 0x4020 0x0B 2 act s)

/-- QP_DISABLE (R237). -/
def execQpDisable (src : Src) (s : State) : Host.Outcome State Fault Refusal :=
  let act := fun (_ : Path) (s : State) => qpAction (disableResult s s.host.record.qp) (disableQp s.host.record.qp) s
  complete (runAction src 0x4020 0x0B 3 act s)

/-- QP_RELEASE (R260). -/
def execQpRelease (src : Src) (s : State) : Host.Outcome State Fault Refusal :=
  let act := fun (_ : Path) (s : State) =>
    let n := s.host.record.qp
    qpAction (if (getQp s n).state = .disabled then 0 else 3) (modifyQp n fun _ => QueuePair.reset) s
  complete (runAction src 0x4020 0x0B 4 act s)

/-! ### Fetches that fail without an answer (R242, R252) -/

/-- A read of host memory has failed; the AER report is of the kind given. -/
def failRead (r : HostRead) (kind : Nat) (s : State) : State :=
  match r.kind with
  | .entries q _ _ => failEntries q kind s
  | .descriptor q => landDescriptor q none (send (.aer r.fn kind) s)
  | .input c => failInput c (send (.aer r.fn kind) s)
  | .template _ _ => templateResult 0x010A (send (.aer 0 kind) s)
  | .image _ => endStaging slotEmpty 0x13 (send (.aer 0 kind) s)

/-- FETCH_TIMEOUT (R242, R252). -/
def execFetchTimeout (ident : Nat) (s : State) : Host.Outcome State Fault Refusal :=
  match findRead s ident with
  | some r => complete (fetchAll (failRead r aerTimeout (dropRead ident s)))
  | none => complete s

/-! ### IDE (R252, R253) -/

/-- IDE_REQUIRED_WRITE: a persistent entry, in effect once its page is durable (R524). -/
def execIdeRequiredWrite (src : Src) (value : Bytes) (s : State) : Host.Outcome State Fault Refusal :=
  let act := fun (_ : Path) (v : Bytes) (s : State) =>
    { Answer.now 0 (writeConfig [(entryKey 0x4030 2, v)] s) with pages := [(Store.config, configPage)] }
  complete (runWrite src 0x4030 0x02 value anyValue act s)

/-- A stream leaves the Secure state: while IDE is required its functions' ACTIVE queue pairs go to ERROR, and the manager
is told. -/
def leaveSecure (stream : Nat) (s : State) : State :=
  match s.host.ide[stream]? with
  | none => s
  | some i =>
    if !i.secure then s
    else
      let s := { s with host := { s.host with ide := setAt s.host.ide stream { i with secure := false } } }
      let hit := s.host.qps.filter fun x => decide (x.2.state = .active) && decide (i.firstFn ≤ x.2.fn) && decide (x.2.fn ≤ i.lastFn)
      let s := if s.host.ideRequired then hit.foldl (fun s x => errorQp x.1 4 s) s else s
      managerNotify 3 s

/-- IDE_STREAM_NOT_SECURE (R253). -/
def execIdeStreamNotSecure (stream : Nat) (s : State) : Host.Outcome State Fault Refusal := complete (leaveSecure stream s)

/-- IDE_CHECK_FAILURE (R252, R253): reported and counted; the stream leaves Secure, and a read that met it fails. -/
def execIdeCheckFailure (stream : Nat) (ident : Option Nat) (s : State) : Host.Outcome State Fault Refusal :=
  match s.host.ide[stream]? with
  | none => complete s
  | some _ =>
    let s := { s with host := { s.host with ideFailures := s.host.ideFailures + 1 } }
    let s := leaveSecure stream (send (.aer 0 aerIde) s)
    match ident.bind (findRead s) with
    | some r => complete (fetchAll (failRead r aerUnexpected (dropRead r.ident s)))
    | none => complete s

/-- SPDM_REQUEST (R253): an SPDM or IDE_KM message is answered; keying moves its stream into the Secure state. The
protocol's content is the standards'. -/
def execSpdmRequest (stream first last : Nat) (keyed : Bool) (answer : Bytes) (s : State) :
    Host.Outcome State Fault Refusal :=
  if !s.host.linkUp then complete s
  else
    let s := send (.doe answer) s
    if !keyed || decide (stream ≥ 8) then complete s
    else
      let empty : IdeStream := { secure := false, firstFn := 0, lastFn := 0 }
      let ide := s.host.ide ++ List.replicate (8 - s.host.ide.length) empty
      let keyedStream : IdeStream := { secure := true, firstFn := first, lastFn := last }
      complete { s with host := { s.host with ide := setAt ide stream keyedStream } }

/-! ### Notification causes (R260) -/

/-- MANAGER_NOTIFICATION_CLEAR. -/
def execManagerNotificationClear (src : Src) (value : Bytes) (s : State) : Host.Outcome State Fault Refusal :=
  let act := fun (_ : Path) (v : Bytes) (s : State) =>
    Answer.now 0 { s with host := { s.host with causes := s.host.causes &&& ~~~(BitVec.ofNat 32 (leNat v)) } }
  complete (runWrite src 0x4000 0x04 value anyValue act s)

end Sys2Proof.Machine
end

