-- ==== Sys2Proof/Machine/Resets.lean ====
section
/-!
DEFINITION. Host and function resets, VF Enable, and the PCIe link (R38, R231, R254 to R259, R269, R570).
-/
namespace Sys2Proof.Machine

/-- Content of the record of an instance: number, state, pools and rights (R558). -/
def instanceContent (n : Nat) (i : Inst) : Bytes :=
  let st := match i.state with
    | .free => 0 | .active => 1 | .destroying => 2
  natLE 2 n ++ [byte st] ++ natLE 4 i.qpBase ++ natLE 2 i.qpCount ++ natLE 4 i.slotBase ++ natLE 4 i.slotCount ++
    natLE 4 i.quota ++ natLE 2 i.share ++ natLE 2 i.rights ++ natLE 2 i.stagedRights

/-- An instance is replicated; answers the records to wait for. -/
def replicateInst (n : Nat) (s : State) : List Nat × State := replicate 0x10 (instanceContent n (getInst s n)) s

/-- Chains of the functions given, not yet revoked: how many, and the uses committed in them. -/
def revokedCounts (s : State) (fns : Nat → Bool) : Nat × Nat :=
  let hit := s.disp.chains.filter fun x => fns x.2.fn && !x.2.revoked
  (hit.length, (hit.map fun x => x.2.uses).foldl (· + ·) 0)

/-- An owner tag is that of one of the functions given (R225). -/
def tagIn (fns : Nat → Bool) (tag : Nat) : Bool := decide (tag / 0x4000 = 2) && fns (tag % 0x4000)

/-- What carries the tag of one of the functions given is released: grants for nothing and slot locks (R226). Template slots remain
(R256). -/
def releaseFunctions (fns : Nat → Bool) (s : State) : State :=
  let s := (s.flow.wasted.filter fun g => tagIn fns g.owner).foldl (fun s g => freeBuffers g.buffers s) s
  { s with flow := { s.flow with wasted := s.flow.wasted.filter fun g => !tagIn fns g.owner
                                 locks := SMap.keep s.flow.locks fun _ l => !tagIn fns l.holder } }

/-- Steps 1 to 3 of R254 for the functions given: fetching ends, transfers are forgotten, what the functions hold is released and their
Chains are revoked. -/
def stopFunctions (fns : Nat → Bool) (s : State) : State :=
  let s := releaseFunctions fns s
  let reads := s.host.reads.filter fun r => !fns r.fn
  let posted := s.host.posted.filter fun p => !fns p.1
  let queued := s.host.queued.filter fun e => !fns (getQp s e.qp).fn
  let s := { s with host := { s.host with reads := reads, posted := posted, queued := queued } }
  (chainsWhere s fun ch => fns ch.fn).foldl revokeStopped s

/-- Mailboxes of the functions given are emptied; a message that executes counts, without a reply (R257). -/
def emptyMailboxes (fns : Nat → Bool) (s : State) : State :=
  (s.tenants.mailboxes.filter fun m => fns m.1).foldl (fun s m => emptyMailbox m.1 (settleHeld m.1 s)) s

/-- The revocations of a reset are counted. -/
def countRevoked (n : Nat × Nat) (s : State) : State :=
  { s with host := { s.host with chainsRevoked := s.host.chainsRevoked + BitVec.ofNat 64 n.1
                                 usesRevoked := s.host.usesRevoked + BitVec.ofNat 64 n.2 } }

/-- Instances dissolve: contexts, mailboxes and templates of VFs are cleared, pools return (R269). An instance that is DESTROYING stays so
until the steps of R268 are complete (R264). -/
def dissolve (s : State) : State :=
  let vf := fun (fn : Nat) => decide (fn ≠ 0)
  let s := clearTemplates vf (emptyMailboxes vf (stopFunctions vf s))
  let s := clearExpiring vf s
  { s with host := { s.host with qps := SMap.keep s.host.qps fun _ q => decide (q.fn = 0)
                                 msix := SMap.keep s.host.msix fun fn _ => decide (fn = 0)
                                 vfEnable := false, numVfs := 0 }
           tenants := { s.tenants with insts := SMap.keep s.tenants.insts fun _ i => decide (i.state = .destroying), mailboxes := SMap.keep s.tenants.mailboxes fun fn _ => decide (fn = 0) } }

/-- The link stays up at an FLR of PF0 and at its move from D3hot to D0 (R254). -/
def keepsLink (cause : HostResetCause) : Bool := decide (cause = .functionLevel) || decide (cause = .powerState)

/-- The link and the host's credits as a host reset that takes the link down leaves them. -/
def dropLink (cause : HostResetCause) (s : State) : State :=
  { s with host := { s.host with linkUp := false, rate := 0, width := 0, perst := decide (cause = .perst), resetBusy := true }
           flow := { s.flow with postedHdr := 0, postedData := 0 } }

/-- PCIe state as a host reset leaves it. -/
def resetPcie (cause : HostResetCause) (s : State) : State :=
  let s := if keepsLink cause then s else dropLink cause s
  { s with host := { s.host with vfEnable := false, numVfs := 0, msix := [], ide := [], reads := [], posted := [], queued := [] } }

/-- The instances, templates and slots that a host reset reaches, and its record; on the standby of a pair none of these (R254, R258,
R298). -/
def resetTenants (s : State) : State :=
  let all := fun (_ : Nat) => true
  if standbyNow s then s
  else
    let s := clearExpiring all (dissolve (clearTemplates all s))
    let (rs, s) := replicate 0x15 ([1] ++ natLE 2 0) s
    { s with host := { s.host with resetRecords := rs } }

/-- A host reset (R254). On the standby of a pair it touches only rings and PCIe state (R258, R298). -/
def hostReset (cause : HostResetCause) (s : State) : State :=
  let all := fun (_ : Nat) => true
  let n := revokedCounts s all
  let s := resetTenants (emptyMailboxes all (stopFunctions all s))
  let s := { s with host := { s.host with qps := [], resetReports := [] } }
  let s := countRevoked n (resetPcie cause s)
  logEvent 0x0106 0xFFFF (natLE 4 n.1 ++ natLE 8 n.2)
    { s with host := { s.host with hostResets := s.host.hostResets + 1 } }

/-- HOST_RESET (R254): every cause but PERST_N itself reaches the device over a link that is up. -/
def execHostReset (cause : HostResetCause) (s : State) : Host.Outcome State Fault Refusal :=
  if computeUp s ∧ (s.host.linkUp ∨ cause = .perst) then complete (hostReset cause s) else complete s

/-- The work of a host reset goes on: Chains still to be revoked, or a record that the peer has not acknowledged (R258, R259). -/
def resetGoesOn (s : State) : Bool := !(chainsWhere s fun ch => ch.revoked).isEmpty || !recordsDone s s.host.resetRecords

/-- PERST_DEASSERT (R259): training may begin once the internal work has ended. -/
def execPerstDeassert (s : State) : Host.Outcome State Fault Refusal :=
  let busy := resetGoesOn s
  complete { s with host := { s.host with perst := false, resetBusy := busy } }

/-- PCIE_LINK_UP (R231, R577): training ends at a negotiated rate and width. -/
def execPcieLinkUp (rate width : Nat) (s : State) : Host.Outcome State Fault Refusal :=
  let busy := s.host.resetBusy && resetGoesOn s
  if !decoded s || s.host.perst || s.host.linkUp || busy || !(List.contains [16, 32, 64] rate) || !(List.contains [1, 2, 4, 8] width) then
    complete s
  else complete { s with host := { s.host with linkUp := true, resetBusy := false, rate := rate, width := width } }

/-- A queue pair of a reset function: DISABLED, its RW fields kept (R256). -/
def disabledKept (q : QueuePair) : QueuePair :=
  { QueuePair.reset with
    sqSize := q.sqSize, cqSize := q.cqSize, sqBase := q.sqBase, fn := q.fn, cqBase := q.cqBase, winSize := q.winSize,
    winBase := q.winBase, vector := q.vector, modCount := q.modCount, modTime := q.modTime, localNo := q.localNo,
    isSet := q.isSet }

/-- A function reset (R256): it is reported complete once its Chains are revoked and its record is acknowledged (R258). -/
def functionReset (vf : Nat) (s : State) : State :=
  let mine := fun (fn : Nat) => decide (fn = vf)
  let n := revokedCounts s mine
  let s := emptyMailboxes mine (stopFunctions mine s)
  let qps := SMap.mapValues s.host.qps fun _ q => if q.fn = vf then disabledKept q else q
  let s := { s with host := { s.host with qps := qps, msix := SMap.erase s.host.msix vf, fnResets := s.host.fnResets + 1 } }
  let (rs, s) := if standbyNow s then ([], s) else replicate 0x15 ([2] ++ natLE 2 vf) (clearExpiring mine s)
  let s := logEvent 0x0107 0xFFFF (natLE 2 vf ++ [0, 0] ++ natLE 4 n.1 ++ natLE 8 n.2) (countRevoked n s)
  { s with host := { s.host with resetReports := s.host.resetReports ++ [(vf, rs)] } }

/-- FUNCTION_RESET (R256). -/
def execFunctionReset (vf : Nat) (s : State) : Host.Outcome State Fault Refusal :=
  if vf ≠ 0 ∧ functionExists s vf then complete (functionReset vf s) else complete s

/-- VF_ENABLE_SET (R38, R265). -/
def execVfEnableSet (numVfs : Nat) (s : State) : Host.Outcome State Fault Refusal :=
  if !s.host.linkUp || s.host.vfEnable || decide (numVfs = 0) || decide (numVfs > instCount s) then complete s
  else complete { s with host := { s.host with vfEnable := true, numVfs := numVfs } }

/-- VF_ENABLE_CLEAR (R269). -/
def execVfEnableClear (s : State) : Host.Outcome State Fault Refusal :=
  if !s.host.vfEnable then complete s
  else if standbyNow s then complete { s with host := { s.host with vfEnable := false, numVfs := 0 } }
  else
    let numbers := s.tenants.insts.map (·.1)
    complete (numbers.foldl (fun s n => (replicateInst n s).2) (dissolve s))

end Sys2Proof.Machine
end

