-- ==== Sys2Proof/Machine/Instances.lean ====
section
/-!
DEFINITION. Tenant instances: create, resize, destroy and purge (R261, R264 to R271, R283).
-/
namespace Sys2Proof.Machine

/-- The result of an instance action is shown. DESIGN CHOICE (assumption 92): a second action refused with 4 while a destroy runs shows
its 4 in place of the destroy's 0xFF, and the destroy's end shows 0. -/
def instResult (r : Nat) (s : State) : State :=
  let x := s.tenants.record
  { s with tenants := { s.tenants with
      record := { x with result := r, before := shownResult s x.result x.before x.await, await := [] } } }

/-- The result shows once the action's records are acknowledged (R267). -/
def instAwait (rs : List Nat) (s : State) : State :=
  { s with tenants := { s.tenants with record := { s.tenants.record with await := rs } } }

/-- A mode refuses instance actions: LOCKED, a full log where it counts, or the standby (R265). -/
def instMode (s : State) (withLog : Bool) : Bool := lockedNow s || (withLog && evlogFull s) || standbyNow s

/-- Two ranges of a base and a count overlap; an empty range overlaps none. -/
def rangesMeet (a n b m : Nat) : Bool := decide (0 < n) && decide (0 < m) && decide (a < b + m) && decide (b < a + n)

/-- A queue-pair range lies wholly among PF0's. -/
def qpRangeFree (s : State) (n base count : Nat) : Bool :=
  s.tenants.insts.all fun i => decide (i.1 = n) || decide (i.2.state = .free) || !rangesMeet base count i.2.qpBase i.2.qpCount

/-- A working-slot range meets no other instance's, and holds no key of another instance. -/
def slotRangeFree (s : State) (n base count : Nat) : Bool :=
  (s.tenants.insts.all fun i => decide (i.1 = n) || decide (i.2.state = .free) ||
      !rangesMeet base count i.2.slotBase i.2.slotCount) &&
    s.keys.slots.all fun x => !(decide (base ≤ x.1) && decide (x.1 < base + count)) || decide (x.2.state = .empty) ||
      decide (slotOwner x.2 = 0) || decide (slotOwner x.2 = n)

/-- Every queue pair of a range is DISABLED. -/
def qpsDisabled (s : State) (base count : Nat) : Bool :=
  s.host.qps.all fun x => !(decide (base ≤ x.1) && decide (x.1 < base + count)) || decide (x.2.state = .disabled)

/-- Every queue pair of a range is DISABLED and released. -/
def qpsReleased (s : State) (base count : Nat) : Bool :=
  s.host.qps.all fun x => !(decide (base ≤ x.1) && decide (x.1 < base + count)) || !x.2.isSet

/-- Every working slot of a range is empty. -/
def slotsEmpty (s : State) (base count : Nat) : Bool :=
  s.keys.slots.all fun x => !(decide (base ≤ x.1) && decide (x.1 < base + count)) || decide (x.2.state = .empty)

/-- The record's counts, share and rights are in range, and no range from the bases given passes the grade's total. -/
def instFieldsFit (s : State) (qpBase slotBase : Nat) : Bool :=
  let r := s.tenants.record
  decide (1 ≤ r.qpCount) && decide (r.qpCount ≤ 4096) && decide (qpBase + r.qpCount ≤ qpCount s) &&
    decide (slotBase + r.slotCount ≤ slotCount s) && decide (r.share ≤ 4096) && decide (r.rights < 4096)

/-- Quota and share fit what PF0 has free, those that instance `n` holds given back. -/
def fitsFree (s : State) (n : Nat) : Bool :=
  let r := s.tenants.record
  let i := getInst s n
  decide (instSum s (·.quota) - i.quota + r.quota + buffersCounted s 0 ≤ poolTotal s) &&
    decide (instSum s (·.share) - i.share + r.share ≤ 4096)

/-- Result of a create action: the first condition that fails (R265). -/
def createResult (s : State) : Nat :=
  let r := s.tenants.record
  if instMode s true then 6
  else if !s.host.vfEnable || decide (r.number > s.host.numVfs) || decide ((getInst s r.number).state ≠ .free) then 4
  else if !instFieldsFit s r.qpBase r.slotBase then 1
  else if !qpRangeFree s r.number r.qpBase r.qpCount || !slotRangeFree s r.number r.slotBase r.slotCount then 2
  else if !qpsDisabled s r.qpBase r.qpCount then 5
  else if !fitsFree s r.number then 3 else 0

/-- An instance action that has been done: its event (R264, R483). -/
def logInst (p : Path) (n action : Nat) (s : State) : State :=
  logEvent 0x0105 (pathSource s p) (natLE 2 n ++ [byte action, 0]) s

/-- An instance action: its result alone, or its effect, event and record. -/
def instAction (p : Path) (action result : Nat) (f : State → State) (s : State) : Answer :=
  if result ≠ 0 then Answer.now 0 (instResult result s)
  else
    let n := s.tenants.record.number
    let (rs, s) := replicateInst n (logInst p n action (f (instResult 0 s)))
    { Answer.now 0 (instAwait rs s) with records := rs }

/-- The instance becomes ACTIVE with its pools; its rights stand in both configurations, its mailbox is new. -/
def createInst (s : State) : State :=
  let r := s.tenants.record
  let i : Inst := { Inst.empty with
    state := .active, qpBase := r.qpBase, qpCount := r.qpCount, slotBase := r.slotBase, slotCount := r.slotCount,
    quota := r.quota, share := r.share, rights := r.rights, oldRights := r.rights, stagedRights := r.rights }
  { s with tenants := { s.tenants with insts := SMap.put s.tenants.insts r.number i
                                       mailboxes := SMap.erase s.tenants.mailboxes r.number } }

/-- INSTANCE_CREATE (R264, R265). -/
def execInstanceCreate (src : Src) (s : State) : Host.Outcome State Fault Refusal :=
  complete (runAction src 0x4100 0x09 1 (fun p s => instAction p 1 (createResult s) createInst s) s)

/-- Result of a resize action (R266). -/
def resizeResult (s : State) : Nat :=
  let r := s.tenants.record
  let i := getInst s r.number
  let gained := fun (old new : Nat) => new - old
  if instMode s true then 6
  else if i.state ≠ .active then 4
  else if !instFieldsFit s i.qpBase i.slotBase then 1
  else if !qpRangeFree s r.number (i.qpBase + i.qpCount) (gained i.qpCount r.qpCount) ||
      !slotRangeFree s r.number (i.slotBase + i.slotCount) (gained i.slotCount r.slotCount) then 2
  else if !qpsDisabled s (i.qpBase + i.qpCount) (gained i.qpCount r.qpCount) ||
      !qpsReleased s (i.qpBase + r.qpCount) (i.qpCount - r.qpCount) ||
      !slotsEmpty s (i.slotBase + r.slotCount) (i.slotCount - r.slotCount) ||
      decide (r.quota < buffersCounted s r.number) then 5
  else if !fitsFree s r.number then 3 else 0

/-- Counts, quota and share change; the rights are staged. -/
def resizeInst (s : State) : State :=
  let r := s.tenants.record
  let s := modifyInst r.number (fun i =>
    { i with qpCount := r.qpCount, slotCount := r.slotCount, quota := r.quota, share := r.share, stagedRights := r.rights }) s
  tenantNotify r.number 3 s

/-- INSTANCE_RESIZE (R266). -/
def execInstanceResize (src : Src) (s : State) : Host.Outcome State Fault Refusal :=
  complete (runAction src 0x4100 0x09 2 (fun p s => instAction p 2 (resizeResult s) resizeInst s) s)

/-- Working slots that a function owns, or that lie in its range. -/
def ownedSlots (s : State) (n : Nat) : List Nat :=
  let i := getInst s n
  let mine := fun (x : Nat × Slot) => (decide (x.2.state ≠ .empty) && decide (slotOwner x.2 = n)) ||
    (decide (i.state ≠ .free) && decide (i.slotBase ≤ x.1) && decide (x.1 < i.slotBase + i.slotCount))
  (s.keys.slots.filter mine).map (·.1)

/-- Persistent entries that a function owns, whatever their slots hold. -/
def ownedEntries (s : State) (n : Nat) : List Nat :=
  (s.keys.entries.filter fun e => decide (ownerOf (entryAttr s e.1) = n)).map (·.1)

/-- These slots are zeroised, and the function's persistent entries deleted; answers the pages to wait for. -/
def zeroiseOwned (n : Nat) (s : State) : List (Store × Nat) × State :=
  let (ps, s) := (ownedSlots s n).foldl (fun acc k =>
    let (ps, s) := zeroiseSlot k acc.2
    (acc.1 ++ ps.map fun q => (Store.keys, q), s)) ([], s)
  let es := ownedEntries s n
  (ps ++ es.map fun e => (Store.keys, e / 4), es.foldl (fun s e => deleteEntry 3 e s) s)

/-- Result of a destroy or purge action: the mode, and the state it needs. -/
def removeResult (s : State) (needs : InstState) : Nat :=
  if instMode s false then 6 else if (getInst s s.tenants.record.number).state ≠ needs then 4 else 0

/-- A destroy begins: steps 1 to 4 of R268. -/
def beginDestroy (n : Nat) (s : State) : State :=
  let mine := fun (fn : Nat) => decide (fn = n)
  let s := modifyInst n (fun i => { i with state := .destroying }) s
  let s := clearTemplates mine (emptyMailboxes mine (stopFunctions mine s))
  { s with host := { s.host with qps := SMap.keep s.host.qps fun _ q => decide (q.fn ≠ n) } }

/-- INSTANCE_DESTROY (R268): in progress until every step is complete. -/
def execInstanceDestroy (src : Src) (s : State) : Host.Outcome State Fault Refusal :=
  let act := fun (_ : Path) (s : State) =>
    let r := removeResult s .active
    if r ≠ 0 then Answer.now 0 (instResult r s)
    else
      let n := s.tenants.record.number
      let (rs, s) := replicateInst n (beginDestroy n (instResult 0xFF s))
      { Answer.now 0 s with records := rs }
  complete (runAction src 0x4100 0x09 3 act s)

/-- The standby is told, once, that the instance is FREE (R267). -/
def tellDestroyed (n : Nat) (s : State) : List Nat × State :=
  match (getInst s n).told with
  | some rs => (rs, s)
  | none =>
    let (rs, s) := replicate 0x10 (instanceContent n Inst.empty) s
    (rs, modifyInst n (fun i => { i with told := some rs }) s)

/-- The destroyed instance is FREE and its pools return (R264). -/
def freeInst (n : Nat) (s : State) : State :=
  let s := { s with tenants := { s.tenants with insts := SMap.erase s.tenants.insts n
                                                mailboxes := SMap.erase s.tenants.mailboxes n } }
  instResult 0 (logInst (.mailbox 0) n 3 (logEvent 0x0404 0 ([3] ++ natLE 2 n) s))

/-- Steps 5 and 6 of R268, and the end of the destroy once the persistent entries are durably deleted and the standby has acknowledged
(R267). -/
def finishDestroy (n : Nat) (s : State) : State :=
  let (_, s) := zeroiseOwned n s
  let waits := (s.mram.queue.any fun w => decide (w.store = .keys)) ||
    match s.mram.current with
    | some w => decide (w.store = .keys)
    | none => false
  if waits then s
  else
    let (rs, s) := tellDestroyed n s
    if recordsDone s rs then freeInst n s else s

/-- INSTANCE_DESTROY_COMPLETE (R268): no Chain of the instance remains. -/
def execInstanceDestroyComplete (vf : Nat) (s : State) : Host.Outcome State Fault Refusal :=
  if (getInst s vf).state = .destroying ∧ (chainsWhere s fun ch => decide (ch.fn = vf)).isEmpty then
    complete (finishDestroy vf s)
  else complete s

/-- INSTANCE_PURGE (R270). -/
def execInstancePurge (src : Src) (s : State) : Host.Outcome State Fault Refusal :=
  let act := fun (p : Path) (s : State) =>
    let r := removeResult s .free
    if r ≠ 0 then Answer.now 0 (instResult r s)
    else
      let n := s.tenants.record.number
      let (ps, s) := zeroiseOwned n (instResult 0 s)
      let (rs, s) := replicateInst n (logInst p n 4 (logEvent 0x0404 (pathSource s p) ([3] ++ natLE 2 n) s))
      { Answer.now 0 (instAwait rs s) with pages := ps, records := rs }
  complete (runAction src 0x4100 0x09 4 act s)

end Sys2Proof.Machine
end

