-- ==== Sys2Proof/Machine/ClaspOps.lean ====
section
/-!
DEFINITION. The Clasp session: frames as they arrive, HELLO and its keys, the opening of a session, and the taking of the Signet
(R533 to R538, R549, R553, R555).
-/
namespace Sys2Proof.Machine

/-! ### Frames (R535) -/

/-- The controller is withdrawn. -/
def claspOut (s : State) : Bool := isWithdrawn 0x0B 0 s

/-- LENGTH, FSEQ and RSEQ of a frame, its body as it travels and its TAG. -/
def claspLen (f : Bytes) : Nat := leNat (slice 2 2 f)
def claspFseq (f : Bytes) : Nat := leNat (slice 4 8 f)
def claspRseq (f : Bytes) : Nat := leNat (slice 12 8 f)
def claspBody (f : Bytes) : Bytes := slice 20 (claspLen f) f
def claspTag (f : Bytes) : Bytes := slice (20 + claspLen f) 16 f

/-- A frame of a type, whole. -/
def claspForm (type : Nat) (f : Bytes) : Bool :=
  decide ((f.getD 0 0).toNat = type) && decide (claspLen f ≤ 4096) && decide (f.length = 36 + claspLen f)

/-- The body of a frame whose tag verifies under the keys of a bound (4) or unbound (3) session. -/
def claspOpen (s : State) (kind : Nat) (f : Bytes) : Option Bytes :=
  if kind = 4 then
    gcmOpen s.clasp.rxKey (natBE 4 (1 - sessionSide s) ++ natBE 8 (claspFseq f)) (f.take 20) (claspBody f) (claspTag f)
  else if cmac .aes s.clasp.bindKey (f.take (20 + claspLen f)) = claspTag f then some (claspBody f) else none

/-- The records up to `n` are acknowledged: their waits end, and the longest round trip is kept in ns. -/
def ackRecords (n : Nat) (s : State) : State :=
  let done := s.twin.unacked.filter fun r => decide (r.number ≤ n)
  let left := s.twin.unacked.filter fun r => decide (r.number > n)
  let longest := done.foldl (fun m r => max m ((s.disp.tick - r.queuedAt) * 1000)) s.twin.longest
  { s with twin := { s.twin with unacked := left, ackedTo := max s.twin.ackedTo (min n (s.twin.nextRecord - 1)), longest := longest } }

/-- Control frames that a frame of this FSEQ acknowledges are repeated no longer (R537); RELEASE waits for RELEASE_ACK. -/
def ackControls (fseq : Nat) (s : State) : State :=
  let keep := fun (r : Repeated) => decide (r.kind = 0x12) || decide (fseq ≤ r.seen)
  { s with clasp := { s.clasp with repeated := s.clasp.repeated.filter keep } }

/-- A resynchronising peer that has acknowledged the whole copy is in sync: renewals begin, and the lease already runs from the
send of RESYNC_END (R551, R562). -/
def peerCaughtUp (s : State) : State :=
  if s.twin.peerSync = 2 ∧ s.twin.resyncItems ≠ 0 ∧ s.twin.ackedTo ≥ s.twin.resyncItems then
    let s := { s with twin := { s.twin with peerSync := 3, inSyncAt := s.disp.tick, renewSeen := false, renewDue := s.disp.tick } }
    logEvent 0x0909 0xFFFF (natLE 4 s.twin.resyncItems ++ natLE 4 (s.disp.tick - s.twin.resyncStart)) s
  else s

/-- A frame is accepted. -/
def acceptClasp (f : Bytes) (s : State) : State :=
  let s := { s with clasp := { s.clasp with rxSeq := claspFseq f, fails := 0 } }
  let s := ackControls (claspFseq f) s
  if activeNow s then peerCaughtUp (ackRecords (claspRseq f) s) else s

/-- A handshake under way ends with a result (R545, R546). -/
def endBinding (result : Nat) (s : State) : State :=
  if s.twin.binding.isSome then { s with twin := { s.twin with binding := none, actionResult := result } } else s

/-- A frame is discarded and counted; the eighth failure in a row ends the session, and the link retrains (R535, R565). -/
def rejectClasp (type : Nat) (s : State) : State :=
  let s := { s with clasp := { s.clasp with rejected := s.clasp.rejected + 1, fails := s.clasp.fails + 1 } }
  let s := if 0x40 ≤ type ∧ type ≤ 0x42 then endBinding 7 s else s
  if s.clasp.fails < 8 then s
  else
    let retrain := fun (s : State) =>
      let s := claspDown 3 s
      { s with clasp := { s.clasp with link := 1, fails := 0 } }
    containFault 0x0B 3 0 [] [] retrain s

/-! ### HELLO (R534) -/

/-- Grade as OD 0x1000:03 shows it. -/
def gradeCode (s : State) : Nat := byGrade s 0 1 2

/-- The part is bound. -/
def bound (s : State) : Bool := s.sec.pair.isSome && (vaultSlot s 2).isSome

/-- The domain identifier, 0 in no domain (R539). -/
def domainOf (s : State) : Nat := if (vaultSlot s 1).isSome then s.sec.domainId else 0

/-- The member number, 0 in no domain. -/
def memberOf (s : State) : Nat := if (vaultSlot s 1).isSome then s.sec.member else 0

/-- The body of this part's HELLO. -/
def helloBody (nonce : Bytes) (s : State) : Bytes :=
  let flags := bit (bound s) + bit (activeNow s) * 2 + bit (decide (s.twin.sync ≥ 3)) * 4 + bit (decide (s.twin.sync = 4)) * 8 +
    bit (lockedNow s) * 16
  let peer := match s.sec.pair with
    | some p => if bound s then p.peer else 0
    | none => 0
  natLE 8 s.fuses.serial.toNat ++ [byte (gradeCode s), byte s.twin.side, byte s.life.state.code, byte flags] ++ natLE 8 peer ++
    natLE 8 (domainOf s) ++ natLE 2 (memberOf s) ++ [0, 0] ++ padTo 16 nonce ++ natLE 8 s.sec.generation.toNat ++
    [byte s.sec.genSide] ++ zeros 7

/-- The part's HELLO as last sent and the peer's as last received. -/
def helloSerial (h : Bytes) : Nat := leNat (slice 0 8 h)
def helloGrade (h : Bytes) : Nat := (h.getD 8 0).toNat
def helloSide (h : Bytes) : Nat := (h.getD 9 0).toNat
def helloFlag (h : Bytes) (i : Nat) : Bool := bitOf (h.getD 11 0).toNat i
def helloPeer (h : Bytes) : Nat := leNat (slice 12 8 h)
def helloDomain (h : Bytes) : Nat := leNat (slice 20 8 h)
def helloMember (h : Bytes) : Nat := leNat (slice 28 2 h)
def helloNonce (h : Bytes) : Bytes := slice 32 16 h
def helloGeneration (h : Bytes) : Nat := leNat (slice 48 8 h)
def helloHolder (h : Bytes) : Nat := (h.getD 56 0).toNat

/-- This part's pair record names the sender of a HELLO. -/
def namesPeer (s : State) (h : Bytes) : Bool :=
  bound s && decide (s.sec.pair.map (·.peer) = some (helloSerial h))

/-- The sender of a HELLO is bound to this part. -/
def namedByPeer (s : State) (h : Bytes) : Bool := helloFlag h 0 && decide (helloPeer h = s.fuses.serial.toNat)

/-- The session that two HELLOs lead to: bound (4), unbound (3) or none (0). One end that still names the other does not keep
an unbound session from opening, since R548 rests on it (assumption 30). -/
def sessionKind (s : State) (h : Bytes) : Nat :=
  if namesPeer s h && namedByPeer s h then 4
  else if domainOf s ≠ 0 ∧ domainOf s = helloDomain h then 3 else 0

/-- The two bodies or nonces in the order of the sides. -/
def bySide (s : State) (mine theirs : Bytes) : Bytes := if sessionSide s = 0 then mine ++ theirs else theirs ++ mine

/-- The first 32 B of HMAC-SHA-384 over a label with its suffix, a zero byte, N0 and N1. -/
def linkKey (key label nonces : Bytes) : Bytes := (hmac .sha384 key (label ++ [0] ++ nonces)).take 32

/-- The keys of a session with the sender of a HELLO stand, and numbering begins again. -/
def takeLinkKeys (s : State) (h : Bytes) : State :=
  let nonces := bySide s (helloNonce s.clasp.myHello) (helloNonce h)
  let ks := fun (side : Nat) => linkKey (vaultKey s 2) (ascii "CLASP LINK" ++ [byte side]) nonces
  let kb := linkKey (vaultKey s 1) (ascii "CLASP BIND") nonces
  { s with clasp := { s.clasp with txKey := ks (sessionSide s), rxKey := ks (1 - sessionSide s), bindKey := kb, txSeq := 0,
                                   rxSeq := 0, fails := 0 } }

/-- The body of HELLO_CONF. -/
def confBody (s : State) (h : Bytes) : Bytes := (sha384 (bySide s s.clasp.myHello h)).take 32

/-- Sends a frame under the keys of a session of a kind, whatever the link state. -/
def sendAs (kind type : Nat) (body : Bytes) (s : State) : State :=
  let t := claspSend type body { s with clasp := { s.clasp with link := kind } }
  { t with clasp := { t.clasp with link := s.clasp.link } }

/-- Both HELLOs have been exchanged: keys are formed and HELLO_CONF is sent, when they lead to a session. -/
def confirmHello (s : State) : State :=
  match s.clasp.peerHello with
  | none => s
  | some h =>
    let kind := sessionKind s h
    if s.clasp.myHello.isEmpty || decide (kind = 0) then s
    else
      let t := takeLinkKeys s h
      let t := sendAs kind 0x02 (confBody t h) t
      { t with clasp := { t.clasp with confSent := true } }

/-- Sends HELLO with a nonce of its own, once it can be drawn (R331). -/
def sendHello (s : State) : State :=
  if s.clasp.link ≠ 2 ∨ reserveCovers s 16 = false then s
  else
    let (nonce, s) := drawSystem 16 s
    let body := helloBody nonce s
    let s := { s with clasp := { s.clasp with myHello := body, confSent := false, txSeq := 0 } }
    confirmHello (claspSend 0x01 body s)

/-- The session ends and HELLO is exchanged again. -/
def restartSession (s : State) : State := sendHello (endSession s)

/-! ### The Signet (R549, R553, R555) -/

/-- What the peer last showed of itself: `i` numbers a flag of byte 11 of HELLO. -/
def peerShows (s : State) (i : Nat) : Bool :=
  match s.clasp.peerHello with
  | some h => helloFlag h i
  | none => false

/-- The peer has taken or given up the Signet since its HELLO. -/
def peerHolds (holds : Bool) (s : State) : State :=
  let f := fun (h : Bytes) =>
    let flags := (h.getD 11 0).toNat
    setAt h 11 (byte (flags - bit (bitOf flags 1) * 2 + bit holds * 2))
  { s with clasp := { s.clasp with peerHello := s.clasp.peerHello.map f } }

/-- The part is eligible (R549). -/
def eligibleNow (s : State) : Bool :=
  decide (s.twin.sync = 4) ||
    (decide (s.twin.sync = 3) && s.twin.renewSeen && decide (s.disp.tick ≥ s.twin.inSyncAt + 10000))

/-- AUDIT-HOLD does not refuse entry into SERVICE. -/
def auditClear (s : State) : Bool := !evlogFull s && !locketFull s

/-- What R553 asks of a part apart from eligibility and AUDIT-HOLD. -/
def fitToServe (s : State) : Bool := !lockedNow s && !fatalOpen s && decide (s.rng.state = 1) && !claspOut s

/-- A queue pair replicated as ACTIVE comes up DISABLED (R556). -/
def comeUp (q : QueuePair) : QueuePair := if q.state = .active then disabledKept q else q

/-- The part takes the Signet: the record is written first, then the part is active, its queue pairs and tenants are told, and
TAKE is sent in a bound session. No Chain of an older epoch stands on it, so that slots staged for a commit are settled (R300). -/
def takeSignet (how source : Nat) (s : State) : State :=
  let s := { s with sec := { s.sec with generation := s.sec.generation + 1, genSide := s.twin.side, takings := s.sec.takings + 1,
                                        lastTaking := s.sec.deviceTime }
                    twin := { s.twin with holder := true, sync := 1, peerSync := 1, unacked := [], nextRecord := 1, ackedTo := 0,
                                          renewSent := [], renewSeen := false, holdStopped := false, ackWaits := [] }
                    host := { s.host with qps := SMap.mapValues s.host.qps fun _ q => comeUp q } }
  let body := natLE 8 s.sec.generation.toNat ++ [byte how]
  let s := if s.keys.staging.isEmpty then s else drainEpoch s
  let s := peerHolds false (notifyTenants 0 (logEvent 0x0905 source body s))
  if s.clasp.link = 4 then claspSend 0x14 body s else s

/-- The takeover time has come, or the holder has released: an eligible part that R553 lets serve takes the Signet. -/
def tryTake (how : Nat) (s : State) : State :=
  if eligibleNow s && fitToServe s && auditClear s then takeSignet how 0xFFFF s else s

/-- The part asks the holder for a copy: what R547 lists is zeroised, and record numbers restart (R562). -/
def requestResync (s : State) : State :=
  if !standbyNow s || decide (s.twin.sync ≥ 2) || decide (s.clasp.link ≠ 4) || lockedNow s || fatalOpen s || !peerShows s 1 then s
  else
    let s := zeroiseCopy s
    let s := { s with twin := { s.twin with sync := 2, resyncItems := 0, applied := 0, processed := 0, ackWaits := [],
                                            vaultHalf := none, resyncStart := s.disp.tick } }
    claspSend 0x30 [] (logEvent 0x0908 0xFFFF [2] s)

/-- A bound session without a holder is settled (R555). -/
def settleHolder (s : State) : State :=
  let mine := decide (s.twin.sync ≥ 3)
  let theirs := peerShows s 2
  if mine && !theirs then tryTake 4 s
  else if !mine && !theirs && decide (s.sec.genSide = s.twin.side) && fitToServe s && auditClear s then takeSignet 4 0xFFFF s
  else s

/-- The holder sends again what the peer has not acknowledged, and ends a resynchronisation that the last session cut short. -/
def resendRecords (s : State) : State :=
  let s := s.twin.unacked.foldl (fun s r => claspSend 0x20 (replRecord r.number r.kind r.content) s) s
  if s.twin.peerSync = 2 then claspSend 0x32 (natLE 4 s.twin.resyncItems) s else s

/-- A bound session has opened. -/
def openedBound (h : Bytes) (s : State) : State :=
  let newer := decide (helloGeneration h > s.sec.generation.toNat)
  let s := if newer then
      { s with sec := { s.sec with generation := BitVec.ofNat 64 (helloGeneration h), genSide := helloHolder h }
               twin := { s.twin with holder := s.twin.holder && !helloFlag h 1 } }
    else s
  if activeNow s then resendRecords s
  else if helloFlag h 1 then requestResync s
  else settleHolder s

/-- A part that does not hold the Signet leaves its binding (R548). -/
def leaveBinding (reason source : Nat) (s : State) : State := clearPairing reason source (zeroiseCopy s)

/-- A session opens. -/
def openClasp (kind : Nat) (h : Bytes) (s : State) : State :=
  let s := { s with clasp := { s.clasp with link := kind } }
  let s := logEvent 0x0901 0xFFFF [byte s.clasp.lanes, byte (kind - 2)] s
  if kind = 4 then openedBound h s
  else if namesPeer s h && !activeNow s then leaveBinding 3 0xFFFF s else s

end Sys2Proof.Machine
end

