-- ==== Sys2Proof/Machine/ClaspRows.lean ====
section
/-!
DEFINITION. The Clasp link, its sessions, the lease and the Signet (R533 to R538, R548 to R556, R560).
-/
namespace Sys2Proof.Machine

/-! ### The link (R533, R534) -/

/-- Some lanes failed: a Contained record that names one of them, which no word of the spec says further (assumption 23). -/
def laneFault (lanes : Nat) (s : State) : State :=
  if lanes = 4 then s
  else
    let (n, s) := takeFree s
    containFault 0x0B 2 ((Config.freeBits n).toNat % 4) [] [] id s

/-- CLASP_LINK_UP: training has ended at a width. -/
def execClaspLinkUp (lanes : Nat) (s : State) : Host.Outcome State Fault Refusal :=
  if !decoded s || claspOut s || decide (s.clasp.link ≥ 2) || !(List.contains [1, 2, 4] lanes) then complete s
  else
    let s := wake s
    let s := laneFault lanes { s with clasp := { s.clasp with link := 2, lanes := lanes } }
    complete (sendHello (logEvent 0x0901 0xFFFF [byte lanes, 0] s))

/-- CLASP_LINK_DOWN: 1 lock lost, 2 silent for 50 µs; training that has not succeeded just stops. -/
def execClaspLinkDown (reason : Nat) (s : State) : Host.Outcome State Fault Refusal :=
  if s.clasp.link = 0 ∨ (reason ≠ 1 ∧ reason ≠ 2) then complete s else complete (claspDown reason s)

/-- LINK_TRAINING_RETRY. -/
def execLinkTrainingRetry (s : State) : Host.Outcome State Fault Refusal :=
  if !decoded s || claspOut s || decide (s.clasp.link ≠ 0) then complete s
  else complete { s with clasp := { s.clasp with link := 1 } }

/-- CLASP_IDLE_ACK: a Detached part that can ask for a copy does so; any other sends ACK. -/
def execClaspIdleAck (s : State) : Host.Outcome State Fault Refusal :=
  if s.clasp.link < 2 ∨ (s.clasp.link = 2 ∧ s.clasp.confSent = true) then complete s
  else
    let t := requestResync s
    complete (if t.clasp.txSeq = s.clasp.txSeq then claspSend 0x03 [] s else t)

/-- HELLO_RETRY. -/
def execHelloRetry (s : State) : Host.Outcome State Fault Refusal := complete (sendHello s)

/-! ### HELLO and HELLO_CONF (R534) -/

/-- HELLO: permitted only while no session is open; its tag is zero. -/
def execHello (frame : Bytes) (s : State) : Host.Outcome State Fault Refusal :=
  if s.clasp.link ≠ 2 ∨ claspForm 0x01 frame = false then complete s
  else
    let s := wake s
    if claspLen frame ≠ 64 ∨ claspTag frame ≠ zeros 16 then complete (rejectClasp 0x01 s)
    else
      let s := { s with clasp := { s.clasp with peerHello := some (claspBody frame) } }
      complete (if s.clasp.myHello.isEmpty then sendHello s else confirmHello s)

/-- A HELLO_CONF that arrives before a session: it opens the session when its tag, its number and its value verify. -/
def takeConf (h frame : Bytes) (s : State) : State :=
  let kind := sessionKind s h
  match claspOpen s kind frame with
  | some body =>
    if claspFseq frame = 1 ∧ body = confBody s h then openClasp kind h (acceptClasp frame s) else rejectClasp 0x02 s
  | none => rejectClasp 0x02 s

/-- An unbound part ends the bound session once its UNBIND is repeated no longer (R546, R548). -/
def endUnbound (s : State) : State :=
  if s.clasp.link = 4 ∧ bound s = false ∧ s.clasp.repeated.all (fun r => decide (r.kind ≠ 0x43)) = true then restartSession s else s

/-- A frame of a session: its tag and number are checked, then the records it acknowledges are taken, then it is acted on in the
sessions that permit its type. -/
def takeFrame (type : Nat) (kinds : List Nat) (frame : Bytes) (act : Bytes → State → State) (s : State) : State :=
  if s.clasp.link < 3 ∨ claspForm type frame = false then s
  else
    let s := wake s
    match claspOpen s s.clasp.link frame with
    | none => rejectClasp type s
    | some body =>
      if claspFseq frame ≠ s.clasp.rxSeq + 1 then rejectClasp type s
      else
        let t := acceptClasp frame s
        endUnbound (if kinds.contains s.clasp.link then act body t else t)

/-- HELLO_CONF. -/
def execHelloConf (frame : Bytes) (s : State) : Host.Outcome State Fault Refusal :=
  if s.clasp.link ≠ 2 then complete (takeFrame 0x02 [] frame (fun _ s => s) s)
  else
    match s.clasp.peerHello with
    | none => complete s
    | some h =>
      if claspForm 0x02 frame && s.clasp.confSent then complete (takeConf h frame (wake s)) else complete s

/-- ACK. -/
def execAck (frame : Bytes) (s : State) : Host.Outcome State Fault Refusal :=
  complete (takeFrame 0x03 [4] frame (fun _ s => s) s)

/-! ### The lease (R551 to R553, R556) -/

/-- RENEW: the takeover time is put off, and the renewal is acknowledged. -/
def takeRenew (body : Bytes) (s : State) : State :=
  if !standbyNow s then s
  else
    let s := if s.twin.sync ≥ 3 then
        { s with twin := { s.twin with takeoverAt := s.disp.tick + 10000, renewSeen := true, holdStopped := false } }
      else s
    claspSend 0x11 (body.take 8) s

/-- RENEW. -/
def execRenew (frame : Bytes) (s : State) : Host.Outcome State Fault Refusal :=
  complete (takeFrame 0x10 [4] frame takeRenew s)

/-- RENEW_ACK: the lease ends 8 ms after the send of the newest renewal acknowledged. -/
def takeRenewAck (body : Bytes) (s : State) : State :=
  let n := leNat (body.take 8)
  match s.twin.renewSent.find? fun r => decide (r.1 = n) with
  | none => s
  | some r =>
    let left := s.twin.renewSent.filter fun x => decide (x.1 > n)
    { s with twin := { s.twin with renewSent := left, leaseEnd := max s.twin.leaseEnd (r.2 + 8000), renewSeen := true } }

/-- RENEW_ACK. -/
def execRenewAck (frame : Bytes) (s : State) : Host.Outcome State Fault Refusal :=
  complete (takeFrame 0x11 [4] frame takeRenewAck s)

/-- RENEW_TIMER: while the peer is in sync, a renewal every 2 ms, into a dead link too. -/
def execRenewTimer (s : State) : Host.Outcome State Fault Refusal :=
  if !replicating s || decide (s.disp.tick < s.twin.renewDue) then complete s
  else
    let n := s.twin.renewal + 1
    let s := { s with twin := { s.twin with renewal := n, renewSent := s.twin.renewSent ++ [(n, s.disp.tick)],
                                            renewDue := s.disp.tick + 2000 } }
    let body := natLE 8 n ++ natLE 8 s.sec.generation.toNat
    complete (if s.clasp.link = 4 then claspSend 0x10 body s else s)

/-- Every Chain in flight is revoked, and the count is kept (R552, R554). -/
def revokeAll (s : State) : State :=
  let n := (revokedCounts s fun _ => true).1
  let s := (chainsWhere s fun ch => !ch.revoked).foldl (fun s c => revokeChain c s) s
  { s with twin := { s.twin with revoked := s.twin.revoked + BitVec.ofNat 64 n } }

/-- LEASE_END: the Signet is lost. -/
def execLeaseEnd (s : State) : Host.Outcome State Fault Refusal :=
  if !replicating s || decide (s.disp.tick < s.twin.leaseEnd) then complete s
  else
    let n := (revokedCounts s fun _ => true).1
    complete (dropSignet 5 0xFFFF n (revokeAll s))

/-- TAKEOVER_BY_EXPIRY: the part takes the Signet, waits for AUDIT-HOLD to let it serve, or becomes Detached. -/
def execTakeoverByExpiry (s : State) : Host.Outcome State Fault Refusal :=
  if !standbyNow s || decide (s.twin.sync < 3) || !s.twin.renewSeen || decide (s.disp.tick < s.twin.takeoverAt) then complete s
  else if !eligibleNow s || !fitToServe s then complete (detachSelf s)
  else if auditClear s then complete (takeSignet 3 0xFFFF s)
  else complete { s with twin := { s.twin with holdStopped := true } }

/-- ELIGIBLE: 10 ms in sync with a RENEW received; a session without a holder is settled then. -/
def execEligible (s : State) : Host.Outcome State Fault Refusal :=
  if !standbyNow s || decide (s.twin.sync ≠ 3) || !eligibleNow s then complete s
  else
    let s := { s with twin := { s.twin with sync := 4 } }
    complete (if s.clasp.link = 4 ∧ peerShows s 1 = false ∧ peerShows s 2 = false then tryTake 4 s else s)

/-! ### Giving up and taking the Signet (R549, R550, R554, R560) -/

/-- RELEASE: answered, and an eligible peer takes the Signet at once, unless AUDIT-HOLD or LOCKED keeps it from serving (rules 19 and
22 of R43; R550). -/
def takeRelease (body : Bytes) (s : State) : State :=
  let s := claspSend 0x13 (body.take 8) s
  if !standbyNow s then s
  else
    let s := peerHolds false s
    if eligibleNow s && auditClear s && !lockedNow s && !fatalOpen s then takeSignet 2 0xFFFF s else s

/-- RELEASE. -/
def execRelease (frame : Bytes) (s : State) : Host.Outcome State Fault Refusal :=
  complete (takeFrame 0x12 [4] frame takeRelease s)

/-- RELEASE_ACK: RELEASE is repeated no longer. -/
def execReleaseAck (frame : Bytes) (s : State) : Host.Outcome State Fault Refusal :=
  let act := fun (_ : Bytes) (s : State) =>
    { s with clasp := { s.clasp with repeated := s.clasp.repeated.filter fun r => decide (r.kind ≠ 0x12) } }
  complete (takeFrame 0x13 [4] frame act s)

/-- TAKE: the peer's generation and side are copied; the part is Detached from the new holder until it has a copy. -/
def takeTake (body : Bytes) (s : State) : State :=
  let g := leNat (body.take 8)
  if g ≤ s.sec.generation.toNat then s
  else
    let side := match s.clasp.peerHello with
      | some h => helloSide h
      | none => 1 - s.twin.side
    let s := { s with sec := { s.sec with generation := BitVec.ofNat 64 g, genSide := side }
                      twin := { s.twin with holder := false, sync := 1, ackWaits := [], vaultHalf := none } }
    requestResync (peerHolds true s)

/-- TAKE. -/
def execTake (frame : Bytes) (s : State) : Host.Outcome State Fault Refusal :=
  complete (takeFrame 0x14 [4] frame takeTake s)

/-- DETACH: the holder's waits end (R560). -/
def execDetach (frame : Bytes) (s : State) : Host.Outcome State Fault Refusal :=
  complete (takeFrame 0x15 [4] frame (fun _ s => if activeNow s then endWaits 1 s else s) s)

/-- PLANNED_RELEASE: SERVICE clears, and Chains in flight have the drain time to end. -/
def execPlannedRelease (src : Src) (s : State) : Host.Outcome State Fault Refusal :=
  let act := fun (_ : Path) (s : State) =>
    let show_ := fun (r : Nat) => { s with twin := { s.twin with actionResult := r } }
    let peerEligible := decide (s.twin.peerSync = 3) && s.twin.renewSeen && decide (s.disp.tick ≥ s.twin.inSyncAt + 10000)
    if !activeNow s then Answer.now 0 (show_ 1)
    else if !peerEligible then Answer.now 0 (show_ 6)
    else
      Answer.now 0 { s with twin := { s.twin with actionResult := 0xFF, drainDue := some (s.disp.tick + s.twin.drain) } }
  complete (runAction src 0x7000 0x09 4 act s)

/-- RELEASE_DRAIN_END: no Chain is left, or the drain time has run out and the rest are revoked. -/
def execReleaseDrainEnd (s : State) : Host.Outcome State Fault Refusal :=
  match s.twin.drainDue with
  | none => complete s
  | some due =>
    if s.disp.tick < due ∧ s.disp.chains.isEmpty = false then complete s
    else
      let n := (revokedCounts s fun _ => true).1
      let s := releaseSignet 4 0 n (revokeAll s)
      complete { s with twin := { s.twin with actionResult := 0, drainDue := none } }

/-! ### Repeated control frames (R537) -/

/-- One repeated frame at this tick: sent again, left, or dropped after 8 µs. -/
def repeatOne (s : State) (r : Repeated) : State :=
  if s.disp.tick ≥ r.firstAt + 8 then s
  else
    let s' := if s.disp.tick > r.lastAt then claspSend r.kind r.body s else s
    let kept := { r with lastAt := if s.disp.tick > r.lastAt then s.disp.tick else r.lastAt }
    { s' with clasp := { s'.clasp with repeated := s'.clasp.repeated ++ [kept] } }

/-- CONTROL_FRAME_REPEAT. -/
def execControlFrameRepeat (s : State) : Host.Outcome State Fault Refusal :=
  if s.clasp.repeated.isEmpty || decide (s.clasp.link < 3) then complete s
  else
    let rs := s.clasp.repeated
    complete (endUnbound (rs.foldl repeatOne { s with clasp := { s.clasp with repeated := [] } }))

/-! ### Unbinding (R548) -/

/-- PAIR_UNBIND: on the holder, which keeps serving. -/
def execPairUnbind (src : Src) (s : State) : Host.Outcome State Fault Refusal :=
  let act := fun (_ : Path) (s : State) =>
    let show_ := fun (r : Nat) (s : State) => { s with twin := { s.twin with actionResult := r } }
    if !activeNow s then Answer.now 0 (show_ 1 s)
    else
      let s := if s.clasp.link = 4 then sendControl 0x43 [1] s else s
      Answer.now 0 (show_ 0 (clearPairing 1 0 (dropWaits s)))
  complete (runAction src 0x7000 0x09 3 act s)

/-- UNBIND from the peer this part is bound to: acknowledged, and the binding is left; the holder keeps what it serves with. -/
def takeUnbind (s : State) : State :=
  let names := match s.clasp.peerHello with
    | some h => namesPeer s h
    | none => false
  if !names then s
  else
    let s := claspSend 0x03 [] s
    restartSession (if activeNow s then clearPairing 2 0xFFFF (dropWaits s) else leaveBinding 2 0xFFFF s)

/-- UNBIND. -/
def execUnbind (frame : Bytes) (s : State) : Host.Outcome State Fault Refusal :=
  complete (takeFrame 0x43 [3, 4] frame (fun _ s => takeUnbind s) s)

end Sys2Proof.Machine
end

