-- ==== Sys2Proof/Machine/CryptoLinks.lean ====
section
/-!
DEFINITION. Links of the lanes and hash units: encryption, hashes, HMAC and payment MACs (R101, R111 to R127).
-/
namespace Sys2Proof.Machine

/-- Opcode 0x201, under the nonce or IV the Link took at issue (R111, R116, R120). -/
def execEncrypt (chain link : Nat) (s : State) : Host.Outcome State Fault Refusal :=
  complete (runLink 0x201 chain link
    (fun x => encrypt (laneMode (bits x.p 0 3)) (bits x.p 4 5) x.key0 x.r.nonce x.in1 x.in0) s)

/-- Opcode 0x202 (R111, R122). -/
def execDecrypt (chain link : Nat) (s : State) : Host.Outcome State Fault Refusal :=
  complete (runLink 0x202 chain link
    (fun x => decrypt (laneMode (bits x.p 0 3)) (bits x.p 4 5) x.key0 x.in1 x.in0) s)

/-- Opcode 0x203 (R111, R122). -/
def execReEncrypt (chain link : Nat) (s : State) : Host.Outcome State Fault Refusal :=
  complete (runLink 0x203 chain link
    (fun x => reEncrypt (laneMode (bits x.p 0 3)) (laneMode (bits x.p 4 3)) (bits x.p 8 5) (bits x.p 16 5) x.key0
      x.key1 x.r.nonce x.in1 x.in0) s)

/-- Opcode 0x301 (R125). -/
def execHash (chain link : Nat) (s : State) : Host.Outcome State Fault Refusal :=
  complete (runLink 0x301 chain link (fun x => hashMessage (bits x.p 0 4) (bits x.p 4 12) x.in0) s)

/-- Opcode 0x302 (R125). -/
def execHmacGenerate (chain link : Nat) (s : State) : Host.Outcome State Fault Refusal :=
  complete (runLink 0x302 chain link (fun x => hmacGenerate (bits x.p 0 4) (bits x.p 4 7) x.key0 x.in0) s)

/-- Opcode 0x303 (R125). -/
def execHmacVerify (chain link : Nat) (s : State) : Host.Outcome State Fault Refusal :=
  complete (runLink 0x303 chain link (fun x => hmacVerify (bits x.p 0 4) (bits x.p 4 7) x.key0 x.in0 x.in1) s)

/-- Opcode 0x310 (R101). -/
def execMacGenerate (chain link : Nat) (s : State) : Host.Outcome State Fault Refusal :=
  complete (runLink 0x310 chain link
    (fun x => macGenerate (bits x.p 0 2) (bits x.p 2 2) (bits x.p 4 5) x.key0 x.in0) s)

/-- Opcode 0x311 (R101). -/
def execMacVerify (chain link : Nat) (s : State) : Host.Outcome State Fault Refusal :=
  complete (runLink 0x311 chain link
    (fun x => macVerify (bits x.p 0 2) (bits x.p 2 2) (bits x.p 4 5) x.key0 x.in0 x.in1) s)

end Sys2Proof.Machine
end

