-- ==== Sys2Proof/Machine/Replication.lean ====
section
/-!
DEFINITION. Replication on the standby and the copy that resynchronisation makes (R557 to R563).
-/
namespace Sys2Proof.Machine

/-! ### Applying a record (R557 to R559) -/

/-- What applying a record comes to: the state, and the pages and the event that its acknowledgement waits for; none when it
cannot be applied. -/
abbrev Applied := Option (State × List (Store × Nat) × Nat)

/-- Applied, with nothing to wait for. -/
def applied (s : State) : Applied := some (s, [], 0)

/-- The event of R557, which a resynchronisation does not append. -/
def peerEvent (code source : Nat) (args : Bytes) (s : State) : State × Nat :=
  if s.twin.sync = 2 then (s, 0)
  else
    let s := logRequired code source args s
    (s, s.log.total)

/-- A slot is on the staging list exactly when it is marked. -/
def listStaged (n attr : Nat) (s : State) : State :=
  let left := s.keys.staging.filter fun m => decide (m ≠ n)
  { s with keys := { s.keys with staging := if (attrOfWord attr).mark = 0 then left else left ++ [n] } }

/-- The persistent entry of a slot written on the peer, sealed under the peer's own storage key. -/
def peerEntry (n attr : Nat) (key : Bytes) (s : State) : Applied :=
  if !(attrOfWord attr).persist then
    match entryOf s n with
    | some (e, _) => some (deleteEntry 3 e s, [(.keys, e / 4)], 0)
    | none => applied s
  else
    let e := match entryOf s n with
      | some (e, _) => some e
      | none => freeStoreEntry s
    match e with
    | none => none
    | some e => if s.keys.storageHeld then (writeEntry 3 e n attr (floorFor s attr) key s).map fun t => (t, [(.keys, e / 4)], 0) else none

/-- 0x01: a slot is written; a BAD slot cannot take it. -/
def applySlotWrite (c : Bytes) (s : State) : Applied :=
  let n := leNat (c.take 4)
  let attr := leNat (slice 4 8 c)
  let key := (slice 12 32 c).take (algKeyLen (bits attr 0 5))
  if n ≥ slotCount s ∨ (getSlot s n).state = .bad ∨ c.length ≠ 44 then none
  else peerEntry n attr key (listStaged n attr (writeSlot n key attr s))

/-- 0x02: a slot is zeroised or deleted (0), marked or settled (1), or BAD on the holder (2). -/
def applySlotState (c : Bytes) (s : State) : Applied :=
  let n := leNat (c.take 4)
  let attr := leNat (slice 4 8 c)
  let st := leNat (slice 12 1 c)
  if n ≥ slotCount s ∨ c.length ≠ 13 then none
  else if st = 0 then
    let (ps, s) := zeroiseSlot n s
    some (s, ps.map fun q => (Store.keys, q), 0)
  else if st = 1 then
    if (getSlot s n).state ≠ .valid then none
    else peerEntry n attr (getSlot s n).key (listStaged n attr (setSlotAttr n attr s))
  else if st = 2 then applied (putSlot n { getSlot s n with attr := attr, state := .bad } s)
  else none

/-- 0x03: a use counter as the holder's decrement left it. -/
def applyDecrement (c : Bytes) (s : State) : Applied :=
  let n := leNat (c.take 4)
  if n ≥ slotCount s ∨ (getSlot s n).state ≠ .valid ∨ c.length ≠ 8 then none
  else applied (setSlotAttr n (wordOfAttr { attrOfWord (getSlot s n).attr with counter := leNat (slice 4 4 c) }) s)

/-- 0x05: the mask that completes a vault slot, which takes a mask of its own. -/
def applyVaultMask (c : Bytes) (s : State) : Applied :=
  match s.twin.vaultHalf with
  | none => none
  | some (n, attr, v) =>
    if leNat (c.take 1) ≠ n ∨ c.length ≠ 33 then none
    else
      let key := (xorBytes v (slice 1 32 c)).take (algKeyLen (bits attr 0 5))
      let s := writeVault n key attr { s with twin := { s.twin with vaultHalf := none } }
      let (s, e) := peerEvent 0x080A 0xFFFF ([byte n, 1] ++ keyCheckValue (bits attr 0 5) key) s
      some (s, [], e)

/-- 0x04: the masked value of a vault slot. -/
def applyVaultValue (c : Bytes) (s : State) : Applied :=
  let n := leNat (c.take 1)
  if n < 8 ∨ c.length ≠ 41 then none
  else applied { s with twin := { s.twin with vaultHalf := some (n, leNat (slice 1 8 c), slice 9 32 c) } }

/-- 0x06: a vault slot is emptied. -/
def applyVaultEmpty (c : Bytes) (s : State) : Applied :=
  let n := leNat (c.take 1)
  if n < 8 ∨ c.length ≠ 1 then none
  else
    let kcv := match vaultSlot s n with
      | some v => v.kcv
      | none => zeros 3
    let s := { s with keys := { s.keys with vault := SMap.erase s.keys.vault n } }
    let (s, e) := peerEvent 0x080A 0xFFFF ([byte n, 2] ++ kcv) s
    some (s, [], e)

/-- The state of an instance from its code. -/
def instStateOf (n : Nat) : InstState := if n = 1 then .active else if n = 2 then .destroying else .free

/-- The action that event 0x0105 names, from the instance before and after; none where the holder appends no event. The record does
not carry the action: one that changes nothing of an ACTIVE instance is read as a purge (DEDUCED, assumption 100). -/
def instActionOf (old new : Inst) : Option Nat :=
  match old.state, new.state with
  | .free, .active => some 1
  | .active, .active => if old = new then some 4 else some 2
  | .destroying, .free => some 3
  | _, _ => none

/-- 0x10: an instance. -/
def applyInstance (c : Bytes) (s : State) : Applied :=
  let n := leNat (c.take 2)
  let f := fun (off len : Nat) => leNat (slice off len c)
  if n = 0 ∨ n > instCount s ∨ c.length ≠ 27 then none
  else
    let old := getInst s n
    let new := instStateOf (f 2 1)
    let i : Inst := { old with
      state := new, qpBase := f 3 4, qpCount := f 7 2, slotBase := f 9 4, slotCount := f 13 4, quota := f 17 4,
      share := f 21 2, rights := f 23 2, oldRights := f 23 2, stagedRights := f 25 2 }
    let insts := if new = .free then SMap.erase s.tenants.insts n else SMap.put s.tenants.insts n i
    let s := { s with tenants := { s.tenants with insts := insts } }
    match instActionOf old i with
    | some a =>
      let (s, e) := peerEvent 0x0105 0 (natLE 2 n ++ [byte a, 0]) s
      some (s, [], e)
    | none => applied s

/-- The state of a queue pair from its code. -/
def qpStateOf (n : Nat) : QpState :=
  if n = 1 then .active else if n = 2 then .draining else if n = 3 then .frozen else if n = 4 then .error else .disabled

/-- The context of R236 as a record gives it: the running fields are not replicated (R561). -/
def qpOfContext (c : Bytes) : QueuePair :=
  let w := fun (i : Nat) => leNat (slice (8 * i) 8 c)
  { QueuePair.reset with
    sqSize := bits (w 0) 0 4, cqSize := bits (w 0) 4 4, state := qpStateOf (bits (w 0) 8 4), sqBase := bits (w 0) 12 52,
    fn := bits (w 1) 0 12, cqBase := bits (w 1) 12 52, winSize := bits (w 2) 0 12, winBase := bits (w 2) 12 52,
    vector := bits (w 4) 17 15, modCount := bits (w 4) 32 16, modTime := bits (w 4) 48 16, localNo := bits (w 5) 32 16,
    isSet := decide (bits (w 0) 0 4 ≠ 0) }

/-- 0x11: a queue-pair context; a released one is forgotten. -/
def applyQp (c : Bytes) (s : State) : Applied :=
  let n := leNat (c.take 4)
  let q := qpOfContext (c.drop 4)
  if n ≥ qpCount s ∨ c.length ≠ 68 then none
  else
    let qps := if q.isSet then SMap.put s.host.qps n q else SMap.erase s.host.qps n
    applied { s with host := { s.host with qps := qps } }

/-- Where an epoch of a template record stands: in force, staged for the next, or draining. -/
def placeTemplate (n owner epoch : Nat) (b : Option (Body × List Nat)) (s : State) : State :=
  let t := SMap.get Template.empty s.epochs.templates n
  let put := fun (t : Template) (s : State) =>
    { s with epochs := { s.epochs with templates := SMap.set Template.empty s.epochs.templates n t } }
  if epoch = s.epochs.current.toNat then
    put { t with owner := owner, body := b.map (·.1), buffers := (b.map (·.2)).getD [] } (freeBuffers t.buffers s)
  else if epoch = (s.epochs.current + 1).toNat then
    put { t with staged := some (b.map fun x => (owner, x.1, x.2)) } (dropStaged t s)
  else put { t with oldOwner := owner, oldBody := b.map (·.1), oldBuffers := (b.map (·.2)).getD [] } (freeBuffers t.oldBuffers s)

/-- 0x12: a template body, or a clear. -/
def applyTemplate (c : Bytes) (s : State) : Applied :=
  let n := leNat (c.take 2)
  let owner := leNat (slice 2 2 c)
  let epoch := leNat (slice 4 2 c)
  let body := c.drop 6
  if c.length < 6 then none
  else if body.isEmpty then applied (placeTemplate n owner epoch none s)
  else
    match allocate s owner (ceilDiv body.length 256) with
    | none => none
    | some bs => applied (placeTemplate n owner epoch (some (bodyOfBytes body, bs)) (takeGrant 2 (functionTag owner) bs s))

/-- The staged values that items of a commit record put in force. -/
def configOfItems (items : SMap Bytes) (c : EpochConfig) : EpochConfig :=
  let v := fun (index sub old : Nat) => match SMap.find items (entryKey index sub) with
    | some b => leNat b
    | none => old
  { maxDeadline := v 0x2100 1 c.maxDeadline
    defaultDeadline := v 0x2100 2 c.defaultDeadline
    yieldLimit := v 0x3200 1 c.yieldLimit
    decTables := (List.range 8).map fun i => SMap.get (c.decTables.getD i []) items (entryKey 0x3310 (i + 1))
    pinDowngrade := decide (v 0x3311 1 (bit c.pinDowngrade) = 1) }

/-- 0x13: a commit. A part in sync switches as the holder does, and EPOCH-SWITCH stands on it until the holder's old epoch has
drained (rule 21 of R43); a commit that finds an earlier one still standing ends it first. In a resynchronisation the record only
gives the epoch and its values (R562). -/
def applyCommit (c : Bytes) (s : State) : Applied :=
  let new := BitVec.ofNat 16 (leNat (c.take 2))
  let s := if s.modes.word.epochSwitch then dropOldEpoch s else s
  let old := s.epochs.current
  let config := configOfItems (parseItems 126 (c.drop 2)) s.epochs.config
  let values := (((List.range 8).zip config.decTables).map fun x => (entryKey 0x3310 (x.1 + 1), x.2)) ++
    [(entryKey 0x3311 1, [byte (bit config.pinDowngrade)])]
  let moved := decide (config.decTables ≠ s.epochs.config.decTables ∨ config.pinDowngrade ≠ s.epochs.config.pinDowngrade)
  if c.length < 2 then none
  else
    let step := decide (new = old + 1)
    let switch := step && decide (s.twin.sync ≥ 3)
    let templates := if step then SMap.mapValues s.epochs.templates fun _ t => commitTemplate t else s.epochs.templates
    let insts := SMap.mapValues s.tenants.insts fun _ i => { i with oldRights := i.rights, rights := i.stagedRights }
    let s := { s with
      epochs := { s.epochs with current := new, old := old, config := config, oldConfig := s.epochs.config, staged := Staged.none,
                                templates := templates }
      tenants := { s.tenants with insts := insts } }
    let s := if switch then latchModes (fun w => { w with epochSwitch := true }) s
      else if s.modes.word.epochSwitch then latchModes (fun w => { w with epochSwitch := false }) (dropOldEpoch s)
      else dropOldEpoch s
    let s := if moved then writeConfig values s else s
    let (s, e) := peerEvent 0x0102 0 (natLE 2 old.toNat ++ natLE 2 new.toNat) s
    some (s, if moved then [(.config, configPage)] else [], e)

/-- 0x14: OD 0x1200:04, the one entry that is replicated so. -/
def applyEntry (c : Bytes) (s : State) : Applied :=
  if c.take 4 = natLE 2 0x1200 ++ [4, 1] ∧ c.length = 5 then
    applied { s with modes := { s.modes with serviceEnable := decide (leNat (c.drop 4) = 1) } }
  else none

/-- 0x15: a reset of the holder's host (1) or of one of its functions (2); the peer's own PCIe link stays. -/
def applyReset (c : Bytes) (s : State) : Applied :=
  let kind := leNat (c.take 1)
  let fn := leNat (slice 1 2 c)
  let all := fun (_ : Nat) => true
  let mine := fun (n : Nat) => decide (n = fn)
  if c.length ≠ 3 then none
  else if kind = 1 then
    let s := clearExpiring all (clearTemplates all s)
    let s := { s with host := { s.host with qps := [] }
                      tenants := { s.tenants with insts := [], mailboxes := SMap.keep s.tenants.mailboxes fun m _ => decide (m = 0) } }
    let (s, e) := peerEvent 0x0106 0xFFFF (natLE 4 0 ++ natLE 8 0) s
    some (s, [], e)
  else if kind = 2 then
    let qps := SMap.mapValues s.host.qps fun _ q => if q.fn = fn then disabledKept q else q
    let s := clearExpiring mine { s with host := { s.host with qps := qps } }
    let (s, e) := peerEvent 0x0107 0xFFFF (natLE 2 fn ++ [0, 0] ++ natLE 4 0 ++ natLE 8 0) s
    some (s, [], e)
  else none

/-- A record by its type. -/
def applyRecord (kind : Nat) (c : Bytes) (s : State) : Applied :=
  if kind = 0x01 then applySlotWrite c s
  else if kind = 0x02 then applySlotState c s
  else if kind = 0x03 then applyDecrement c s
  else if kind = 0x04 then applyVaultValue c s
  else if kind = 0x05 then applyVaultMask c s
  else if kind = 0x06 then applyVaultEmpty c s
  else if kind = 0x10 then applyInstance c s
  else if kind = 0x11 then applyQp c s
  else if kind = 0x12 then applyTemplate c s
  else if kind = 0x13 then applyCommit c s
  else if kind = 0x14 then applyEntry c s
  else if kind = 0x15 then applyReset c s
  else none

/-- One record: passed over when it has been applied, applied when it is the next, and otherwise the part is Detached. -/
def takeRecord (number kind : Nat) (c : Bytes) (s : State) : State :=
  if number ≤ s.twin.processed then s
  else if number ≠ s.twin.processed + 1 then detachSelf s
  else
    match applyRecord kind c s with
    | none => detachSelf s
    | some (t, pages, event) =>
      let wait := if pages.isEmpty ∧ event = 0 then [] else [(number, pages, event)]
      { t with twin := { t.twin with processed := number, recordsApplied := t.twin.recordsApplied + 1,
                                     ackWaits := (t.twin.ackWaits.filter fun w => decide (w.1 > s.twin.applied)) ++ wait } }

/-- The records of a frame, in order, while the part keeps a copy. -/
def takeRecords : Nat → Bytes → State → State
  | 0, _, s => s
  | fuel + 1, bs, s =>
    let len := leNat (slice 2 2 bs)
    if bs.isEmpty ∨ standbyNow s = false ∨ s.twin.sync < 2 then s
    else if bs.length < 12 + len then detachSelf s
    else takeRecords fuel (bs.drop (12 + len)) (takeRecord (leNat (slice 4 8 bs)) (bs.getD 0 0).toNat (slice 12 len bs) s)

/-- REPL. -/
def execRepl (frame : Bytes) (s : State) : Host.Outcome State Fault Refusal :=
  complete (takeFrame 0x20 [4] frame (fun b s => takeRecords b.length b s) s)

/-- RESYNC_DATA. -/
def execResyncData (frame : Bytes) (s : State) : Host.Outcome State Fault Refusal :=
  complete (takeFrame 0x31 [4] frame (fun b s => takeRecords b.length b s) s)

/-- RESYNC_END: the items that make the copy; once they are applied and durable the part is in sync. -/
def execResyncEnd (frame : Bytes) (s : State) : Host.Outcome State Fault Refusal :=
  let act := fun (b : Bytes) (s : State) =>
    if !standbyNow s || decide (s.twin.sync ≠ 2) then s
    else
      let t := { s with twin := { s.twin with resyncItems := leNat (b.take 4) } }
      if appliedNow t = t.twin.applied ∧ t.twin.resyncItems ≠ 0 ∧ t.twin.applied ≥ t.twin.resyncItems then
        claspSend 0x03 [] (becomeInSync t)
      else t
  complete (takeFrame 0x32 [4] frame act s)

/-! ### The copy a holder makes (R562) -/

/-- The bytes of a Chain body. -/
def bytesOfBody (b : Body) : Bytes :=
  b.hdr.flatMap (natLE 8) ++ b.links.flatMap fun l => natLE 8 l.w0 ++ natLE 8 l.w1 ++ natLE 8 l.w2 ++ natLE 8 l.w3

/-- The records of one vault slot. -/
def vaultRecords (n : Nat) (v : VaultSlot) : List (Nat × Bytes) :=
  [(0x04, natLE 1 n ++ natLE 8 v.attr ++ padTo 32 v.v), (0x05, natLE 1 n ++ padTo 32 v.m)]

/-- The template bodies of the live epochs. -/
def templateRecords (s : State) (n : Nat) (t : Template) : List (Nat × Bytes) :=
  let live := fun (owner : Nat) (epoch : BitVec 16) (b : Option Body) => match b with
    | some b => [(0x12, templateRecord n owner epoch.toNat (bytesOfBody b))]
    | none => []
  live t.owner s.epochs.current t.body ++ live t.oldOwner s.epochs.old t.oldBody

/-- The record of one working slot. -/
def slotRecord (n : Nat) (sl : Slot) : List (Nat × Bytes) :=
  match sl.state with
  | .empty => []
  | .valid => [(0x01, natLE 4 n ++ natLE 8 sl.attr ++ padTo 32 sl.key)]
  | .bad => [(0x02, natLE 4 n ++ natLE 8 sl.attr ++ [2])]

/-- The current state as records, in the order of R562. -/
def copyRecords (s : State) : List (Nat × Bytes) :=
  [(0x13, natLE 2 s.epochs.current.toNat ++ stagedItems s.epochs.config),
   (0x14, configItem (entryKey 0x1200 4) [byte (bit s.modes.serviceEnable)])] ++
  ((s.keys.vault.filter fun x => decide (8 ≤ x.1)).flatMap fun x => vaultRecords x.1 x.2) ++
  (s.tenants.insts.map fun x => (0x10, instanceContent x.1 x.2)) ++
  ((s.host.qps.filter fun x => x.2.isSet).map fun x => (0x11, natLE 4 x.1 ++ qpContext x.2)) ++
  (s.epochs.templates.flatMap fun x => templateRecords s x.1 x.2) ++
  (s.keys.slots.flatMap fun x => slotRecord x.1 x.2)

/-- One more record of the copy: it takes the next number, and joins the frame under way or starts another. -/
def addCopy (x : List Bytes × State) (r : Nat × Bytes) : List Bytes × State :=
  let s := x.2
  let n := s.twin.nextRecord
  let sent : SentRecord := { number := n, kind := r.1, content := r.2, queuedAt := s.disp.tick }
  let s := { s with twin := { s.twin with nextRecord := n + 1, unacked := s.twin.unacked ++ [sent],
                                          recordsSent := s.twin.recordsSent + 1 } }
  let bytes := replRecord n r.1 r.2
  match x.1 with
  | f :: t => if f.length + bytes.length ≤ 4096 then ((f ++ bytes) :: t, s) else (bytes :: f :: t, s)
  | [] => ([bytes], s)

/-- The holder serves a resynchronisation: waits for a peer that was in sync end, numbers restart, and the copy is sent. -/
def serveResync (s : State) : State :=
  if !activeNow s then s
  else
    let s := if s.twin.peerSync = 3 then endWaits 1 s else s
    let s := { s with twin := { s.twin with peerSync := 2, nextRecord := 1, ackedTo := 0, unacked := [], renewSent := [],
                                            resyncStart := s.disp.tick } }
    let s := logEvent 0x0908 0xFFFF [1] s
    let (frames, s) := (copyRecords s).foldl addCopy ([], s)
    let items := s.twin.nextRecord - 1
    let s := frames.reverse.foldl (fun s f => claspSend 0x31 f s) s
    let s := { s with twin := { s.twin with resyncItems := items, leaseEnd := s.disp.tick + 8000 } }
    claspSend 0x32 (natLE 4 items) s

/-- RESYNC_REQ. -/
def execResyncReq (frame : Bytes) (s : State) : Host.Outcome State Fault Refusal :=
  complete (takeFrame 0x30 [4] frame (fun _ s => serveResync s) s)

end Sys2Proof.Machine
end

