-- ==== Sys2Proof/Machine/TwinRows.lean ====
section
/-!
DEFINITION. Binding two parts into a pair (R545 to R547).
-/
namespace Sys2Proof.Machine

/-- The result of a pair action is shown. -/
def pairResult (r : Nat) (s : State) : State := { s with twin := { s.twin with actionResult := r } }

/-- The two HELLOs differ from what a binding needs: grades, sides, domains or member numbers. -/
def peersDiffer (s : State) (h : Bytes) : Bool :=
  decide (helloGrade h ≠ gradeCode s) || decide (helloSide h = s.twin.side) || decide (helloDomain h ≠ domainOf s) ||
    decide (helloMember h = memberOf s)

/-- Why a part refuses a binding, 0 when it does not (R545, OD 0x7000:0A). -/
def bindRefused (s : State) (source : Bool) : Nat :=
  if s.twin.binding.isSome then 1
  else if s.life.state ≠ .production ∨ s.sec.pair.isSome = true ∨ s.life.debugOpen = true ∨ lockedNow s = true ∨
      evlogFull s = true ∨ s.rng.state ≠ 1 ∨ (source = false ∧ (s.modes.word.service = true ∨ s.modes.word.shared = true)) then 2
  else if domainOf s = 0 then 5
  else if s.clasp.link ≠ 3 then 3
  else match s.clasp.peerHello with
    | some h => if peersDiffer s h then 4 else 0
    | none => 3

/-- The pair key of a shared secret (R546). -/
def pairKeyOf (s : State) (peer : Nat) (z : Bytes) : Bytes :=
  let serials := bySide s (natLE 8 s.fuses.serial.toNat) (natLE 8 peer)
  (sha384 (natBE 4 1 ++ z ++ ascii "SKETO PAIR" ++ serials)).take 32

/-- The attribute word of the pair key and of the domain root key. -/
def pairAttr : Nat := 0x04000DA5

/-- Serial number of the peer in session. -/
def peerSerial (s : State) : Nat :=
  match s.clasp.peerHello with
  | some h => helloSerial h
  | none => 0

/-- The source answers a BIND_REQ: its own key pair, the pair key, and BIND_RESP. -/
def answerBind (point : Bytes) (s : State) : State :=
  let (d, s) := drawSystem 56 s
  let (priv, pub) := ecKeyPair p384 d
  match ecdhOp p384 priv point with
  | .done z =>
    let b : Binding := { source := true, ephemeral := priv, peerPoint := point, key := pairKeyOf s (peerSerial s) z,
                         due := s.disp.tick + second }
    claspSend 0x41 pub { s with twin := { s.twin with binding := some b } }
  | _ => endBinding 7 s

/-- The binding is made: the pair key and the pair record are written, the source holds the Signet, and the session ends so that
a bound one opens (R546, R547). -/
def finishBinding (source : Bool) (key : Bytes) (s : State) : State :=
  let peer := peerSerial s
  let side := if source then s.twin.side else 1 - s.twin.side
  let s := writeVault 2 key pairAttr s
  let s := { s with sec := { s.sec with pair := some { peer := peer }, generation := 1, genSide := side }
                    twin := { s.twin with binding := none, offer := none, actionResult := 0, holder := source, sync := 1,
                                          peerSync := 1, unacked := [], nextRecord := 1, ackedTo := 0, applied := 0,
                                          processed := 0, ackWaits := [] } }
  let s := logEvent 0x0903 0 (natLE 8 peer ++ [byte (if source then 1 else 2)]) s
  let s := if source then
      logEvent 0x0905 0 (natLE 8 1 ++ [1])
        { s with sec := { s.sec with takings := s.sec.takings + 1, lastTaking := s.sec.deviceTime } }
    else zeroiseCopy s
  restartSession s

/-- BIND_AS_SOURCE: it waits for the joiner's BIND_REQ, or answers the one that came within the second before; while the system
reserve does not cover the answer's draw the action waits (R331, R335; DEDUCED, assumption 14). -/
def execBindAsSource (src : Src) (s : State) : Host.Outcome State Fault Refusal :=
  let act := fun (_ : Path) (s : State) =>
    let r := bindRefused s true
    if r ≠ 0 then Answer.now 0 (pairResult r s)
    else
      let b : Binding := { source := true, ephemeral := [], peerPoint := [], key := [], due := s.disp.tick + second }
      let t := pairResult 0xFF { s with twin := { s.twin with binding := some b, offer := none } }
      match s.twin.offer with
      | some (point, at_) => Answer.now 0 (if s.disp.tick ≤ at_ + second then answerBind point t else t)
      | none => Answer.now 0 t
  complete (if s.twin.offer.isSome ∧ reserveCovers s 56 = false then s else runAction src 0x7000 0x09 1 act s)

/-- BIND_AS_JOINER: it sends BIND_REQ with a fresh key; while the system reserve does not cover its draw it waits (R331, R335; DEDUCED,
assumption 14). -/
def execBindAsJoiner (src : Src) (s : State) : Host.Outcome State Fault Refusal :=
  let act := fun (_ : Path) (s : State) =>
    let r := bindRefused s false
    if r ≠ 0 then Answer.now 0 (pairResult r s)
    else
      let (d, s) := drawSystem 56 s
      let (priv, pub) := ecKeyPair p384 d
      let b : Binding := { source := false, ephemeral := priv, peerPoint := [], key := [], due := s.disp.tick + second }
      Answer.now 0 (claspSend 0x40 ([2] ++ pub) (pairResult 0xFF { s with twin := { s.twin with binding := some b, offer := none } }))
  complete (if bindRefused s false = 0 ∧ reserveCovers s 56 = false then s else runAction src 0x7000 0x09 2 act s)

/-- BIND_REQ: two parts in one role do not match; a source answers the first; a part that has not acted keeps it for a second. -/
def takeBindReq (body : Bytes) (s : State) : State :=
  let role := (body.getD 0 0).toNat
  let point := slice 1 97 body
  if body.length ≠ 98 ∨ (role ≠ 1 ∧ role ≠ 2) then s
  else match s.twin.binding with
    | none => if role = 2 then { s with twin := { s.twin with offer := some (point, s.disp.tick) } } else s
    | some b =>
      if b.source = decide (role = 1) then endBinding 4 s
      else if b.source && b.key.isEmpty && reserveCovers s 56 then answerBind point s else s

/-- BIND_REQ. -/
def execBindReq (frame : Bytes) (s : State) : Host.Outcome State Fault Refusal :=
  complete (takeFrame 0x40 [3] frame takeBindReq s)

/-- BIND_RESP: the joiner confirms and has the pair key. -/
def takeBindResp (body : Bytes) (s : State) : State :=
  match s.twin.binding with
  | none => s
  | some b =>
    if b.source then s
    else match ecdhOp p384 b.ephemeral body with
      | .done z => finishBinding false (pairKeyOf s (peerSerial s) z) (claspSend 0x42 [] s)
      | _ => endBinding 7 s

/-- BIND_RESP. -/
def execBindResp (frame : Bytes) (s : State) : Host.Outcome State Fault Refusal :=
  complete (takeFrame 0x41 [3] frame takeBindResp s)

/-- BIND_CONF: the source that has answered is bound. -/
def takeBindConf (s : State) : State :=
  match s.twin.binding with
  | none => s
  | some b => if b.source && !b.key.isEmpty then finishBinding true b.key s else s

/-- BIND_CONF. -/
def execBindConf (frame : Bytes) (s : State) : Host.Outcome State Fault Refusal :=
  complete (takeFrame 0x42 [3] frame (fun _ s => takeBindConf s) s)

/-- BIND_TIMEOUT: nothing of the peer's action was heard (3), or the handshake was not finished (7). -/
def execBindTimeout (s : State) : Host.Outcome State Fault Refusal :=
  match s.twin.binding with
  | none => complete s
  | some b => if s.disp.tick < b.due then complete s else complete (endBinding (if b.key.isEmpty then 3 else 7) s)

end Sys2Proof.Machine
end

