-- ==== Sys2Proof/Machine/DomainRows.lean ====
section
/-!
DEFINITION. Security domains: founding, sponsoring, joining and leaving (R539 to R544, R568).
-/
namespace Sys2Proof.Machine

/-- A mode refuses domain actions (R539), or no DRBG runs to serve them. -/
def domainMode (s : State) : Bool :=
  s.modes.word.service || pairedNow s || s.sec.pair.isSome || lockedNow s || s.life.debugOpen || evlogFull s

/-- The result of a domain action is shown. -/
def domainResult (r : Nat) (s : State) : State := { s with domain := { s.domain with result := r } }

/-- A domain action that has been done: its event, and the end of ceremony 11. -/
def domainDone (code : Nat) (args : Bytes) (s : State) : Answer :=
  Answer.recorded 0 (endOwnCeremony 11 (logRequired code 0xFFFF args (domainResult 0 s)))

/-- Vault slot 1 and what stands beside it. -/
def enterDomain (key : Bytes) (ident member : Nat) (s : State) : State :=
  let s := writeVault 1 key pairAttr s
  { s with sec := { s.sec with domainId := ident, member := member, issued := [] } }

/-- Result of founding: the mode, vault slot 1, the member number. -/
def foundResult (s : State) : Nat :=
  if domainMode s then 2 else if (vaultSlot s 1).isSome then 1 else if s.domain.memberReq > 4095 then 3 else 0

/-- DOMAIN_FOUND (R540); while the system reserve does not cover its draws it waits (R331, R335; DEDUCED, assumption 14). -/
def execDomainFound (src : Src) (s : State) : Host.Outcome State Fault Refusal :=
  let act := fun (_ : Path) (s : State) =>
    let r := foundResult s
    if r ≠ 0 then Answer.now 0 (domainResult r s)
    else
      let (key, s) := drawSystem 32 s
      let (ident, s) := drawNonzero 8 s
      let member := s.domain.memberReq
      domainDone 0x090A (natLE 8 ident ++ natLE 2 member) (enterDomain key ident member s)
  complete (if foundResult s = 0 ∧ reserveCovers s 40 = false then s else runAction src 0x7100 0x03 1 act s)

/-- Result of sponsoring: the mode, vault slot 1, the member number, the candidate's point. -/
def sponsorResult (s : State) : Nat :=
  let m := s.domain.memberReq
  if domainMode s then 2
  else if (vaultSlot s 1).isNone then 1
  else if m > 4095 ∨ s.sec.issued.contains m = true ∨ m = s.sec.member then 3
  else if (decodePoint p384 s.domain.candKey).isNone then 5 else 0

/-- The key that wraps the domain root key for a candidate. -/
def joinKek (z : Bytes) (serial : Nat) : Bytes :=
  (sha384 (natBE 4 1 ++ z ++ ascii "SKETO DOMAIN JOIN" ++ natLE 8 serial)).take 32

/-- The tag of a join package under a domain root key. -/
def joinTag (root head : Bytes) : Bytes :=
  let k := (hmac .sha384 root (ascii "DOMAIN JOIN" ++ [0])).take 32
  (hmac .sha384 k head).take 32

/-- The join package of an ephemeral key pair and its shared secret with the candidate. -/
def joinPackage (s : State) (pub z : Bytes) : Bytes :=
  let root := vaultKey s 1
  let head := [1, 0] ++ natLE 2 s.domain.memberReq ++ natLE 8 s.sec.domainId ++ natLE 8 s.domain.candSerial ++ pub ++
    zeros 3 ++ kwSeal (joinKek z s.domain.candSerial) root
  head ++ joinTag root head

/-- DOMAIN_SPONSOR (R541, R544); while the system reserve does not cover its draw it waits (R331, R335; DEDUCED, assumption 14). -/
def execDomainSponsor (src : Src) (s : State) : Host.Outcome State Fault Refusal :=
  let act := fun (_ : Path) (s : State) =>
    let r := sponsorResult s
    if r ≠ 0 then Answer.now 0 (domainResult r s)
    else
      let (d, s) := drawSystem 56 s
      let (priv, pub) := ecKeyPair p384 d
      match ecdhOp p384 priv s.domain.candKey with
      | .done z =>
        let m := s.domain.memberReq
        let out := joinPackage s pub z
        let t := { s with domain := { s.domain with packageOut := out }, sec := { s.sec with issued := s.sec.issued ++ [m] } }
        domainDone 0x090B (natLE 8 s.domain.candSerial ++ natLE 2 m) t
      | _ => Answer.now 0 (domainResult 5 s)
  complete (if sponsorResult s = 0 ∧ reserveCovers s 56 = false then s else runAction src 0x7100 0x03 2 act s)

/-- The domain root key of a package, when R542 accepts it. -/
def openPackage (s : State) (p : Bytes) : Option Bytes :=
  if p.take 2 ≠ [1, 0] ∨ slice 117 3 p ≠ zeros 3 ∨ leNat (slice 12 8 p) ≠ s.fuses.serial.toNat then none
  else match ecdhOp p384 (natBE 48 (transportScalar s)) (slice 20 97 p) with
    | .done z =>
      match kwOpen (joinKek z s.fuses.serial.toNat) (slice 120 40 p) with
      | some root => if joinTag root (p.take 160) = slice 160 32 p then some root else none
      | none => none
    | _ => none

/-- DOMAIN_JOIN (R542). -/
def execDomainJoin (src : Src) (s : State) : Host.Outcome State Fault Refusal :=
  let act := fun (_ : Path) (s : State) =>
    if domainMode s then Answer.now 0 (domainResult 2 s)
    else if (vaultSlot s 1).isSome then Answer.now 0 (domainResult 1 s)
    else
      let p := s.domain.packageIn
      match openPackage s p with
      | none => Answer.now 0 (domainResult 4 s)
      | some root =>
        let ident := leNat (slice 4 8 p)
        let member := leNat (slice 2 2 p)
        domainDone 0x090C (natLE 8 ident ++ natLE 2 member) (enterDomain root ident member s)
  complete (runAction src 0x7100 0x03 3 act s)

/-- DOMAIN_LEAVE (R543). -/
def execDomainLeave (src : Src) (s : State) : Host.Outcome State Fault Refusal :=
  let act := fun (_ : Path) (s : State) =>
    if domainMode s then Answer.now 0 (domainResult 2 s)
    else if (vaultSlot s 1).isNone then Answer.now 0 (domainResult 1 s)
    else
      let ident := s.sec.domainId
      let s := { s with keys := { s.keys with vault := SMap.erase s.keys.vault 1 }
                        sec := { s.sec with domainId := 0, member := 0, issued := [] } }
      domainDone 0x090D (natLE 8 ident) s
  complete (runAction src 0x7100 0x03 4 act s)

end Sys2Proof.Machine
end

