-- ==== Sys2Proof/Machine/KeyLinks.lean ====
section
/-!
DEFINITION. The key Links of group 0x1: import, export, unwrapping, generation, deletion and derivation (R308, R311 to
R316).
-/
namespace Sys2Proof.Machine

/-! ### Writing a destination slot (R290, R300, R308, R315) -/

/-- The fields an import takes from its attribute request; any other non-zero field is refused (R315). -/
def requestFields (whole : Bool) (w : Nat) : Option Attr :=
  let a := attrOfWord w
  let kept : Attr :=
    { alg := if whole then a.alg else 0, usage := if whole then a.usage else 0, mode := if whole then a.mode else 0,
      exp := if whole then a.exp else 0, owner := 0, scope := 0, ctrEn := a.ctrEn, expire := a.expire,
      persist := false, mark := 0, epoch := 0, counter := a.counter }
  if wordOfAttr kept = w then some kept else none

/-- The attribute word of a written slot: OWNER and SCOPE of the Chain's owner, PERSIST, MARK and EPOCH from PARAM. -/
def destinationAttr (s : State) (fn p : Nat) (a : Attr) : Nat :=
  let stage := bitOf p 1
  let epoch := if stage then s.epochs.current.toNat + 1 else s.epochs.current.toNat
  wordOfAttr { ownedBy fn a with persist := bitOf p 0, mark := bit stage, epoch := epoch % 256 }

/-- Why a destination slot cannot be written (R290, R300, R308, R315). -/
def destinationRefused (s : State) (c fn slot attr : Nat) (r : LinkRun) : Option Nat :=
  let a := attrOfWord attr
  if attrRefused attr then some 0x020E
  else if !inSlotRange s fn slot || decide ((getSlot s slot).state ≠ .empty) then some 0x020D
  else if lockedByOther s (chainTag c) slot then some 0x020F
  else if a.mark = 1 ∧ s.keys.staging.length ≥ 1024 then some 0x0210
  else if a.persist && r.entry.isNone then some 0x0211
  else if a.persist && !noncesLeft s then some 0x0410
  else none

/-- Writes the slot with its persistent entry and its replication record; the Chain's completion waits for both. An entry that still stands
for the slot is rewritten, or deleted when the key is not persistent, so that a slot has one entry at most (R307). -/
def installKey (c n slot attr : Nat) (key : Bytes) (entry : Option Nat) (s : State) : State :=
  let a := attrOfWord attr
  let s := writeSlot slot key attr s
  let s := if a.mark = 1 then { s with keys := { s.keys with staging := s.keys.staging ++ [slot] } } else s
  let kept := (entryOf s slot).map (·.1)
  let s := { s with keys := { s.keys with reserved := s.keys.reserved.filter fun x => decide (some x ≠ entry) } }
  let s := match (if a.persist then kept.orElse fun _ => entry else none) with
    | none =>
      match kept with
      | some e => deleteEntry 3 e s
      | none => s
    | some e =>
        match writeEntry 3 e slot attr (floorFor s attr) key s with
        | some s => modifyChain c (fun ch => { ch with waitPages := ch.waitPages ++ [e / 4] }) s
        | none => s
  let (rs, s) := replicate 0x01 (natLE 4 slot ++ natLE 8 attr ++ padTo 32 key) s
  modifyRun c n (fun r => { r with entry := none })
    (modifyChain c (fun ch => { ch with waitRecords := ch.waitRecords ++ rs }) s)

/-- Ends a Link that writes a slot: the write, or the status that prevents it. A key whose length is not that of its ALG has no place in a
working slot (R286; 0x020E, DEDUCED, assumption 17). -/
def endImport (c n : Nat) (x : LinkCtx) (attr : Nat) (key : Bytes) (s : State) : State :=
  let slot := bits x.l.key1Ref 0 18
  match destinationRefused s c x.ch.fn slot attr x.r with
  | some st => failLink c n st s
  | none =>
    if key.length ≠ algKeyLen (bits attr 0 5) then failLink c n 0x020E s
    else doneLink c n none [] none (installKey c n slot attr key x.r.entry s)

/-- Opcode 0x101 (R313 to R315). -/
def execX9143Import (chain link : Nat) (s : State) : Host.Outcome State Fault Refusal :=
  match linkCtx s chain link 0x101 with
  | none => complete s
  | some x =>
    match x9Open x.key0 x.in0 with
    | .error st => complete (failLink chain link st s)
    | .ok k =>
      match requestFields false (leNat x.in1) with
      | none => complete (failLink chain link 0x020E s)
      | some q =>
        let a := { q with alg := k.alg, usage := k.usage, mode := k.mode, exp := k.exp }
        complete (endImport chain link x (destinationAttr s x.ch.fn x.p a) k.key s)

/-- Opcode 0x103 (R312, R314, R315). -/
def execDomainImport (chain link : Nat) (s : State) : Host.Outcome State Fault Refusal :=
  match linkCtx s chain link 0x103 with
  | none => complete s
  | some x =>
    match domainOpen x.key0 (ownDomain s) x.ch.fn x.in0 with
    | .error st => complete (failLink chain link st s)
    | .ok k => complete (endImport chain link x (destinationAttr s x.ch.fn x.p (attrOfWord k.attr)) k.key s)

/-- The key that 0x106 forms from its draw (R315). -/
def generatedKey (alg : Nat) (draw : Bytes) : Bytes :=
  if alg = 6 then natBE 32 (beNat draw % (p256.n - 1) + 1) else draw.take (algKeyLen alg)

/-- Opcode 0x106 (R315). -/
def execGenerate (chain link : Nat) (s : State) : Host.Outcome State Fault Refusal :=
  match linkCtx s chain link 0x106 with
  | none => complete s
  | some x =>
    match requestFields true (leNat x.in0) with
    | none => complete (failLink chain link 0x020E s)
    | some a =>
      complete (endImport chain link x (destinationAttr s x.ch.fn x.p a) (generatedKey a.alg x.r.draw) s)

/-- Opcode 0x107: the slot is zeroised with its persistent entry (R308, R314). -/
def execDelete (chain link : Nat) (s : State) : Host.Outcome State Fault Refusal :=
  match linkCtx s chain link 0x107 with
  | none => complete s
  | some x =>
    let slot := bits x.l.key1Ref 0 18
    if lockedByOther s (chainTag chain) slot then complete (failLink chain link 0x020F s)
    else
      let attr := (getSlot s slot).attr
      let (pages, s) := zeroiseSlot slot s
      let (rs, s) := replicate 0x02 (natLE 4 slot ++ natLE 8 attr ++ [0]) s
      let s := modifyChain chain (fun ch => { ch with waitPages := ch.waitPages ++ pages,
                                                      waitRecords := ch.waitRecords ++ rs }) s
      complete (doneLink chain link none [] none s)

/-! ### Exports, whose permission is decided twice (R314, R316, R438) -/

/-- The permission of an export (R316). -/
def exportPermitted (op : Nat) (x : LinkCtx) : Bool :=
  let a := attrOfWord x.key1.attr
  let form := if op = 0x102 then a.exp == 1 else a.exp == 1 || a.exp == 2
  let strength :=
    if op ≠ 0x102 then true
    else
      let wrap := x.key0.bytes.length
      if a.alg = 1 ∨ a.alg = 2 then true else decide (x.key1.bytes.length ≤ wrap)
  form && !a.ctrEn && strength

/-- The algorithms an X9.143 block can carry: A, T and H (R313). -/
def inX9 (alg : Nat) : Bool := algBlockCipher.contains alg || algHmac.contains alg

/-- The block that an export gives, and the state that has taken its padding. -/
def exportBlock (s : State) (op : Nat) (x : LinkCtx) : OpResult × State :=
  let a := attrOfWord x.key1.attr
  if op = 0x102 then
    if !inX9 a.alg then (.failed 0x0220, s)
    else
      let (n, s) := takeFree s
      let b := x9Seal x.key0 a x.key1.bytes n
      (if b.length ≤ refLen x.l.out then .done b else .failed 0x0220, s)
  else
    let b := domainSeal x.key0.bytes x.r.nonce (ownDomain s) x.key1.attr 0 x.key1.bytes
    (nonceGate x (if b.length ≤ refLen x.l.out then .done b else .failed 0x0220), s)

/-- The export opcode of a Link that waits for its second decision. -/
def exportCtx (s : State) (c n : Nat) : Option (Nat × LinkCtx) :=
  match linkCtx s c n 0x102 with
  | some x => some (0x102, x)
  | none => (linkCtx s c n 0x104).map fun x => (0x104, x)

/-- The second decision ends an export: the block when both permit it, else 0x020A. -/
def finishExport (c n : Nat) (first agrees : Bool) (s : State) : State :=
  match exportCtx s c n with
  | none => s
  | some (op, x) =>
    if first && agrees then
      let (res, s) := exportBlock s op x
      endLink c n x.l.soft res none s
    else failLink c n 0x020A s

/-- The first decision of an export: its outcome waits for the second. -/
def firstExport (op c n : Nat) (s : State) : State :=
  match linkCtx s c n op with
  | none => s
  | some x =>
    let d := (Decision.keyExport c n, exportPermitted op x)
    if s.tamper.decisions.any fun e => decide (e.1 = d.1) then s
    else drawDelays 1 { s with tamper := { s.tamper with decisions := s.tamper.decisions ++ [d] } }

/-- Opcode 0x102: the first decision on the export permission; `DOUBLE_DECISION_SECOND` ends the Link (R314). -/
def execX9143Export (chain link : Nat) (s : State) : Host.Outcome State Fault Refusal :=
  complete (firstExport 0x102 chain link s)

/-- Opcode 0x104: as 0x102, for a domain key block (R314). -/
def execDomainExport (chain link : Nat) (s : State) : Host.Outcome State Fault Refusal :=
  complete (firstExport 0x104 chain link s)

/-! ### Conversions -/

/-- Opcode 0x105: the key of a block with the role of its header, in a protected key buffer (R81, R314). -/
def execUnwrapToKeyBuffer (chain link : Nat) (s : State) : Host.Outcome State Fault Refusal :=
  match linkCtx s chain link 0x105 with
  | none => complete s
  | some x =>
    match domainOpen x.key0 (ownDomain s) x.ch.fn x.in0 with
    | .error st => complete (failLink chain link st s)
    | .ok k =>
      if refLen x.l.out < k.key.length then complete (failLink chain link 0x0220 s)
      else complete (doneLink chain link none k.key (some (k.attr, k.key.length)) s)

/-- The attribute word of the block that 0x108 makes: the X9.143 block's fields, the Chain's owner and epoch. -/
def convertedAttr (x : LinkCtx) (k : X9Key) : Nat :=
  wordOfAttr (ownedBy x.ch.fn
    { alg := k.alg, usage := k.usage, mode := k.mode, exp := k.exp, owner := 0, scope := 0, ctrEn := false,
      expire := false, persist := false, mark := 0, epoch := x.ch.epoch % 256, counter := 0 })

/-- Opcode 0x108 (R314); a block that may not be exported again gives 0x020A (R316). -/
def execX9143ToDomainBlock (chain link : Nat) (s : State) : Host.Outcome State Fault Refusal :=
  complete (runLink 0x108 chain link
    (fun x =>
      match x9Open x.key0 x.in0 with
      | .error st => .failed st
      | .ok k =>
        if k.exp = 0 then .failed 0x020A
        else
          let b := domainSeal x.key1.bytes x.r.nonce (ownDomain s) (convertedAttr x k) 0 k.key
          if b.length ≤ refLen x.l.out then .done b else .failed 0x0220) s)

/-- Opcode 0x110: the two-step derivation, with the role PARAM gives (R314, R315). -/
def execDeriveFromAgreementSecret (chain link : Nat) (s : State) : Host.Outcome State Fault Refusal :=
  complete (runKeyLink 0x110 chain link
    (fun x => .done (agreementKey x.in0 x.key0.bytes x.in1 (algKeyLen (bits x.p 0 5))))
    (fun x => x.p % 2 ^ 14) (fun _ out => out.length) s)

end Sys2Proof.Machine
end

