-- ==== Sys2Proof/Machine/FuseRows.lean ====
section
/-!
DEFINITION. The life cycle: the decode, transitions bit by bit, and the debug latch (R446 to R454).
-/
namespace Sys2Proof.Machine

/-! ### The decode (R446, R448) -/

/-- Bits of the life-cycle word that a state blows. -/
def stateBits : LifeCycle → List Nat
  | .test => (List.range 64).map fun i => 4 * i
  | .production => (List.range 128).map fun i => 2 * i
  | .endOfLife => List.range 256
  | .blank => []
  | .invalid => []

/-- The codeword of a state. -/
def codeword (st : LifeCycle) : Nat := ((stateBits st).map fun i => 2 ^ i).foldl (· + ·) 0

/-- Blown bits of the word. -/
def lifeWord (s : State) : Nat := s.life.bank0.toNat % 2 ^ 256

/-- Ones among the low 256 bits. -/
def weight (n : Nat) : Nat := ((List.range 256).filter fun i => bitOf n i).length

/-- The decode of a word: the state of the one codeword at distance 3 or less. -/
def decodeLife (w : Nat) : LifeCycle :=
  match [LifeCycle.blank, .test, .production, .endOfLife].find? fun st => decide (weight (w ^^^ codeword st) ≤ 3) with
  | some st => st
  | none => .invalid

/-- Rights of a state, most first; INVALID has the fewest. -/
def LifeCycle.rank : LifeCycle → Nat
  | .blank => 0 | .test => 1 | .production => 2 | .endOfLife => 3 | .invalid => 4

/-- The decoded state with the fewer rights (R438). -/
def lesserState (a b : LifeCycle) : LifeCycle := if a.rank ≥ b.rank then a else b

/-- A state of a number. -/
def lifeOfRank (n : Nat) : LifeCycle :=
  match n with
  | 0 => .blank | 1 => .test | 2 => .production | 3 => .endOfLife | _ => .invalid

/-- What a second decode gives that disagrees with the first: no rule gives which (assumption 23). -/
def otherDecode (s : State) : LifeCycle × State :=
  let (n, s) := takeFree s
  (lifeOfRank ((Config.freeBits n).toNat % 5), s)

/-- First bit of a state's intent field within bank 0. -/
def intentBase : LifeCycle → Nat
  | .test => 256
  | .production => 264
  | _ => 272

/-- An intent field reads as blown (R448). -/
def intentBlown (s : State) (st : LifeCycle) : Bool :=
  decide (((List.range 8).filter fun i => s.life.bank0.getLsbD (intentBase st + i)).length ≥ 5)

/-- The highest-ranked target whose intent reads blown. -/
def recordedIntent (s : State) : Option LifeCycle :=
  [LifeCycle.endOfLife, .production, .test].find? fun st => intentBlown s st

/-! ### Transitions (R447, R449) -/

/-- The state that a written value names. -/
def targetOf (v : Nat) : Option LifeCycle :=
  match v with
  | 1 => some .test
  | 2 => some .production
  | 3 => some .endOfLife
  | _ => none

/-- The transitions of R447, through the debug port or a custody session. -/
def permittedTransition (s : State) (port : Bool) (t : LifeCycle) : Bool :=
  match s.life.state, t with
  | .blank, .test => port
  | .blank, .endOfLife => port
  | .test, .endOfLife => true
  | .test, .production => true
  | .production, .endOfLife => !port
  | .invalid, t => !port && decide (recordedIntent s = some t)
  | _, _ => false

/-- What a request comes to, in the order of OD 0x1100:05. -/
def transitionResultOf (s : State) (port : Bool) (t : LifeCycle) : Nat :=
  if !permittedTransition s port t || s.life.transition.isSome || s.life.resetDue.isSome then 1
  else if s.modes.word.service then 2
  else if pairedNow s then 3
  else if s.sec.sticky ≠ 0 then 4
  else if evlogFull s then 5 else 0

/-- Bits to blow: the target's intent field, then the missing bits of L, ascending. -/
def bitsToBlow (s : State) (t : LifeCycle) : List Nat :=
  let intent := (List.range 8).map fun i => intentBase t + i
  (intent ++ stateBits t).filter fun i => !s.life.bank0.getLsbD i

/-- Keys are zeroised before a transition unless none can exist: BLANK to TEST (R447). -/
def zeroisesFirst (s : State) (t : LifeCycle) : Bool :=
  decide (t ≠ .test) || (decide (s.life.state ≠ .blank) && decide (s.life.state ≠ .invalid))

/-- The zeroisation of all keys, with its event (R317). -/
def zeroiseForCeremony (purpose : ErasePurpose) (source : Nat) (s : State) : State :=
  logEvent 0x0404 source ([2] ++ natLE 2 0) (zeroiseAll purpose s)

/-- The last bit has been dealt with: the word is decoded, and the second decode follows (R438, R449). -/
def decodeTransition (s : State) : State :=
  { s with tamper := { s.tamper with decisions := s.tamper.decisions ++ [(.lifeCycle, true)] } }

/-- Bits begin to be blown once the zeroisation has ended and power holds. -/
def startBlowing (s : State) : State :=
  match s.life.transition with
  | none => s
  | some t =>
    if t.bits.isEmpty then decodeTransition s
    else { s with life := { s.life with transition := some { t with running := !s.mram.pwrfail } } }

/-- An accepted transition begins. -/
def beginTransition (t : LifeCycle) (source : Nat) (s : State) : State :=
  let tr : Transition := { fromState := s.life.state, target := t, bits := bitsToBlow s t, attempts := 0, skipped := 0,
                           running := false, source := source }
  let first := zeroisesFirst s t
  let s := { s with life := { s.life with transition := some tr, transitionResult := 0xFF, skipped := 0 } }
  if first then zeroiseForCeremony .transition source s else startBlowing s

/-- A request to change the state, through either path. -/
def requestTransition (port : Bool) (source v : Nat) (s : State) : State :=
  match targetOf v with
  | none => s
  | some t =>
    let r := transitionResultOf s port t
    if r = 0 then beginTransition t source s else { s with life := { s.life with transitionResult := r } }

/-- LIFE_CYCLE_TRANSITION: from a custody session in ceremony 10, or through the debug port. -/
def execLifeCycleTransition (src : Src) (value : Bytes) (s : State) : Host.Outcome State Fault Refusal :=
  match src with
  | .debugPort => if portOpen s then complete (requestTransition true deviceSource (leNat value) s) else complete s
  | _ =>
    let act := fun (p : Path) (v : Bytes) (s : State) =>
      Answer.now 0 (requestTransition false (pathSource s p) (leNat v) s)
    complete (runWrite src 0x1100 0x04 value anyValue act s)

/-- A bit is done: the next starts unless PWRFAIL_N is asserted, or the decode follows the last. -/
def nextBit (t : Transition) (s : State) : State :=
  let t := { t with attempts := 0, running := !s.mram.pwrfail && !t.bits.isEmpty }
  let s := { s with life := { s.life with transition := some t } }
  if t.bits.isEmpty then decodeTransition s else s

/-- The fourth bit of one transition is skipped: the transition stops with a Fatal fault (R449). -/
def stopTransition (t : Transition) (s : State) : State :=
  let s := { s with life := { s.life with transition := none, transitionResult := 6, skipped := t.skipped } }
  raiseFatal 0x11 0x03 0 (natLE 1 t.skipped) s

/-- FUSE_BIT_BLOWN (R449): the bit in progress reads back blown, or is tried again, up to four attempts. -/
def execFuseBitBlown (readBack : Bool) (s : State) : Host.Outcome State Fault Refusal :=
  match s.life.transition with
  | none => complete s
  | some t =>
    match t.running, t.bits with
    | true, b :: rest =>
      if readBack then
        let bank := s.life.bank0 ||| BitVec.ofNat 280 (2 ^ b)
        complete (nextBit { t with bits := rest } { s with life := { s.life with bank0 := bank } })
      else if t.attempts + 1 < 4 then
        let t := { t with attempts := t.attempts + 1, running := !s.mram.pwrfail }
        complete { s with life := { s.life with transition := some t } }
      else
        let t := { t with bits := rest, skipped := t.skipped + 1 }
        let s := { s with life := { s.life with skipped := t.skipped } }
        if t.skipped = 4 then complete (stopTransition t s) else complete (nextBit t s)
    | _, _ => complete s

/-- Both decodes have been taken: `d` must be the target; the transition is recorded, and a warm reset follows 1 ms later. -/
def finishTransition (d : LifeCycle) (s : State) : State :=
  match s.life.transition with
  | none => s
  | some t =>
    let life := { s.life with transition := none, skipped := t.skipped }
    if d ≠ t.target then { s with life := { life with transitionResult := 6 } }
    else
      let s := { s with life := { life with transitionResult := 0, resetDue := some (s.disp.tick + 1000) } }
      endOwnCeremony 10 (logRequired 0x0308 t.source [byte t.fromState.code, byte t.target.code, byte t.skipped] s)

/-! ### The debug latch (R453, R454) -/

/-- The latch is open: it holds the open pattern. -/
def latchOpen (s : State) : Bool := decide (s.sec.latch = Config.openPattern)

/-- What a latch action comes to. -/
def latchResultOf (s : State) (opening : Bool) : Nat :=
  if s.life.state ≠ .production ∨ latchOpen s = opening ∨ s.life.resetDue.isSome = true ∨
      s.mram.erases.any (fun e => decide (e.purpose = .latch)) = true then 1
  else if s.modes.word.service then 2
  else if lockedNow s then 3
  else if evlogFull s then 4 else 0

/-- Steps 1 and 2: the Signet is released, the pair unbound, and every key zeroised. -/
def beginLatch (source : Nat) (s : State) : State :=
  let paired := pairedNow s
  let s := releaseSignet 3 source 0 s
  let s := if paired then sendControl 0x43 [4] s else s
  endSession (zeroiseForCeremony .latch source s)

/-- A latch action. -/
def latchAction (opening : Bool) (p : Path) (s : State) : Answer :=
  let r := latchResultOf s opening
  let s := { s with life := { s.life with latchResult := r } }
  if r = 0 then Answer.now 0 (beginLatch (pathSource s p) s) else Answer.now 0 s

/-- DEBUG_REOPEN. -/
def execDebugReopen (src : Src) (s : State) : Host.Outcome State Fault Refusal :=
  complete (runAction src 0x1100 0x06 1 (fun p s => latchAction true p s) s)

/-- DEBUG_CLOSE. -/
def execDebugClose (src : Src) (s : State) : Host.Outcome State Fault Refusal :=
  complete (runAction src 0x1100 0x06 2 (fun p s => latchAction false p s) s)

/-- Steps 3 to 5, once the store is erased: the latch changes, the change is recorded, and a warm reset follows. -/
def finishLatch (source : Nat) (s : State) : State :=
  let opening := !latchOpen s
  let sec := { s.sec with latch := if opening then Config.openPattern else 0,
                          reopenings := if opening then s.sec.reopenings + 1 else s.sec.reopenings }
  let s := { s with sec := sec, life := { s.life with resetDue := some (s.disp.tick + 1000) } }
  endOwnCeremony 5 (logRequired 0x0309 source [if opening then 1 else 2] s)

/-- POST_CEREMONY_RESET (R449, R454). -/
def execPostCeremonyReset (s : State) : Host.Outcome State Fault Refusal :=
  match s.life.resetDue with
  | some t => if s.disp.tick ≥ t then complete (applyWarmReset s) else complete s
  | none => complete s

end Sys2Proof.Machine
end

