-- ==== Sys2Proof/Machine/ImageOps.lean ====
section
/-!
DEFINITION. Firmware images: their layout in a slot's pages, the checks an image passes, and the boot selector (R413 to R417).
-/
namespace Sys2Proof.Machine

/-! ### The bytes of an image (R413, R414) -/

/-- The first `n` bytes of the image in a slot. -/
def imageBytes (s : State) (slot n : Nat) : Bytes :=
  ((List.range (ceilDiv n 504)).flatMap fun p => readPage s (imageStore slot) p).take n

/-- IMAGE_LEN as the header holds it, bounded by what a slot can hold. -/
def imageLen (s : State) (slot : Nat) : Nat := leNat (slice 8 4 (readPage s (imageStore slot) 0))

/-- Bounds of IMAGE_LEN. -/
def imageMin : Nat := 8448
def imageMax : Nat := 8257536

/-- The image of a slot; empty when its header gives no length. -/
def slotImage (s : State) (slot : Nat) : Bytes :=
  let n := imageLen s slot
  if imageMin ≤ n ∧ n ≤ imageMax then imageBytes s slot n else []

/-- Fields of the signed block. -/
def signedBlock (img : Bytes) : Bytes := slice 16 128 img
def imageVersionOf (img : Bytes) : Nat := leNat (slice 16 8 img)
def securityOf (img : Bytes) : Nat := (img.getD 24 0).toNat
def gradesOf (img : Bytes) : Nat := (img.getD 25 0).toNat
def lifeMaskOf (img : Bytes) : Nat := (img.getD 26 0).toNat

/-- Every byte of a range is zero. -/
def zeroRange (img : Bytes) (lo hi : Nat) : Bool := (slice lo (hi - lo) img).all fun b => b == 0

/-- A directory entry: TYPE, OFFSET, LENGTH, and whether its zero bytes are zero. -/
structure Section where
  type : Nat
  offset : Nat
  len : Nat
  clean : Bool
  deriving DecidableEq, Repr

/-- The sections of an image. -/
def sectionsOf (img : Bytes) : List Section :=
  (List.range 16).map fun i =>
    let e := slice (8192 + 16 * i) 16 img
    { type := leNat (e.take 2), offset := leNat (slice 4 4 e), len := leNat (slice 8 4 e),
      clean := zeroRange e 2 4 && zeroRange e 12 16 }

/-- An entry is well formed by itself. -/
def sectionFits (n : Nat) (x : Section) : Bool :=
  x.clean && match x.type with
    | 0 => decide (x.offset = 0) && decide (x.len = 0)
    | 1 => decide (x.len ≤ 131072) && decide (imageMin ≤ x.offset) && decide (x.offset + x.len ≤ n)
    | 2 => decide (imageMin ≤ x.offset) && decide (x.offset + x.len ≤ n)
    | 3 => decide (imageMin ≤ x.offset) && decide (x.offset + x.len ≤ n)
    | _ => false

/-- Two sections share no byte. -/
def sectionsApart (a b : Section) : Bool := decide (a.offset + a.len ≤ b.offset) || decide (b.offset + b.len ≤ a.offset)

/-- No two sections of a list overlap. -/
def allApart : List Section → Bool
  | [] => true
  | a :: t => t.all (sectionsApart a) && allApart t

/-- The directory meets R414. -/
def directoryFits (img : Bytes) : Bool :=
  let used := (sectionsOf img).filter fun x => decide (x.type ≠ 0)
  (sectionsOf img).all (sectionFits img.length) && allApart used &&
    decide ((used.filter fun x => decide (x.type = 1)).length = 1) &&
    decide ((used.filter fun x => decide (x.type = 2)).length = 1)

/-- The bytes of the section of a type. -/
def sectionBytes (img : Bytes) (type : Nat) : Bytes :=
  match (sectionsOf img).find? fun x => decide (x.type = type) with
  | some x => slice x.offset x.len img
  | none => []

/-- The MRAM controller writes the Fife firmware region of core `k` (R371, R390): each of its pages that the tables let it reach. -/
def loadCore (code : Bytes) (k : Nat) (s : State) : State :=
  let base := 0x40000 * k
  let pages := (transfers (0x30000000 + base) 0x20000).map (·.1)
  let bad := refusedAt s mramMaster 1 pages
  if bad = [] then { s with scratch := Memory.writeN (Memory.clear s.scratch base 0x20000) base code }
  else
    let store := fun (s : State) (a : Nat) =>
      let at_ := a - 0x30000000
      { s with scratch := Memory.writeN s.scratch at_ (padTo 4096 (slice (at_ - base) 4096 code)) }
    refuseAll mramMaster 1 bad ((pages.filter fun a => !bad.contains a).foldl store s)

/-- The firmware region of a core is loaded again from the active image (R370, cause 0x06). -/
def reloadFirmware (k : Nat) (s : State) : State := loadCore (sectionBytes (slotImage s s.mram.active) 1) k s

/-- Check 1: header, reserved bytes and directory. -/
def headerFits (img : Bytes) : Bool :=
  decide (img.length ≥ imageMin) && decide (img.take 4 = ascii "SKFW") && decide (leNat (slice 4 2 img) = 1) &&
    zeroRange img 6 8 && zeroRange img 12 16 && zeroRange img 27 32 && zeroRange img 80 144 && zeroRange img 144 256 &&
    zeroRange img 353 384 && zeroRange img 480 512 && zeroRange img 7731 8192 && directoryFits img

/-! ### The checks (R415) -/

/-- Check 5. -/
def ecdsaAccepts (img : Bytes) : Bool :=
  match ecdsaVerifyOp p384 (sha384 (signedBlock img)) (slice 384 96 img) (slice 256 97 img) with
  | .verified ok _ _ => ok
  | _ => false

/-- Check 6. -/
def mldsaAccepts (img : Bytes) : Bool :=
  dsaVerify (dsaParams 2) (slice 512 2592 img) (ascii "SKETO-FW") (signedBlock img) (slice 3104 4627 img)

/-- Bit of LC_MASK that names the part's state; an INVALID part boots whatever state the mask names (assumption 25). -/
def lifePermitted (s : State) (img : Bytes) : Bool :=
  match s.life.state with
  | .test => bitOf (lifeMaskOf img) 0
  | .production => bitOf (lifeMaskOf img) 1
  | .endOfLife => bitOf (lifeMaskOf img) 2
  | .blank => false
  | .invalid => true

/-- The first check that fails, 0 when all pass. -/
def imageCheck (s : State) (img : Bytes) : Nat :=
  if !headerFits img then 1
  else if sha384 (slice 256 97 img) ≠ s.fuses.ecdsaDigest then 2
  else if sha384 (slice 512 2592 img) ≠ s.fuses.mldsaDigest then 3
  else if slice 32 48 img ≠ sha384 (img.drop 8192) then 4
  else if !ecdsaAccepts img then 5
  else if !mldsaAccepts img then 6
  else if securityOf img < fusedVersion s then 7
  else if !bitOf (gradesOf img) (byGrade s 0 1 2) then 8
  else if !lifePermitted s img then 9 else 0

/-- The image in a slot: the first check that fails. -/
def slotCheckCode (s : State) (slot : Nat) : Nat := imageCheck s (slotImage s slot)

/-- The first of the two decisions on each signature that a check of `code` has come to (R415, R438). -/
def signatureDecisions (staged : Bool) (code : Nat) : List (Decision × Bool) :=
  if code ≠ 0 ∧ code < 5 then []
  else if code = 5 then [(.signature staged, false)]
  else [(.signature staged, true), (.signature staged, decide (code ≠ 6))]

/-! ### The boot selector (R417) -/

/-- Payload of the selector. -/
def selectorPayload (s : State) : Bytes :=
  padTo 504 (natLE 8 s.mram.bootCounter.toNat ++ [byte s.mram.active, byte s.mram.pendingSlot])

/-- Queues the selector as it stands. -/
def writeSelector (s : State) : State := queuePage 1 .config 0 (selectorPayload s) s

end Sys2Proof.Machine
end

