-- ==== Sys2Proof/Machine/SlotActions.lean ====
section
/-!
DEFINITION. Working-slot actions, zeroisation, floors, re-masking and the device root (R291, R296, R300, R303, R304, R317,
R320).
-/
namespace Sys2Proof.Machine

/-! ### OD 0x3001 (R320) -/

/-- The slot that a function has selected. -/
def selectedSlot (s : State) (fn : Nat) : Nat := (SMap.get { slot := 0, result := 0 } s.keys.selects fn).slot

/-- The result of a function's slot action is shown. -/
def slotResult (fn r : Nat) (s : State) : State :=
  let d : SlotSelect := { slot := 0, result := 0 }
  { s with keys := { s.keys with selects := SMap.modify d s.keys.selects fn fun x => { x with result := r } } }

/-- The function of a path; the custody path reaches no slot record. -/
def pathFn : Path → Nat
  | .mailbox fn => fn
  | .custody => 0

/-- A function reaches a slot: the manager any, a tenant its own and the EMPTY slots of its range. -/
def reachesSlot (s : State) (fn n : Nat) : Bool :=
  let sl := getSlot s n
  decide (n < slotCount s) &&
    (decide (fn = 0) || (decide (sl.state ≠ .empty) && decide (slotOwner sl = fn)) ||
      (decide (sl.state = .empty) && inSlotRange s fn n))

/-- Result of a slot action that needs a state and, for staging, a settled slot: the first condition that fails. -/
def slotActionResult (s : State) (fn n : Nat) (needs : List SlotState) (stage : Bool) : Nat :=
  let sl := getSlot s n
  if lockedNow s || evlogFull s || standbyNow s then 5
  else if !reachesSlot s fn n then 1
  else if needs.contains sl.state = false ∨ (stage ∧ (attrOfWord sl.attr).mark ≠ 0) then 4
  else if lockedByOther s (functionTag fn) n then 2
  else if stage ∧ s.keys.staging.length ≥ 1024 then 3 else 0

/-- A slot is zeroised by an action: its entry is deleted, and the change replicated. -/
def zeroiseByAction (n : Nat) (s : State) : Answer :=
  let (ps, s) := zeroiseSlot n s
  let (rs, s) := replicate 0x02 (natLE 4 n ++ zeros 8 ++ [0]) s
  { Answer.now 0 s with pages := ps.map fun q => (Store.keys, q), records := rs }

/-- Runs a slot action. -/
def slotAction (p : Path) (needs : List SlotState) (stage : Bool) (f : Nat → State → Answer) (s : State) : Answer :=
  let fn := pathFn p
  let n := selectedSlot s fn
  let r := slotActionResult s fn n needs stage
  if r ≠ 0 then Answer.now 0 (slotResult fn r s) else f n (slotResult fn 0 s)

/-- SLOT_DELETE_NOW (R291): it clears a VALID slot, and a BAD one too. -/
def execSlotDeleteNow (src : Src) (s : State) : Host.Outcome State Fault Refusal :=
  complete (runAction src 0x3001 0x05 1 (fun p s => slotAction p [.valid, .bad] false zeroiseByAction s) s)

/-- A settled slot is marked as leaving (R300). -/
def stageDelete (n : Nat) (s : State) : Answer :=
  let attr := withMark (getSlot s n).attr 2 s.epochs.current.toNat
  let s := setSlotAttr n attr s
  let s := { s with keys := { s.keys with staging := s.keys.staging ++ [n] } }
  let (rs, s) := replicate 0x02 (natLE 4 n ++ natLE 8 attr ++ [1]) s
  { Answer.now 0 s with records := rs }

/-- SLOT_STAGE_DELETE (R300). -/
def execSlotStageDelete (src : Src) (s : State) : Host.Outcome State Fault Refusal :=
  complete (runAction src 0x3001 0x05 2 (fun p s => slotAction p [.valid] true stageDelete s) s)

/-- SLOT_ZEROISE_BAD (R291). -/
def execSlotZeroiseBad (src : Src) (s : State) : Host.Outcome State Fault Refusal :=
  complete (runAction src 0x3001 0x05 3 (fun p s => slotAction p [.bad] false zeroiseByAction s) s)

/-! ### Zeroisation (R317) -/

/-- The result of OD 0x3000:0B is shown. -/
def zeroiseResult (r : Nat) (s : State) : State := { s with keys := { s.keys with zeroiseResult := r } }

/-- Every working slot is cleared on both parts of a pair. -/
def zeroiseWorking (s : State) : State :=
  let numbers := s.keys.slots.map (·.1)
  let s := clearWorkingSlots s
  numbers.foldl (fun s n => (replicate 0x02 (natLE 4 n ++ zeros 8 ++ [0]) s).2) s

/-- ZEROISE_WORKING_SLOTS: refused while SERVICE is set; persistent entries stay. -/
def execZeroiseWorkingSlots (src : Src) (s : State) : Host.Outcome State Fault Refusal :=
  let act := fun (p : Path) (s : State) =>
    if s.modes.word.service then Answer.now 0 (zeroiseResult 1 s)
    else
      let s := zeroiseResult 0 (zeroiseWorking s)
      Answer.recorded 0 (endCeremony 1 (logRequired 0x0404 (pathSource s p) ([1] ++ natLE 2 0) s))
  complete (runAction src 0x3000 0x0B 1 act s)

/-- ZEROISE_ALL_KEYS: working slots and vault at once, then the persistent store page by page. -/
def execZeroiseAllKeys (src : Src) (s : State) : Host.Outcome State Fault Refusal :=
  let act := fun (p : Path) (s : State) =>
    if s.modes.word.service then Answer.now 0 (zeroiseResult 1 s)
    else
      let s := endSession (zeroiseAll .zeroise (zeroiseResult 0 s))
      Answer.recorded 0 (endCeremony 1 (logRequired 0x0404 (pathSource s p) ([2] ++ natLE 2 0) s))
  complete (runAction src 0x3000 0x0B 2 act s)

/-! ### Floors (R296) -/

/-- A counted, persistent slot whose counter has come down to a quarter granule above its floor. -/
def floorDue (s : State) (n : Nat) : Bool :=
  let sl := getSlot s n
  let a := attrOfWord sl.attr
  match entryOf s n with
  | some (_, f) => decide (sl.state = .valid) && a.ctrEn && a.persist && decide (0 < f) &&
      decide (a.counter - f ≤ s.keys.granule / 4) && !s.keys.floorWrites.any fun w => decide (w.slot = n)
  | none => false

/-- The entry is sealed again with the new floor and queued; the old floor stands until the page is valid. -/
def startFloor (n : Nat) (s : State) : State :=
  match entryOf s n with
  | none => s
  | some (e, f) =>
    let attr := (getSlot s n).attr
    let new := floorFor s attr
    match writeEntry 4 e n attr new (getSlot s n).key s with
    | none => s
    | some s =>
      let w : FloorWrite := { slot := n, floor := new, page := e / 4 }
      { s with keys := { s.keys with entries := SMap.put s.keys.entries e (n, f), floorWrites := s.keys.floorWrites ++ [w] } }

/-- FLOOR_WRITE (R296). -/
def execFloorWrite (slot : Nat) (s : State) : Host.Outcome State Fault Refusal :=
  if floorDue s slot then complete (startFloor slot s) else complete s

/-- Floors whose page has become valid take effect. -/
def floorsDurable (page : Nat) (s : State) : State :=
  let done := s.keys.floorWrites.filter fun w => decide (w.page = page)
  let take := fun (m : SMap (Nat × Nat)) (w : FloorWrite) =>
    SMap.mapValues m fun _ x => if x.1 = w.slot then (x.1, w.floor) else x
  { s with keys := { s.keys with entries := done.foldl take s.keys.entries
                                 floorWrites := s.keys.floorWrites.filter fun w => decide (w.page ≠ page) } }

/-! ### The vault and the root (R303, R304) -/

/-- One slot is re-masked: its value stays. -/
def remask (r : Bytes) (v : VaultSlot) : VaultSlot :=
  { v with v := xorBytes v.v (padTo v.v.length r), m := xorBytes v.m (padTo v.m.length r) }

/-- The value of a cycle for slot `n`: two blocks of the expander. -/
def maskOf (s : State) (n : Nat) : Bytes := padTo 32 (Config.expander s.keys.expanderSeed (s.keys.expanderCount + 2 * n))

/-- V and M of an EMPTY slot after a cycle. -/
def remaskEmpty (s : State) (n : Nat) : Bytes := xorBytes (SMap.get (zeros 32) s.keys.emptyMasks n) (maskOf s n)

/-- Every vault slot, the EMPTY ones too, is re-masked with a value of its own from the expander. -/
def remaskAll (s : State) : State :=
  let vault := SMap.mapValues s.keys.vault fun n v => remask (maskOf s n) v
  let empty := ((List.range 256).filter fun n => (vaultSlot s n).isNone).map fun n => (n, remaskEmpty s n)
  { s with keys := { s.keys with vault := vault, emptyMasks := empty, expanderCount := s.keys.expanderCount + 512 } }

/-- The compute die gives the expander a fresh seed, when it is up and its generator can serve the draw (R303, R325, R339). -/
def reseedExpander (s : State) : State :=
  if computeUp s && reserveCovers s 16 then
    let (seed, s) := drawSystem 16 s
    { s with keys := { s.keys with expanderSeed := seed, expanderCount := 0 } }
  else s

/-- VAULT_REMASK_CYCLE (R303): one at each Device Time second. -/
def execVaultRemaskCycle (s : State) : Host.Outcome State Fault Refusal :=
  let now := s.sec.deviceTime.toNat
  if now % 32768 ≠ 0 ∨ s.keys.remaskedAt = some now then complete s
  else
    let s := remaskAll (reseedExpander s)
    complete { s with keys := { s.keys with remaskCycles := s.keys.remaskCycles + 1, remaskedAt := some now } }

/-- ROOT_RECONSTRUCT (R304): main power is present, and no source has been live for 1 ms. -/
def execRootReconstruct (s : State) : Host.Outcome State Fault Refusal :=
  if s.keys.rootPending && computeUp s && decide (s.tamper.live = 0) && decide (s.tamper.quietFor ≥ 1000) then
    complete { s with keys := { s.keys with rootHeld := true, rootPending := false } }
  else complete s

end Sys2Proof.Machine
end

