-- ==== Sys2Proof/Machine/PageWrites.lean ====
section
/-!
DEFINITION. The end of a page write, its retry and its spare, and the power-failure warning (R400, R405 to R407, R411, R418,
R475, R524).
-/
namespace Sys2Proof.Machine

/-! ### What waits for a page -/

/-- No page of a store waits. -/
def storeQuiet (s : State) (st : Store) : Bool :=
  !(s.mram.queue.any fun w => decide (w.store = st)) && match s.mram.current with
    | some w => decide (w.store ≠ st)
    | none => true

/-- What a durable page of the certificates and configuration region sets going: the boot counter of this boot, the
configuration set, the board data (R418, R524, R530). -/
def configDurable (w : PageWrite) (s : State) : State :=
  if w.page = 0 then
    if s.boot.phase = .seeding then { s with boot := { s.boot with counterDurable := true } } else s
  else if w.page = configPage then if mailServed s then takeConfig s else s
  else if w.page = 132 then { s with dict := { s.dict with board := w.payload.take 64 } }
  else s

/-- What a durable page sets going. -/
def pageDurable (w : PageWrite) (s : State) : State :=
  match w.store with
  | .config => configDurable w s
  | .keys => floorsDurable w.page s
  | .log => if storeQuiet s .log then { s with log := { s.log with inFlight := 0 } } else s
  | .locket => if s.boot.phase = .inReset then s else recordDurable w s
  | _ => s

/-! ### Failed read-backs (R407) -/

/-- Spare pages (R398). -/
def spareCount : Nat := 4095

/-- A page of the replacement map. -/
def isMapPage (w : PageWrite) : Bool := decide (w.store = .config) && decide (1 ≤ w.page) && decide (w.page ≤ 65)

/-- No spare remains, or a page of the map fails: the write is given up, answers that wait for it are never given, and a
Locket record stays pending (R407, R425). -/
def giveUpWrite (w : PageWrite) (s : State) : State :=
  let held := s.dict.held.filter fun h => !h.pages.contains (w.store, w.page)
  let s := { s with mram := { s.mram with current := none }, dict := { s.dict with held := held } }
  let s := if w.store = .locket ∧ (w.payload.getD 1 0).toNat = 1 then
      { s with locket := { s.locket with pendingRecord := some (w.payload.take 160), recordQueued := false } }
    else s
  raiseFatal 0x0D 4 0 (natLE 1 w.store.number ++ natLE 4 w.page) s

/-- The lowest unused spare takes the place of a failed page, and the map records it. -/
def takeSpare (w : PageWrite) (p : Nat) (s : State) : State :=
  let spare := s.mram.replaced.length
  if isMapPage w || decide (spare ≥ spareCount) then giveUpWrite w s
  else
    let s := { s with mram := { s.mram with replaced := SMap.put s.mram.replaced p spare,
                                            current := some { w with retried := false } } }
    let q := 1 + spare / 63
    let s := queuePage 1 .config q (overlay (8 * (spare % 63)) (natLE 8 p) (latestPage s .config q)) s
    containFault 0x0D 3 0 (natLE 4 p ++ natLE 2 spare) [] id s

/-- PAGE_WRITE_DURABLE (R400): the write in progress has been read back, and passes or fails. -/
def execPageWriteDurable (readBack : Bool) (s : State) : Host.Outcome State Fault Refusal :=
  match s.mram.current with
  | none => complete s
  | some w =>
    let t := updateTarget s w
    let p := physical s t.1
    if readBack then
      let g := writtenPage p t.2 w.payload
      let s := { s with mram := { s.mram with pages := SMap.set Page.blank s.mram.pages p g, current := none,
                                              writes := s.mram.writes + 1 } }
      complete (closeAfterReply (pageDurable w s))
    else if w.retried then complete (takeSpare w p s)
    else complete { s with mram := { s.mram with current := some { w with retried := true } } }

/-! ### Power failure warning (R411) -/

/-- PWRFAIL_ASSERT: no page write, erase or fuse bit starts any more; what is in progress completes. -/
def execPwrfailAssert (s : State) : Host.Outcome State Fault Refusal :=
  complete { s with mram := { s.mram with pwrfail := true } }

/-- The fuse bits of a transition go on, once the zeroisation ahead of them has ended (R449). -/
def resumeTransition (s : State) : State :=
  match s.life.transition with
  | none => s
  | some t =>
    let waits := s.mram.erases.any fun e => decide (e.purpose = .transition)
    { s with life := { s.life with transition := some { t with running := !t.bits.isEmpty && !waits } } }

/-- PWRFAIL_DEASSERT: queued writes and fuse bits start. -/
def execPwrfailDeassert (s : State) : Host.Outcome State Fault Refusal :=
  complete (resumeTransition { s with mram := { s.mram with pwrfail := false } })

end Sys2Proof.Machine
end

