-- ==== Sys2Proof/Machine/ImageRows.lean ====
section
/-!
DEFINITION. Staging, verification and activation of firmware images, and the advance of the security version (R416, R421 to
R423, R522).
-/
namespace Sys2Proof.Machine

/-! ### The staging of an image -/

/-- State of the inactive slot. -/
def inactiveState (s : State) : Nat := imageState s (inactiveSlot s)

/-- A staging or verification is under way. -/
def stagingRuns (s : State) : Bool := decide (inactiveState s = slotStaging) || decide (inactiveState s = slotVerifying)

/-- A staging under way belongs to another path (R522). -/
def otherPath (s : State) (p : Path) : Bool := stagingRuns s && decide (s.images.byPath ≠ pathKey p)

/-- The staging timer starts afresh (R421). -/
def restartTimer (s : State) : State :=
  { s with images := { s.images with stageDue := some (s.disp.tick + s.images.timeout) } }

/-- The result of a stage action is shown. -/
def stageResult (r : Nat) (s : State) : State := { s with images := { s.images with stageResult := r } }

/-- What a begin action comes to: 0x11 while LOCKED, 0x10 in another wrong state or with no length in range (R421, R422). -/
def beginResult (s : State) : Nat :=
  if lockedNow s then 0x11
  else if stagingRuns s || decide (inactiveState s = slotActive) || decide (s.images.stageLen < imageMin) ||
      !(decide (s.life.state = .test) || decide (s.life.state = .production)) then 0x10 else 0

/-- The slot becomes STAGING: its page 0 is erased, and PENDING no longer names it. -/
def beginStaging (p : Path) (dma : Bool) (s : State) : State :=
  let slot := inactiveSlot s
  let s := setImageState slot slotStaging (eraseImageHead slot s)
  let s := { s with images := { s.images with byPath := pathKey p, dma := dma, chunks := [], inactiveVersion := 0,
                                              stageResult := 0, imageLen := s.images.stageLen,
                                              imageAddr := s.images.stageAddr } }
  let s := if s.mram.pendingSlot = slot then writeSelector { s with mram := { s.mram with pendingSlot := 0xFF } } else s
  restartTimer s

/-- Bytes that one read of an image asks for (R231). -/
def dmaChunk : Nat := 4096

/-- The read of image data from an offset on. -/
def readImage (off : Nat) (s : State) : State :=
  if off ≥ s.images.imageLen then s
  else requestRead (.image off) 0 (s.images.imageAddr + off) (min dmaChunk (s.images.imageLen - off)) s

/-- STAGE_BEGIN_DMA (R422). -/
def execStageBeginDma (src : Src) (s : State) : Host.Outcome State Fault Refusal :=
  let act := fun (p : Path) (s : State) =>
    if otherPath s p then Answer.now 0x06 s
    else
      let r := beginResult s
      if r ≠ 0 then Answer.now 0 (stageResult r s) else Answer.now 0 (readImage 0 (beginStaging p true s))
  complete (runAction src 0x9000 0x07 1 act s)

/-- STAGE_BEGIN_CHUNKS (R422). -/
def execStageBeginChunks (src : Src) (s : State) : Host.Outcome State Fault Refusal :=
  let act := fun (p : Path) (s : State) =>
    if otherPath s p then Answer.now 0x06 s
    else
      let r := beginResult s
      if r ≠ 0 then Answer.now 0 (stageResult r s) else Answer.now 0 (beginStaging p false s)
  complete (runAction src 0x9000 0x07 2 act s)

/-! ### Image bytes and their pages (R422) -/

/-- A received byte of the image, the latest that covers its offset. -/
def stagedByte (s : State) (off : Nat) : Option Byte :=
  match s.images.chunks.find? fun c => decide (c.1 ≤ off) && decide (off < c.1 + c.2.length) with
  | some c => c.2[off - c.1]?
  | none => none

/-- Bytes of the image that fall into page `p`. -/
def pageSpan (s : State) (p : Nat) : Nat := min 504 (s.images.imageLen - 504 * p)

/-- The payload of page `p` once its bytes are complete. -/
def stagedPage (s : State) (p : Nat) : Option Bytes := (List.range (pageSpan s p)).mapM fun j => stagedByte s (504 * p + j)

/-- Pages of the image. -/
def stagedPages (s : State) : Nat := ceilDiv s.images.imageLen 504

/-- Image bytes arrive: pages they complete are written, at the lowest priority. -/
def stageBytes (off : Nat) (data : Bytes) (s : State) : State :=
  let s := { s with images := { s.images with chunks := (off, data) :: s.images.chunks } }
  let first := off / 504
  let last := (off + data.length - 1) / 504
  let write := fun (s : State) (i : Nat) =>
    let p := first + i
    match stagedPage s p with
    | some b => queuePage 7 (imageStore (inactiveSlot s)) p b s
    | none => s
  restartTimer ((List.range (last + 1 - first)).foldl write s)

/-- STAGE_CHUNK (R422): a chunk beyond the IMAGE_LEN the begin action took (R521) is refused. -/
def execStageChunk (src : Src) (value : Bytes) (s : State) : Host.Outcome State Fault Refusal :=
  let act := fun (p : Path) (v : Bytes) (s : State) =>
    let off := leNat (v.take 4)
    let data := v.drop 4
    if otherPath s p then Answer.now 0x06 s
    else if inactiveState s ≠ slotStaging ∨ s.images.dma then Answer.now 0x04 s
    else if off + data.length > s.images.imageLen then Answer.now 0x05 s
    else Answer.now 0 (stageBytes off data s)
  complete (runWrite src 0x9000 0x08 value anyValue act s)

/-- STAGE_DMA_DATA (R422, R252): a read that fails ends the staging with the DMA error. -/
def execStageDmaData (ident : Nat) (answer : ReadAnswer) (s : State) : Host.Outcome State Fault Refusal :=
  match findRead s ident with
  | none => complete s
  | some r =>
    match r.kind with
    | .image off =>
      let s := dropRead ident s
      if inactiveState s ≠ slotStaging then complete s
      else
        match answer with
        | .data bytes =>
          let s := stageBytes off (padTo r.len bytes) s
          complete (readImage (off + r.len) s)
        | _ => complete (failRead r 3 s)
    | _ => complete s

/-! ### Verification (R415, R421, R438) -/

/-- Every page up to IMAGE_LEN has been written. -/
def stageWritten (s : State) : Bool :=
  (List.range (stagedPages s)).all fun p =>
    (stagedPage s p).isSome && !pageWaiting s (imageStore (inactiveSlot s)) p

/-- STAGE_VERIFY. -/
def execStageVerify (src : Src) (s : State) : Host.Outcome State Fault Refusal :=
  let act := fun (p : Path) (s : State) =>
    let slot := inactiveSlot s
    let st := inactiveState s
    if otherPath s p then Answer.now 0x06 s
    else if lockedNow s then Answer.now 0 (stageResult 0x11 s)
    else if (st = slotStaging ∧ stageWritten s = true) ∨ st = slotWritten then
      let s := setImageState slot slotVerifying { s with images := { s.images with byPath := pathKey p, stageResult := 0 } }
      -- the timer of a staging runs on; the verification of a slot left WRITTEN starts one (assumption 58)
      Answer.now 0 (if s.images.stageDue.isNone then restartTimer s else s)
    else Answer.now 0 (stageResult 0x10 s)
  complete (runAction src 0x9000 0x07 3 act s)

/-- The checks of a staged image have ended; in recovery an image that passes them all becomes PENDING (R419, R421). -/
def finishStaged (code : Nat) (s : State) : State :=
  let slot := inactiveSlot s
  if code ≠ 0 then endStaging slotRejected code s
  else
    let s := endStaging slotVerified 0 s
    let s := { s with images := { s.images with inactiveVersion := imageVersionOf (slotImage s slot) } }
    if s.boot.phase = .recovery then writeSelector { s with mram := { s.mram with pendingSlot := slot } } else s

/-- Decisions of one kind on signatures that wait for their second. -/
def signaturesOpen (s : State) (staged : Bool) : Bool :=
  s.tamper.decisions.any fun d => decide (d.1 = .signature staged)

/-- STAGE_VERIFICATION_END: an image that reaches the signatures waits for the second decisions on them. -/
def execStageVerificationEnd (s : State) : Host.Outcome State Fault Refusal :=
  if inactiveState s ≠ slotVerifying ∨ signaturesOpen s true then complete s
  else
    let code := slotCheckCode s (inactiveSlot s)
    let ds := signatureDecisions true code
    if ds.isEmpty then complete (finishStaged code s)
    else complete (drawDelays ds.length { s with tamper := { s.tamper with decisions := s.tamper.decisions ++ ds } })

/-- STAGE_ABANDON: an abandon from another path than the staging's is refused (R522). -/
def execStageAbandon (src : Src) (s : State) : Host.Outcome State Fault Refusal :=
  let act := fun (p : Path) (s : State) =>
    if otherPath s p then Answer.now 0x06 s
    else if stagingRuns s then Answer.now 0 (endStaging slotEmpty 0 s)
    else Answer.now 0 (stageResult 0x10 s)
  complete (runAction src 0x9000 0x07 4 act s)

/-- STAGING_TIMEOUT. -/
def execStagingTimeout (s : State) : Host.Outcome State Fault Refusal :=
  match s.images.stageDue with
  | some due => if stagingRuns s && decide (s.disp.tick ≥ due) then complete (endStaging slotEmpty 0x12 s) else complete s
  | none => complete s

/-! ### Activation and the security version (R416, R423) -/

/-- What an activation comes to. -/
def activationResult (s : State) : Nat :=
  if inactiveState s ≠ slotVerified then 1
  else if updateNow s then 2
  else if evlogFull s || locketFull s then 3
  else if lockedNow s then 4 else 0

/-- ACTIVATE (R423). -/
def execActivate (src : Src) (s : State) : Host.Outcome State Fault Refusal :=
  let act := fun (_ : Path) (s : State) =>
    let r := activationResult s
    let s := { s with images := { s.images with activationResult := r } }
    if r ≠ 0 then Answer.now 0 s
    else
      let s := writeSelector { s with mram := { s.mram with pendingSlot := inactiveSlot s } }
      { Answer.recorded 0 (endOwnCeremony 8 s) with pages := [(.config, 0)] }
  complete (runAction src 0x9000 0x0F 1 act s)

/-- The boot record of this boot is durable (R2, R416). -/
def recordIsDurable (s : State) : Bool := s.locket.recordQueued && storeQuiet s .locket

/-- SECURITY_VERSION_ADVANCE (R416): the next bit has been blown and read back. -/
def execSecurityVersionAdvance (readBack : Bool) (s : State) : Host.Outcome State Fault Refusal :=
  let at_ := s.life.advance.getD (fusedVersion s, fusedVersion s)
  if !recordIsDurable s || s.boot.advanced || s.mram.pwrfail || decide (at_.1 ≥ s.boot.imageSecurity) ||
      decide (s.boot.imageSecurity > 64) then complete s
  else
    let ver := if readBack then s.life.secver ||| BitVec.ofNat 64 (2 ^ at_.1) else s.life.secver
    let s := { s with life := { s.life with secver := ver, advance := some (at_.1 + 1, at_.2) } }
    if at_.1 + 1 < s.boot.imageSecurity then complete s
    else
      let s := { s with life := { s.life with advance := none }, boot := { s.boot with advanced := true } }
      complete (logEvent 0x0504 deviceSource [byte at_.2, byte (fusedVersion s)] s)

end Sys2Proof.Machine
end

