-- ==== Sys2Proof/Machine/MemoryFaults.lean ====
section
/-!
DEFINITION. Errors that hardware reports of itself and the background test of the memories: rows of chapter 14, of R461
and of R473's tests (R142, R209, R291, R373, R374, R383 to R387, R465, R466).
-/
namespace Sys2Proof.Machine

/-! ### Errors in memories and datapaths (R209, R373, R374, R461) -/

/-- Memories, engines and lists hold something to fail: the part is out of reset. -/
def powered (s : State) : Bool := decide (s.boot.phase ≠ .inReset) && decide (s.boot.phase ≠ .released)

/-- An error in a core's firmware region: its unit reset loads the region again from the active image (R370). -/
def failFirmware (k : Nat) (s : State) : State := reloadFirmware k (failCore 6 k [byte k] s)

/-- ECC_UNCORRECTABLE (R374): by the memory in which it is found. -/
def execEccUncorrectable (site : FaultSite) (s : State) : Host.Outcome State Fault Refusal :=
  if !powered s then complete s
  else
    match site with
    | .chainMemory a => complete (raiseFatal 0x02 0x01 0 (natLE 8 a) s)
    | .ringContext a => complete (raiseFatal 0x0A 0x10 0 (natLE 8 a) s)
    | .keySlot n => complete (if n < slotCount s then markBad n 2 s else s)
    | .pke p => complete (if p < pkeCount s ∧ !isWithdrawn 6 p s then failPair false p 3 s else s)
    | .lattice p => complete (if p < latticeCount s ∧ !isWithdrawn 7 p s then failPair true p 3 s else s)
    | .scratchData k => complete (if k < coreCount s ∧ !isWithdrawn 9 k s then failCore 2 k [byte k] s else s)
    | .scratchFirmware k => complete (if k < coreCount s ∧ !isWithdrawn 9 k s then failFirmware k s else s)
    | .lane i => complete (if i < laneCount s ∧ !isWithdrawn 4 i s then defaultContained 4 1 i [] s else s)
    | .delayList => complete (raiseFatal 0x01 0x02 0 [] s)

/-- The Corrected causes of each unit (R209, R319, R370, R396, R429, R461, R505, R565). -/
def correctedCauses : List (Nat × Nat) :=
  [(1, 3), (2, 2), (3, 5), (4, 3), (5, 2), (6, 5), (7, 5), (9, 7), (0xA, 0x02), (0xA, 0x11), (0xB, 1), (0xC, 3), (0xD, 1)]

/-- The counter of OD 0x8000:09 that a Corrected cause advances. -/
def memoryOf (unit cause : Nat) : Option Nat :=
  match unit, cause with
  | 2, 2 => some 0
  | 3, 5 => some 1
  | 0xA, 0x11 => some 2
  | 6, 5 => some 3
  | 7, 5 => some 3
  | 9, 7 => some 4
  | _, _ => none

/-- SINGLE_BIT_ERROR (R373, R465): the error is corrected and counted; no unit is withdrawn, so `index` names none. -/
def execSingleBitError (unit cause _index : Nat) (s : State) : Host.Outcome State Fault Refusal :=
  if !powered s || !correctedCauses.contains (unit, cause) then complete s
  else
    let s := match memoryOf unit cause with
      | some m => { s with memTest := { s.memTest with
          corrected := setAt s.memTest.corrected m (s.memTest.corrected.getD m 0 + 1) } }
      | none => s
    let s := if unit = 0xD then { s with mram := { s.mram with corrected := s.mram.corrected + 1 } } else s
    complete (countCorrected (faultCode 1 unit cause) s)

/-- PARITY_ERROR (R209, R319, R429, R461, R505, R565): the fault that the unit's table defines. -/
def execParityError (unit cause index : Nat) (s : State) : Host.Outcome State Fault Refusal :=
  if !powered s then complete s
  else
    match unit, cause with
    | 0x01, 0x01 => complete (raiseFatal 0x01 0x01 0 [] s)
    | 0x03, 0x04 => complete (raiseFatal 0x03 0x04 0 [] s)
    | 0x0A, 0x01 => complete (raiseFatal 0x0A 0x01 0 [] s)
    | 0x0C, 0x04 => complete (raiseFatal 0x0C 0x04 0 [] s)
    | 0x0D, 0x06 => complete (raiseFatal 0x0D 0x06 0 [] s)
    | 0x04, 0x02 =>
      complete (if index < laneCount s ∧ !isWithdrawn 4 index s then defaultContained 4 2 index [] s else s)
    | 0x05, 0x01 =>
      complete (if index < hashCount s ∧ !isWithdrawn 5 index s then defaultContained 5 1 index [] s else s)
    | 0x0B, 0x05 =>
      complete (if isWithdrawn 0xB 0 s then s else containFault 0xB 5 0 [] [(0xB, 0)] (claspDown 4) s)
    | _, _ => complete s

/-! ### Tests after a unit reset (R142, R365, R473) -/

/-- A unit that has passed its test returns to service; a core starts at the reset vector. -/
def returnUnit (unit index : Nat) (s : State) : State :=
  let s := restoreUnit (unit, index) s
  if unit = 9 then modifyCore index (fun c => { c with halted := false, waitedAt := s.disp.tick }) s
  else if unit = 0xF then
    { s with energy := { s.energy with sensorsOut := s.energy.sensorsOut - (s.energy.sensorsOut &&& 2 ^ index)
                                       monitorOut := s.energy.monitorOut && decide (index ≠ 8) } }
  else s

/-- Units whose known-answer test has a Contained cause 0x04 of its own. -/
def testCauseUnits : List Nat := [4, 5, 6, 7, 0xB]

/-- KNOWN_ANSWER_TEST_END (R142, R473): of a unit that a record in clearing still tests. A unit that fails stays withdrawn
under a new record, with cause 0x04 where its unit has that cause, else with the cause of the record cleared. -/
def execKnownAnswerTestEnd (unit index : Nat) (passed : Bool) (s : State) : Host.Outcome State Fault Refusal :=
  match s.faults.records.find? fun r => decide (r.2.state = recClearing) && r.2.testing.contains (unit, index) with
  | none => complete s
  | some (e, r) =>
    let left := r.testing.filter fun u => decide (u ≠ (unit, index))
    let s := if left.isEmpty then freeRecord e s else putRecord e { r with testing := left } s
    if passed then complete (returnUnit unit index s)
    else
      let cause := if testCauseUnits.contains unit then 4 else r.code % 256
      complete (containFault unit cause index [] [(unit, index)] id s)

/-! ### The background test (R383 to R387) -/

/-- Regions of a test engine (R383). -/
def regionCount (s : State) (e : Nat) : Nat :=
  if e < 4 then poolSpan s / 16
  else
    match e with
    | 4 => slotCount s / 64
    | 5 => qpCount s / 64 + ((instCount s + 1) * 4352 + 4095) / 4096
    | 6 => 32 * (pkeCount s + latticeCount s)
    | _ => 64 * coreCount s

/-- Place of the engine's memory in OD 0x8000:04. -/
def memoryOfEngine (e : Nat) : Nat := if e < 4 then 0 else e - 3

/-- The pair that owns a region of engine 6: whether it is a lattice pair, and its number. -/
def pairOfRegion (s : State) (r : Nat) : Bool × Nat :=
  if r < 32 * pkeCount s then (false, r / 32) else (true, (r - 32 * pkeCount s) / 32)

/-- The unit that owns a region, and the first region past that unit's. -/
def regionOwner (s : State) (e r : Nat) : Option ((Nat × Nat) × Nat) :=
  match e with
  | 6 =>
    let p := pairOfRegion s r
    some ((if p.1 then 7 else 6, p.2), (r / 32 + 1) * 32)
  | 7 => some ((9, r / 64), (r / 64 + 1) * 64)
  | _ => none

/-- The next region to test: regions of a withdrawn unit are skipped until it returns. -/
def nextRegion (s : State) (e : Nat) : Nat → Nat → Option Nat
  | 0, _ => none
  | fuel + 1, r =>
    let r := if r < regionCount s e then r else 0
    match regionOwner s e r with
    | none => some r
    | some (u, after) => if isWithdrawn u.1 u.2 s then nextRegion s e fuel after else some r

/-- A PKE or lattice region waits while its pair holds a job. -/
def regionReady (s : State) (e r : Nat) : Bool :=
  if e ≠ 6 then true
  else
    let p := pairOfRegion s r
    let x := getPair s p.1 p.2
    x.running.isNone && x.suspended.isNone

/-- A test engine. -/
def testEngine (s : State) (e : Nat) : TestEngine := SMap.get TestEngine.reset s.memTest.engines e

/-- Writes a test engine. -/
def setTestEngine (e : Nat) (v : TestEngine) (s : State) : State :=
  { s with memTest := { s.memTest with engines := SMap.set TestEngine.reset s.memTest.engines e v } }

/-- TEST_REGION_START (R383). -/
def execTestRegionStart (engine : Nat) (s : State) : Host.Outcome State Fault Refusal :=
  let x := testEngine s engine
  if !powered s || s.modes.word.doze || !s.memTest.enable || decide (engine ≥ 8) || x.active.isSome ||
      decide (s.disp.tick < x.ended + s.memTest.pace) then complete s
  else
    match nextRegion s engine 128 x.next with
    | none => complete s
    | some r =>
      if regionReady s engine r then
        complete (setTestEngine engine { x with next := r, active := some (r, s.disp.tick), overdue := false } s)
      else complete s

/-- A chain-memory region holds buffers of the reserve pool (R227). -/
def holdsReserve (s : State) (region : Nat) : Bool :=
  (List.range 16).any fun i => decide ((16 * region + i) % poolSpan s ≥ poolBuffers s)

/-- A chain-memory region is retired, or ends service when it cannot be (R377, R385). -/
def retireRegion (cause region : Nat) (s : State) : State :=
  if s.memTest.retired.contains region then s
  else if holdsReserve s region || decide (s.memTest.retired.length ≥ 64) then raiseFatal 0x02 0x06 0 (natLE 4 region) s
  else
    containFault 0x02 cause 0 (natLE 4 region) []
      (fun s => withdraw [(2, region)] { s with memTest := { s.memTest with retired := s.memTest.retired ++ [region] } }) s

/-- Every slot of a key slot memory region becomes BAD, under one record that carries the test flag (R385). -/
def badRegion (region : Nat) (s : State) : State :=
  let mark := fun (s : State) (i : Nat) =>
    let n := 64 * region + i
    putSlot n { getSlot s n with state := .bad } s
  containFault 0x03 0x02 0 (natLE 4 (64 * region) ++ [1]) [] (fun s => (List.range 64).foldl mark s) s

/-- What the failure of a region brings (R385). -/
def failRegion (e r : Nat) (s : State) : State :=
  if e < 4 then retireRegion 3 (e * (poolSpan s / 16) + r) s
  else
    match e with
    | 4 => badRegion r s
    | 5 => raiseFatal 0x0A 0x12 0 (natLE 4 r) s
    | 6 => failPair (pairOfRegion s r).1 (pairOfRegion s r).2 3 s
    | _ => if r % 64 < 32 then failFirmware (r / 64) s else failCore 2 (r / 64) [byte (r / 64)] s

/-- TEST_REGION_END (R385). -/
def execTestRegionEnd (engine : Nat) (passed : Bool) (s : State) : Host.Outcome State Fault Refusal :=
  let x := testEngine s engine
  match x.active with
  | none => complete s
  | some (r, _) =>
    let m := memoryOfEngine engine
    let next := if r + 1 < regionCount s engine then r + 1 else 0
    let s := setTestEngine engine { next := next, active := none, overdue := false, ended := s.disp.tick } s
    let s := { s with memTest := { s.memTest with tested := setAt s.memTest.tested m (s.memTest.tested.getD m 0 + 1) } }
    if passed then complete s
    else
      let s := { s with memTest := { s.memTest with
        failures := setAt s.memTest.failures m (s.memTest.failures.getD m 0 + 1) } }
      complete (failRegion engine r s)

/-- TEST_REGION_OVERDUE (R386): counted and logged once a region; the test goes on. -/
def execTestRegionOverdue (engine : Nat) (s : State) : Host.Outcome State Fault Refusal :=
  let x := testEngine s engine
  match x.active with
  | none => complete s
  | some (r, t) =>
    if x.overdue || decide (s.disp.tick < t + s.memTest.overdueTime) then complete s
    else
      let s := setTestEngine engine { x with overdue := true } s
      let s := { s with memTest := { s.memTest with overdueCount := s.memTest.overdueCount + 1 } }
      let region := if engine < 4 then engine * (poolSpan s / 16) + r else r
      complete (logEvent 0x0602 0xFFFF ([byte (memoryOfEngine engine)] ++ natLE 4 region) s)

/-! ### The security die's heartbeat (R457) -/

/-- SECURITY_DIE_HEARTBEAT_LOSS. -/
def execSecurityDieHeartbeatLoss (s : State) : Host.Outcome State Fault Refusal :=
  if decide (s.boot.phase = .inReset) then complete s else complete (raiseFatal 0x10 0x01 0 [] s)

end Sys2Proof.Machine
end

