-- ==== Sys2Proof/Machine/Drbg.lean ====
section
/-!
DEFINITION. The conditioner and the generator of the RNG (R328 to R331): SHA-384 over interleaved
windows, and CTR_DRBG of SP 800-90A with AES-256 and no derivation function.
-/
namespace Sys2Proof.Machine

/-- `n` blocks of output, the value counted up before each. -/
def drbgBlocks (key : Bytes) : Nat → Bytes → Bytes × Bytes
  | 0, v => ([], v)
  | n + 1, v =>
    let v := natBE 16 ((beNat v + 1) % 2 ^ 128)
    let r := drbgBlocks key n v
    (aesEncrypt key v ++ r.1, r.2)

/-- CTR_DRBG_Update with 48 B of provided data. -/
def drbgUpdate (d : Drbg) (data : Bytes) : Drbg :=
  let t := xorBytes (drbgBlocks d.key 3 d.v).1 data
  ⟨t.take 32, t.drop 32⟩

/-- Instantiation from a seed and the personalisation string (R329). -/
def drbgInstantiate (seed personal : Bytes) : Drbg :=
  drbgUpdate ⟨zeros 32, zeros 16⟩ (xorBytes seed personal)

/-- A reseed with a seed and the additional input (R330). -/
def drbgReseed (d : Drbg) (seed additional : Bytes) : Drbg := drbgUpdate d (xorBytes seed additional)

/-- One generate call of 256 B without additional input (R330). -/
def drbgGenerate (d : Drbg) : Bytes × Drbg :=
  let r := drbgBlocks d.key 16 d.v
  (r.1, drbgUpdate ⟨d.key, r.2⟩ (zeros 48))

/-- Bits packed eight to a byte, the first in the high bit. -/
def packBits : List Bool → Bytes
  | a :: b :: c :: d :: e :: f :: g :: h :: r =>
    byte (128 * bit a + 64 * bit b + 32 * bit c + 16 * bit d + 8 * bit e + 4 * bit f + 2 * bit g + bit h)
      :: packBits r
  | _ => []

/-- The bits of windows interleaved one from each source in turn (R328). -/
def interleave (ws : List (List Bool)) : List Bool :=
  (List.range 1024).flatMap fun i => ws.map fun w => w.getD i false

/-- The seed of released windows, one of each source in use (R328). -/
def conditionSeed (ws : List (List Bool)) : Bytes := sha384 (packBits (interleave ws))

end Sys2Proof.Machine
end

