-- ==== Sys2Proof/Machine/Mailboxes.lean ====
section
/-!
DEFINITION. The mailboxes: messages submitted, checked and freed, header writes, and the queue-pair commands (R272 to R278).
-/
namespace Sys2Proof.Machine

/-- The slot and the offset within it that a write to a mailbox's slots names. -/
def slotTarget (s : State) (w : HostWrite) : Option (Nat × Nat) :=
  let base := mailSlots w.fn
  if requestAccepted s w && hasMailbox s w.fn && decide (base ≤ w.offset) && decide (w.offset < base + 4096) then
    some ((w.offset - base) / 256, (w.offset - base) % 256)
  else none

/-- A message waits or executes in the slot. -/
def MailSlot.busy (v : MailSlot) : Bool := decide (v.state = 1) || decide (v.state = 2)

/-- Why a complete message is rejected (R275); a slot's SEQ must stand in no other waiting slot. -/
def messageRejected (s : State) (fn slot : Nat) : Option Nat :=
  let m := mailbox s fn
  let v := mailSlot s fn slot
  let ahead := (v.seq + 2 ^ 32 - m.lastExec.toNat) % 2 ^ 32
  if v.length > 240 ∨ bits v.w0.toNat 3 5 ≠ 0 ∨ bits v.w1.toNat 32 32 ≠ 0 then some 0x02
  else if ahead = 0 ∨ ahead > 16 ∨ m.slots.any (fun x => decide (x.1 ≠ slot) && x.2.busy && decide (x.2.seq = v.seq)) then
    some 0x09
  else if v.w1.toNat % 2 ^ 32 ≠ mailCheck v.length v.command v.seq (padTo v.length v.body) then some 0x0A
  else none

/-- A complete message is checked: rejected, or left to execute in its turn. -/
def checkMessage (fn slot : Nat) (s : State) : State :=
  match messageRejected s fn slot with
  | some r =>
    let v := mailSlot s fn slot
    let s := setMailSlot fn slot { v with w0 := mailW0 4 v.length v.command r v.seq } s
    let m := mailbox s fn
    setMailbox fn { m with rejected := m.rejected + 1 } s
  | none => postDeviceEvent 4 s

/-- Messages that became complete before mailboxes were served are checked (R580). -/
def drainMailboxes (s : State) : State :=
  let waiting := s.tenants.mailboxes.flatMap fun m =>
    (m.2.slots.filter fun x => decide (x.2.state = 1)).map fun x => (m.1, x.1)
  let s := waiting.foldl (fun s x => checkMessage x.1 x.2 s) s
  s.tenants.mailboxes.foldl (fun s m => runPlain m.1 16 s) s

/-- A W0 that submits a message is stored, its RESULT as zero, with the DOZE_DEPTH at which it arrived, and the message is checked once
mailboxes are served. A message that waits breaks the idle time (R39). -/
def submitMessage (fn slot : Nat) (w0 depth : Nat) (s : State) : State :=
  let v := mailSlot s fn slot
  if v.busy then countDiscard s
  else
    let s := setMailSlot fn slot { v with w0 := BitVec.ofNat 64 (w0 - bits w0 24 8 * 2 ^ 24), depth := depth } s
    let s := { s with modes := { s.modes with idleFor := 0 } }
    if mailServed s then runPlain fn 16 (checkMessage fn slot s) else s

/-- MAILBOX_SUBMIT (R274, R275). -/
def execMailboxSubmit (w : HostWrite) (s : State) : Host.Outcome State Fault Refusal :=
  match slotTarget s w with
  | some (slot, 0) =>
    if w.data.length = 8 ∧ leNat w.data % 8 = 1 then complete (submitMessage w.fn slot (leNat w.data) (dozeDepthNow s) (wake s))
    else complete s
  | _ => complete s

/-- MAILBOX_SLOT_FREE (R274, R275): the fields written stand in W0, RESULT as zero (R273). -/
def execMailboxSlotFree (w : HostWrite) (s : State) : Host.Outcome State Fault Refusal :=
  match slotTarget s w with
  | some (slot, 0) =>
    if w.data.length = 8 ∧ leNat w.data % 8 = 0 then
      let v := mailSlot s w.fn slot
      let s := wake s
      if v.busy then complete (countDiscard s)
      else
        let w0 := leNat w.data
        complete (setMailSlot w.fn slot { v with w0 := mailW0 0 (bits w0 8 8) (bits w0 16 8) 0 (bits w0 32 32), depth := 0 } s)
    else complete s
  | _ => complete s

/-- The words of a slot as bytes. -/
def MailSlot.bytes (v : MailSlot) : Bytes := natLE 8 v.w0.toNat ++ natLE 8 v.w1.toNat ++ padTo 240 v.body

/-- A write to W1 or the body is stored; one that touches W0 in another form than R274 gives is discarded and counted. -/
def storeBody (fn slot off : Nat) (data : Bytes) (s : State) : State :=
  let v := mailSlot s fn slot
  if off < 8 ∨ off + data.length > 256 ∨ v.busy then countDiscard s
  else
    let bs := overlay off data v.bytes
    setMailSlot fn slot { v with w1 := BitVec.ofNat 64 (leNat (slice 8 8 bs)), body := slice 16 240 bs } s

/-- MAILBOX_BODY_WRITE (R274). -/
def execMailboxBodyWrite (w : HostWrite) (s : State) : Host.Outcome State Fault Refusal :=
  match slotTarget s w with
  | some (slot, off) =>
    if off = 0 ∧ w.data.length = 8 ∧ leNat w.data % 8 ≤ 1 then complete s
    else complete (storeBody w.fn slot off w.data (wake s))
  | none => complete s

/-- NOTIFY_CAUSE_CLEAR (R272): a write to W1 of a VF's header clears causes and sets the mask; header writes of another form
are discarded. A mailbox write wakes the part (R39, R278). -/
def execNotifyCauseClear (w : HostWrite) (s : State) : Host.Outcome State Fault Refusal :=
  let off := w.offset - mailHeader w.fn
  if !requestAccepted s w || !hasMailbox s w.fn || decide (w.fn = 0) || decide (w.offset < mailHeader w.fn) then complete s
  else
    let s := wake s
    let m := mailbox s w.fn
    let v := leNat w.data
    let causes := if off = 8 ∧ (w.data.length = 4 ∨ w.data.length = 8) then v % 64 else 0
    let mask := if off = 8 ∧ w.data.length = 8 then some (v / 2 ^ 32 % 64)
      else if off = 12 ∧ w.data.length = 4 then some (v % 64) else none
    let m := { m with cause := m.cause &&& ~~~(BitVec.ofNat 32 causes)
                      mask := match mask with
                        | some k => BitVec.ofNat 32 k
                        | none => m.mask }
    complete (setMailbox w.fn m s)

/-! ### Queue-pair commands (R276, R277) -/

/-- Why a queue-pair command is refused before its queue pair is looked at. -/
def qpCommandRefused (s : State) (fn : Nat) (changes : Bool) (v : MailSlot) : Option Nat :=
  if lockedNow s then some 0x07
  else if standbyNow s && changes then some 0x08
  else if v.length ≠ 4 ∨ (v.body.take 4).drop 2 ≠ [0, 0] then some 0x02
  else if s.boot.phase = .recovery then some 0x03
  else if (localQp s fn (leNat (v.body.take 2))).isNone then some 0x03 else none

/-- Runs a queue-pair command when its message is next: the effect on the queue pair, its RESULT and its reply. -/
def runQpCommand (fn slot command : Nat) (changes : Bool) (f : Nat → State → Nat × Bytes × State) (s : State) : State :=
  let v := mailSlot s fn slot
  if !mailNext s fn slot || decide (v.command ≠ command) then s
  else
    match qpCommandRefused s fn changes v with
    | some r => mailReply fn slot v.seq r [] s
    | none =>
      match localQp s fn (leNat (v.body.take 2)) with
      | none => mailReply fn slot v.seq 0x03 [] s
      | some (q, _) =>
        let (r, value, s) := f q s
        if r ≠ 0 ∨ !changes then mailReply fn slot v.seq r value s
        else
          let (rs, s) := replicateQp q s
          answerMessage fn slot { Answer.now 0 s with records := rs }

/-- QUEUE_PAIR_ENABLE. -/
def execQueuePairEnable (fn slot : Nat) (s : State) : Host.Outcome State Fault Refusal :=
  complete (runQpCommand fn slot 3 true
    (fun q s => if enableResult s q ≠ 0 then (0x06, [], s) else (0, [], enableQp q s)) s)

/-- QUEUE_PAIR_DISABLE. -/
def execQueuePairDisable (fn slot : Nat) (s : State) : Host.Outcome State Fault Refusal :=
  complete (runQpCommand fn slot 4 true
    (fun q s => if disableResult s q ≠ 0 then (0x06, [], s) else (0, [], disableQp q s)) s)

/-- QUEUE_PAIR_STATUS. -/
def execQueuePairStatus (fn slot : Nat) (s : State) : Host.Outcome State Fault Refusal :=
  complete (runQpCommand fn slot 5 false (fun q s => (0, qpContext (getQp s q), s)) s)

end Sys2Proof.Machine
end

