-- ==== Sys2Proof/Machine/RandomSource.lean ====
section
/-!
DEFINITION. The noise sources with their health tests, and the DRBG with its two stores (R321 to R341).
-/
namespace Sys2Proof.Machine

/-- The sources run: the PLLs are locked, the part is not in DOZE depth 2 (R337, R339). -/
def sourcesRun (s : State) : Bool := decoded s && !(s.modes.word.doze && decide (s.modes.word.dozeDepth = 2))

/-- A health test fails: the generator stops for good, its stores and the seed in preparation are zeroised, and the Fatal fault names the
source and the window, by the number of windows before it (DESIGN CHOICE, assumption 95: ARGS has no layout); in a start-up window the
cause is 0x06, and a start-up that waits for its first seed stops (R325 to R327). -/
def rngFail (cause source : Nat) (s : State) : State :=
  let x := getSource s source
  let cause := if x.started ∨ cause = 7 then cause else 6
  let sources := s.rng.sources.map fun y => { y with released := none }
  let seeding := decide (s.boot.phase = .seeding)
  let s := { s with rng := { s.rng with state := 2, drbg := none, seed := none, reserve := [], buffer := [], sources := sources }
                    boot := { s.boot with phase := if seeding then .stopped else s.boot.phase } }
  let s := if seeding then drainMailboxes s else s
  raiseFatal 0x08 cause source ([byte source, 0, 0, 0] ++ natLE 4 x.windows) s

/-- One raw bit of a source: its window grows, and its run of equal bits. -/
def takeBit (x : Source) (b : Bool) : Source :=
  { x with window := x.window ++ [b], last := some b, run := if x.last = some b then x.run + 1 else 1 }

/-- The frequencies of a source fail the liveness test: kHz of A and B. -/
def notLive (f : Nat × Nat) : Bool :=
  let out := fun (v : Nat) => decide (v < 200000) || decide (v > 800000)
  out f.1 || out f.2 || decide ((f.1 : Int) - f.2 < 5000 ∧ (f.2 : Int) - f.1 < 5000)

/-- The samples of one strobe are taken, and the repetition count test runs on each. -/
def takeBits (bits : List Bool) (s : State) : State :=
  let sources := (s.rng.sources.zip bits).map fun x => takeBit x.1 x.2
  let s := { s with rng := { s.rng with sources := sources } }
  match (List.range 4).find? fun i => decide ((getSource s i).run ≥ 81) with
  | some i => if s.rng.state = 2 then s else rngFail 1 i s
  | none => s

/-- A liveness window ends: its frequencies are shown, and tested. -/
def takeFreqs (freqs : List (Nat × Nat)) (s : State) : State :=
  if freqs.length ≠ 4 then s
  else
    let sources := (s.rng.sources.zip freqs).map fun x => { x.1 with freqA := x.2.1, freqB := x.2.2 }
    let s := { s with rng := { s.rng with sources := sources } }
    match (List.range 4).find? fun i => notLive (freqs.getD i (0, 0)) with
    | some i => if s.rng.state = 2 then s else rngFail 3 i s
    | none => s

/-- The raw bit of the captured source leaves through the debug port (R338). -/
def streamBit (bits : List Bool) (s : State) : State :=
  let n := s.rng.capture
  if n < 4 then
    send (.tap [byte (bit (bits.getD n false))]) (putSource n { getSource s n with streamed := true } s)
  else s

/-- The raw bits of a strobe: the XOR of the levels at which oscillators A and B of each source are sampled (R321). -/
def rawBits (levels : List (Bool × Bool)) : List Bool := levels.map fun x => x.1 != x.2

/-- RAW_BIT_STROBE (R321, R323): the sampled levels of A and B of each source, and at the end of a 10 µs window four pairs of
frequencies in kHz. -/
def execRawBitStrobe (levels : List (Bool × Bool)) (freqs : List (Nat × Nat)) (s : State) : Host.Outcome State Fault Refusal :=
  let bits := rawBits levels
  if !sourcesRun s || decide (bits.length ≠ 4) then complete s else complete (takeFreqs freqs (takeBits bits (streamBit bits s)))

/-! ### Window tests (R323, R324) -/

/-- Ones of a window. -/
def ones (w : List Bool) : Nat := (w.filter id).length

/-- Agreement of a window with itself shifted. -/
def agreement (w : List Bool) (k : Nat) : Nat := ((w.zip (w.drop k)).filter fun x => x.1 == x.2).length

/-- The pair-lock test fails at some shift: the agreement differs from the prediction by more than 200. -/
def pairLocked (w : List Bool) : Bool :=
  let n := w.length
  let k := ones w
  (List.range 16).any fun i =>
    let shift := i + 1
    let predicted : Int := ((n - shift) * (k * k + (n - k) * (n - k)) : Nat)
    decide (((agreement w shift * n * n : Nat) - predicted).natAbs > 200 * n * n)

/-- The cross-source test of two windows fails. -/
def crossLocked (a b : List Bool) : Bool :=
  let n := a.length
  let x := ((a.zip b).filter fun y => y.1 != y.2).length
  let predicted : Int := (ones a * (n - ones b) + ones b * (n - ones a) : Nat)
  decide (((x * n : Nat) - predicted).natAbs > 200 * n)

/-- The first test a source's window fails, as a cause of R325: 0 for none. -/
def windowCause (s : State) (i : Nat) : Nat :=
  let w := (getSource s i).window.take 1024
  let same := (w.filter fun b => some b == w.head?).length
  let others := (List.range 4).filter fun j => decide (j ≠ i) && decide ((getSource s j).window.length ≥ 1024)
  if same ≥ 916 then 2
  else if pairLocked w then 4
  else if others.any fun j => crossLocked w ((getSource s j).window.take 1024) then 5 else 0

/-- A source whose window has ended: a window that passed is released, unless it is the start-up window or bits of it have left the part
(R323, R324, R338). -/
def endWindow (captured : Bool) (x : Source) : Source :=
  let rest := x.window.drop 1024
  let out := if x.started && !x.streamed && !captured then some (x.window.take 1024) else x.released
  { x with window := rest, started := true, released := out, streamed := x.streamed && !rest.isEmpty, windows := x.windows + 1 }

/-- HEALTH_TEST_WINDOW (R323, R324): a full window is tested; none in DOZE depth 2 (R337). -/
def execHealthTestWindow (source : Nat) (s : State) : Host.Outcome State Fault Refusal :=
  let x := getSource s source
  if source ≥ 4 ∨ x.window.length < 1024 ∨ s.rng.state = 2 ∨ sourcesRun s = false then complete s
  else
    let cause := windowCause s source
    if cause = 0 then complete (putSource source (endWindow (decide (s.rng.capture = source)) x) s)
    else complete (rngFail cause source (putSource source { x with window := x.window.drop 1024 } s))

/-! ### Seeds and the DRBG (R328 to R331, R334 to R336) -/

/-- The sources in use: those that are not captured (R328, R338). -/
def sourcesInUse (s : State) : List Nat := (List.range 4).filter fun i => decide (s.rng.capture ≠ i)

/-- The released windows of the sources in use. -/
def releasedWindows (s : State) : List (List Bool) := (sourcesInUse s).filterMap fun i => (getSource s i).released

/-- A seed can be formed: every source in use has a released window, every start-up window has passed, no test has failed, and the
sources run. -/
def seedReady (s : State) : Bool :=
  decide ((releasedWindows s).length = (sourcesInUse s).length) && ((List.range 4).all fun i => (getSource s i).started) &&
    decide (s.rng.state ≠ 2) && sourcesRun s

/-- The windows of a seed are spent. -/
def spendWindows (s : State) : State :=
  { s with rng := { s.rng with sources := s.rng.sources.map fun x => { x with released := none } } }

/-- The personalisation string (R329). -/
def personalisation (s : State) : Bytes :=
  natLE 8 s.fuses.serial.toNat ++ natLE 8 s.mram.bootCounter.toNat ++ natLE 8 s.sec.deviceTime.toNat ++
    natLE 8 s.sec.domainId ++ natLE 2 (s.sec.member % 4096 + s.twin.side % 2 * 2 ^ 15) ++ zeros 14

/-- The generator runs from a first seed. -/
def instantiate (s : State) : State :=
  let seed := conditionSeed (releasedWindows s)
  let d := drbgInstantiate seed (personalisation s)
  let s := spendWindows s
  { s with rng := { s.rng with drbg := some d, state := 1, calls := 0, reseeds := s.rng.reseeds + 1,
                               seedTime := s.sec.deviceTime.toNat } }

/-- RESEED (R330, R336): in a boot whose DRBG has been instantiated, a seed reseeds it, or instantiates it again after a
zeroisation. -/
def execReseed (s : State) : Host.Outcome State Fault Refusal :=
  if !seedReady s then complete s
  else
    match s.rng.drbg with
    | some d =>
      let extra := natLE 8 s.disp.tick ++ natLE 8 s.sec.deviceTime.toNat ++ zeros 32
      let d := drbgReseed d (conditionSeed (releasedWindows s)) extra
      let s := spendWindows s
      complete { s with rng := { s.rng with drbg := some d, calls := 0, reseeds := s.rng.reseeds + 1,
                                            seedTime := s.sec.deviceTime.toNat } }
    | none => if s.rng.state = 3 then complete (instantiate s) else complete s

/-- Generate calls to which a seed's output is bound, and those of its normal budget (R334, R335). -/
def hardLimit : Nat := 16384
def normalBudget : Nat := 2048

/-- GENERATE_CALL (R330, R331, R334, R335): 256 B for the system reserve, refilled first, or for the random buffer; none in DOZE depth 2
(R337). -/
def execGenerateCall (reserve : Bool) (s : State) : Host.Outcome State Fault Refusal :=
  match s.rng.drbg with
  | none => complete s
  | some d =>
    let room := if reserve then decide (s.rng.reserve.length < 256)
      else decide (s.rng.reserve.length ≥ 256) && decide (s.rng.buffer.length + 256 ≤ 4096)
    if !room || decide (s.rng.calls ≥ hardLimit) || !sourcesRun s then complete s
    else
      let (out, d) := drbgGenerate d
      let n := s.rng.calls + 1
      let kept := if reserve then s.rng.reserve ++ out.take (256 - s.rng.reserve.length) else s.rng.reserve
      let buffer := if reserve then s.rng.buffer else s.rng.buffer ++ out
      complete { s with rng := { s.rng with
        drbg := some d, calls := n, reserve := kept, buffer := buffer
        filled := s.rng.filled || (decide (kept.length = 256) && decide (buffer.length = 4096))
        stretched := if n = normalBudget + 1 then s.rng.stretched + 1 else s.rng.stretched
        hardLimited := if n = hardLimit then s.rng.hardLimited + 1 else s.rng.hardLimited } }

/-- CAPTURE_SOURCE_WRITE (R338, R340): refused outside DEBUG-OPEN; a source is selected only while the debug port is open as well. -/
def execCaptureSourceWrite (src : Src) (value : Bytes) (s : State) : Host.Outcome State Fault Refusal :=
  let act := fun (_ : Path) (v : Bytes) (s : State) =>
    let n := leNat v
    if s.modes.word.debugOpen = false ∨ (n ≠ 0xFF ∧ portOpen s = false) then Answer.now 0x04 s
    else if n = s.rng.capture then Answer.now 0 s
    else
      let s' := endCapture s
      let x := getSource s' n
      Answer.now 0 (if n < 4 then putSource n { x with released := none } { s' with rng := { s'.rng with capture := n } } else s')
  complete (runWrite src 0x3100 0x0B value anyValue act s)

end Sys2Proof.Machine
end

