-- ==== Sys2Proof/Machine/StartUp.lean ====
section
/-!
DEFINITION. Resets and start-up: release, PLL lock, the first seed, the boot images, the reload of the key store (R19, R20, R309,
R310, R339, R376, R377, R391, R409, R410, R415 to R420, R435, R437, R445, R569 to R581, R591).
-/
namespace Sys2Proof.Machine

/-! ### Resets (R19, R20, R435, R569 to R572) -/

/-- WARM_RESET: a pulse of POR_N in ns. Under 100 ns it is ignored, under 1 µs it may be taken, from 1 µs it always is (R571);
POR_N ends the count of escalations (R574). -/
def execWarmReset (pulse : Nat) (taken : Bool) (s : State) : Host.Outcome State Fault Refusal :=
  if pulse ≥ 1000 ∨ (pulse ≥ 100 ∧ taken = true) then complete (applyWarmReset (clearEscalations s)) else complete s

/-- COLD_RESET: a main supply is lost; the page in progress may tear at a word, the test access port loses what it held, and the presence
inputs are sampled anew (R21, R401, R499, R571). -/
def execColdReset (torn : Option (Nat × Nat)) (s : State) : Host.Outcome State Fault Refusal :=
  let s := applyWarmReset (clearEscalations (tearPage torn s))
  let decisions := s.tamper.decisions.filter fun d =>
    match d.1 with
    | .presence _ => false
    | _ => true
  complete { s with boot := { s.boot with cold := true }, tap := Tap.reset, custody := Custody.reset,
                    tamper := { s.tamper with decisions := decisions } }

/-- BATTERY_RESET: the battery domain is initialised; its signature cells hold what they settled at (R435). -/
def execBatteryReset (cells : BitVec 128) (seed : Bytes) (s : State) : Host.Outcome State Fault Refusal :=
  let sec := { SecurityDie.reset with onMain := s.sec.onMain, sigValue := cells.extractLsb' 0 64,
                                      sigComplement := cells.extractLsb' 64 64 }
  complete { s with
    sec := sec
    keys := { s.keys with vault := [], remaskCycles := 0, expanderSeed := padTo 48 seed, expanderCount := 0,
                          emptyMasks := [], remaskedAt := none }
    tamper := { s.tamper with arming := none }
    twin := { s.twin with holder := false, sync := 0 }
    modes := { s.modes with dozeAt := 0 }
    boot := { s.boot with watchdogAt := 0 } }

/-- POWER_SWITCHOVER (R20): nothing is lost and no flag is set. -/
def execPowerSwitchover (toMain : Bool) (s : State) : Host.Outcome State Fault Refusal :=
  complete { s with sec := { s.sec with onMain := toMain } }

/-- ACLK counts of 1 ms. -/
def watchdogCounts : Nat := 33

/-- COMPUTE_WATCHDOG (R572): from PLL lock on, outside DOZE, no tick edge for 1 ms. -/
def execComputeWatchdog (s : State) : Host.Outcome State Fault Refusal :=
  if decoded s && !s.modes.word.doze && decide (s.sec.deviceTime.toNat ≥ s.boot.watchdogAt + watchdogCounts) then
    complete (applyWarmReset s)
  else complete s

/-- The ACLK wake timer has run out (R201). -/
def wakeTimerDue (s : State) : Bool :=
  match s.modes.wakeTimer with
  | some t => decide (t ≤ s.sec.deviceTime.toNat)
  | none => false

/-- DEVICE_TIME_ADVANCE (R19): one ACLK period; the wake timer of depth 2 ends it. -/
def execDeviceTimeAdvance (s : State) : Host.Outcome State Fault Refusal :=
  let s := { s with sec := { s.sec with deviceTime := s.sec.deviceTime + 1 } }
  complete (if wakeTimerDue s then wake s else s)

/-! ### Release (R435, R456, R576, R591) -/

/-- The first two consecutive samples of the straps that agree. -/
def agreedStraps : List (Nat × Bool) → Option (Nat × Bool)
  | a :: b :: t => if a = b then some a else agreedStraps (b :: t)
  | _ => none

/-- A fresh signature is written: 64 bits of the expander, and not zero. -/
def freshSignature (s : State) : State :=
  let (n, s) := takeFree s
  let v := BitVec.ofNat 64 (1 + (Config.freeBits n).toNat % (2 ^ 64 - 1))
  { s with sec := { s.sec with sigValue := v, sigComplement := ~~~v } }

/-- The battery-domain signature is checked: where it is lost, VBAT_LOST is raised unless the part is BLANK. -/
def checkSignature (s : State) : State :=
  if s.sec.sigValue ≠ 0 ∧ s.sec.sigComplement = ~~~s.sec.sigValue then s
  else freshSignature (if decodeLife (lifeWord s) = .blank then s else tamperResponse 5 s)

/-- A bank as the security die reads it, with its check behind it where it has one; a bit listed reads otherwise than it was blown. -/
def bankRead (s : State) (misread : List (Nat × Nat)) (bank : Nat) : Bytes :=
  let stored := (fuseBanks s).getD bank [] ++ natLE 4 (SMap.get 0 s.fuses.crcs bank).toNat
  let wrong := (misread.filter fun x => decide (x.1 = bank)).foldl (fun n x => n ^^^ 2 ^ x.2) 0
  natLE stored.length (leNat stored ^^^ wrong)

/-- A bank meets its check (R456, R616). DEDUCED (assumption 20): provisioning begins with banks not yet programmed (R452), so a bank of a
BLANK part that reads all zero with its check is not judged. -/
def bankPasses (s : State) (misread : List (Nat × Nat)) (bank : Nat) : Bool :=
  let b := bankRead s misread bank
  let n := b.length - 4
  decide (crc32cFrom bank (b.take n) = leNat (b.drop n)) || (decide (decodeLife (lifeWord s) = .blank) && decide (leNat b = 0))

/-- The banks that fail their check; LC and SECVER have none (R455). -/
def failingBanks (s : State) (misread : List (Nat × Nat)) : List Nat := [1, 2, 4, 5, 6, 7].filter fun b => !bankPasses s misread b

/-- RESET_RELEASE: the straps are sampled until two samples agree, the power limit starts at its ceiling, the fuse banks and the
signature are checked (R188, R456, R576); `misread` lists bits that read otherwise than they were blown, as bank and bit. -/
def execResetRelease (straps : List (Nat × Bool)) (misread : List (Nat × Nat)) (s : State) : Host.Outcome State Fault Refusal :=
  match agreedStraps straps with
  | none => complete s
  | some (limit, side) =>
    if s.boot.phase ≠ .inReset ∨ s.mram.current.isSome = true then complete s
    else
      let banks := failingBanks s misread
      let s := { s with energy := { s.energy with pwrlim := limit % 4 }
                        twin := { s.twin with side := bit side }
                        fuses := { s.fuses with badBanks := banks } }
      let s := checkSignature { s with energy := { s.energy with limit := powerCeiling s } }
      let s := { s with boot := { s.boot with phase := .released, cold := false } }
      complete (banks.foldl (fun s b => raiseFatal 0x11 0x01 0 [byte b] s) s)

/-! ### After PLL lock: tables and memories (R376, R377, R391) -/

/-- Fields of a region entry (R389). -/
def entryValid (e : BitVec 64) : Bool := e.getLsbD 0
def entryBase (e : BitVec 64) : Nat := bits e.toNat 4 24
def entryLimit (e : BitVec 64) : Nat := bits e.toNat 28 24
def entryInitiators (e : BitVec 64) : Nat := bits e.toNat 52 12

/-- The 16 entries of table `t`: A0 to A11, then T0 to T7. -/
def tableEntries (s : State) (t : Nat) : List (BitVec 64) := (List.range 16).map fun e => SMap.get 0 s.fuses.regions (16 * t + e)

/-- The fused path code of master `i` to target `j`. -/
def fusedPath (s : State) (i j : Nat) : Nat := bits s.fuses.matrix.toNat (16 * i + 2 * j) 2

/-- An entry has a fault of cause 0x02. -/
def badEntry (s : State) (t : Nat) (e : BitVec 64) : Bool :=
  (!entryValid e && decide (e ≠ 0)) || (entryValid e && decide (entryLimit e < entryBase e)) ||
    if t < 12 then decide (entryInitiators e ≠ 0)
    else (List.range 12).any fun i => bitOf (entryInitiators e) i && decide (fusedPath s i (t - 12) < 2)

/-- Some two valid entries of a list share a page. -/
def sharesPage : List (BitVec 64) → Bool
  | [] => false
  | a :: t => t.any (fun b => entryValid a && entryValid b && decide (entryBase a ≤ entryLimit b) &&
      decide (entryBase b ≤ entryLimit a)) || sharesPage t

/-- The tables are loaded and locked; a fault of an entry is Fatal. -/
def loadTables (s : State) : State :=
  let s := { s with access := { s.access with loaded := true } }
  let shared := (List.range 20).any fun t => sharesPage (tableEntries s t)
  let bad := (List.range 20).any fun t => (tableEntries s t).any (badEntry s t)
  let s := if shared then raiseFatal 0x0E 0x01 0 [] s else s
  if bad then raiseFatal 0x0E 0x02 0 [] s else s

/-- Every memory holds zeros at the end of the march. -/
def clearMemories (s : State) : State := { s with chainMem := [], scratch := [] }

/-- A failure beyond the spares: memories 0 chain memory, 1 key slots, 2 ring contexts, 3 PKE, 4 lattice, 5 scratchpad data part,
6 its firmware region, with the region, pair or core. -/
def beyondSpares (s : State) (f : Nat × Nat) : State :=
  match f.1 with
  | 0 => if f.2 < bufferCount s / 16 then retireRegion 4 f.2 s else s
  | 1 => raiseFatal 0x03 0x02 0 [] s
  | 2 => raiseFatal 0x0A 0x12 0 [] s
  | 3 => if f.2 < pkeCount s ∧ !isWithdrawn 6 f.2 s then failPair false f.2 3 s else s
  | 4 => if f.2 < latticeCount s ∧ !isWithdrawn 7 f.2 s then failPair true f.2 3 s else s
  | 5 => if f.2 < coreCount s ∧ !isWithdrawn 9 f.2 s then failCore 2 f.2 [byte f.2] s else s
  | 6 => if f.2 < coreCount s ∧ !isWithdrawn 9 f.2 s then failCore 6 f.2 [byte f.2] s else s
  | _ => s

/-- A unit's known-answer test of start-up fails, or, named (0xC, 1), the custody controller's PHY loopback test (R142, R326, R505,
R565). -/
def failKnownAnswer (s : State) (u : Nat × Nat) : State :=
  match u.1 with
  | 4 => if u.2 < laneCount s ∧ !isWithdrawn 4 u.2 s then containFault 4 4 u.2 [] [u] id s else s
  | 5 => if u.2 < hashCount s ∧ !isWithdrawn 5 u.2 s then containFault 5 4 u.2 [] [u] id s else s
  | 6 => if u.2 < pkeCount s ∧ !isWithdrawn 6 u.2 s then containFault 6 4 u.2 [] [u] id s else s
  | 7 => if u.2 < latticeCount s ∧ !isWithdrawn 7 u.2 s then containFault 7 4 u.2 [] [u] id s else s
  | 8 => rngFail 7 0 s
  | 0xB => containFault 0xB 4 0 [] [(0xB, 0)] id s
  | 0xC => containFault 0xC (if u.2 = 1 then 2 else 1) 0 [] [(0xC, 0)] id s
  | _ => s

/-! ### Life cycle, debug and the root (R304, R437, R438, R446, R453, R457) -/

/-- A monitor fails its self-test: its source is raised, and the event names the test. -/
def failMonitor (s : State) (source : Nat) : State :=
  if source < 10 then tamperResponse source (logEvent 0x0303 deviceSource [byte source] s) else s

/-- The state is decoded twice; the lesser stands where they disagree. -/
def decodeTwice (agree : Bool) (s : State) : State :=
  let d := decodeLife (lifeWord s)
  if agree then { s with life := { s.life with state := d } }
  else
    let (other, s) := otherDecode s
    decisionDisagrees 1 { s with life := { s.life with state := lesserState d other } }

/-- DEBUG-OPEN by the life-cycle state and the latch (R453). -/
def debugDecision (s : State) : Bool :=
  match s.life.state with
  | .blank => true
  | .test => true
  | .production => latchOpen s
  | _ => false

/-- The first of the two decisions on debug. -/
def decideDebug (s : State) : State :=
  let d := debugDecision s
  { s with life := { s.life with debugOpen := d, portClosed := false }
           tamper := { s.tamper with decisions := s.tamper.decisions ++ [(.debugEnable, d)] } }

/-- The root is reconstructed, or cannot be; while a source is live it waits. -/
def reconstructRoot (corrects : Bool) (s : State) : State :=
  if !corrects then raiseFatal 0x11 0x02 0 [] s
  else if s.tamper.live ≠ 0 then { s with keys := { s.keys with rootPending := true } }
  else { s with keys := { s.keys with rootHeld := true, rootPending := false } }

/-! ### The selector and the boot counter (R409, R410, R417, R418) -/

/-- Boot counters of the Locket's records and of the boot events in the Event Log. -/
def recordedCounters (s : State) : List Nat :=
  let locket := (usedPages s .locket).map fun q => leNat (slice 8 8 (readPage s .locket q))
  let events := (usedPages s .log).flatMap fun q => (List.range 7).filterMap fun i =>
    let r := slice (64 * i) 64 (readPage s .log q)
    if recordCode r = 0x0501 then some (leNat (slice 20 8 r)) else none
  locket ++ events

/-- A slot number, or none. -/
def slotByte (v other : Nat) : Nat := if v ≤ 1 then v else other

/-- The selector as start-up reads it: an empty one gives counter 0, slot A and no PENDING; a lost one a counter 4,097 above the
largest recorded. -/
def loadSelector (s : State) : State :=
  match pageView s .config 0 with
  | .used _ g =>
    let p := g.payload
    { s with mram := { s.mram with bootCounter := BitVec.ofNat 64 (leNat (p.take 8)), active := slotByte (p.getD 8 0).toNat 0,
                                   pendingSlot := slotByte (p.getD 9 0).toNat 0xFF } }
  | .empty => { s with mram := { s.mram with bootCounter := 0, active := 0, pendingSlot := 0xFF } }
  | .lost =>
    let n := (recordedCounters s).foldl max 0 + 4097
    { s with mram := { s.mram with bootCounter := BitVec.ofNat 64 n, active := 0, pendingSlot := 0xFF } }

/-- Events staged before the counter was known carry this boot's. -/
def stampEvents (s : State) : State :=
  let n := s.mram.bootCounter.toNat % 2 ^ 32
  { s with log := { s.log with staged := s.log.staged.map fun e => { e with boot := n } } }

/-- The boot counter is used up, and nothing depends on it before its page is durable. -/
def countBoot (s : State) : State :=
  stampEvents (writeSelector { s with mram := { s.mram with bootCounter := s.mram.bootCounter + 1 } })

/-- The board data, and the subsystem identifiers that hold until the next reset (R231, R528). -/
def loadBoard (s : State) : State :=
  let b := (readPage s .config 132).take 64
  { s with dict := { s.dict with board := b, subsystem := b.take 4 } }

/-- Start-up after PLL lock, as far as the boot counter; BLANK ends with the decode (R578). -/
def startHardware (report : StartReport) (s : State) : State :=
  let s := clearMemories (loadTables { s with memTest := { s.memTest with sparesAssigned := report.spares } })
  let s := report.beyond.foldl beyondSpares s
  let s := report.monitors.foldl failMonitor { s with life := { s.life with state := decodeLife (lifeWord s) } }
  let s := reconstructRoot report.pufCorrects (decideDebug (decodeTwice report.decodesAgree s))
  let s := loadBoard (loadSelector (scanStore .config s))
  let phase : Phase := if s.life.state = LifeCycle.blank then .provisioning else .seeding
  let s := { s with boot := { s.boot with phase := phase, watchdogAt := s.sec.deviceTime.toNat } }
  let s := { s with rng := { s.rng with katPassed := !report.badUnits.any fun u => decide (u.1 = 8) } }
  let s := if s.life.state = LifeCycle.blank then s else countBoot s
  report.badUnits.foldl failKnownAnswer s

/-- PLL_LOCK: nothing is tested or used further when a fuse bank has failed (R375, R456). -/
def execPllLock (report : StartReport) (s : State) : Host.Outcome State Fault Refusal :=
  if s.boot.phase ≠ .released then complete s
  else if s.fuses.badBanks ≠ [] then
    complete { s with boot := { s.boot with phase := .stopped, watchdogAt := s.sec.deviceTime.toNat } }
  else complete (startHardware report s)

/-! ### The first seed and the images (R339, R415, R418, R419) -/

/-- The second decision on debug has been taken. -/
def debugSettled (s : State) : Bool := !s.tamper.decisions.any fun d => decide (d.1 = .debugEnable)

/-- DRBG_INSTANTIATED: no seed is formed before the boot counter is durable (R418). -/
def execDrbgInstantiated (s : State) : Host.Outcome State Fault Refusal :=
  if decide (s.boot.phase = .seeding) && s.boot.counterDurable && debugSettled s && s.rng.katPassed && seedReady s then
    let s := instantiate s
    complete { s with boot := { s.boot with phase := .verifying } }
  else complete s

/-- The slots a boot verifies, in order: PENDING and then ACTIVE, or ACTIVE and then the other. -/
def bootCandidates (s : State) : List Nat :=
  if s.mram.pendingSlot ≤ 1 then [s.mram.pendingSlot, s.mram.active].eraseDups else [s.mram.active, 1 - s.mram.active]

/-- The slot being verified. -/
def bootCandidate (s : State) : Option Nat := (bootCandidates s).find? fun x => !s.boot.rejected.any fun r => decide (r.1 = x)

/-- A slot has failed: an event records it with its check code. -/
def rejectSlot (slot code : Nat) (s : State) : State :=
  logEvent 0x0502 deviceSource [byte slot, byte code]
    { s with boot := { s.boot with rejected := s.boot.rejected ++ [(slot, code)] } }

/-- Locket FLAGS of a boot of slot `x`. -/
def bootFlagsOf (s : State) (x : Nat) : Nat :=
  let pending := decide (s.mram.pendingSlot ≤ 1)
  let failed := !s.boot.rejected.isEmpty
  x % 2 * 2 ^ 1 + bit (pending && !failed) * 2 ^ 2 + bit (pending && failed) * 2 ^ 3 + bit (!pending && failed) * 2 ^ 4

/-- The Fife firmware region goes into every core, and the cores start at the reset vector. -/
def loadCores (img : Bytes) (s : State) : State :=
  let code := sectionBytes img 1
  let load := fun (s : State) (k : Nat) => modifyCore k (fun c => { c with waitedAt := s.disp.tick }) (loadCore code k s)
  (List.range (coreCount s)).foldl load s

/-- The state of the slot that does not run: WRITTEN where page 0 holds something (R421). -/
def idleSlotState (s : State) (slot : Nat) : Nat := if (pageView s (imageStore slot) 0) = .empty then slotEmpty else slotWritten

/-- The slot that passed becomes ACTIVE, the selector is rewritten, and its firmware runs. -/
def bootImage (x : Nat) (s : State) : State :=
  let img := slotImage s x
  let flags := bootFlagsOf s x
  let other := idleSlotState s (1 - x)
  let s := writeSelector { s with mram := { s.mram with active := x, pendingSlot := 0xFF } }
  let s := setImageState (1 - x) other (setImageState x slotActive s)
  let s := { s with
    images := { s.images with firmwareOps := Config.opcodeTable (sectionBytes img 2), runningVersion := imageVersionOf img,
                              runningSecurity := securityOf img }
    boot := { s.boot with phase := .loading, flags := flags, slot := x, imageDigest := sha384 img,
                          imageVersion := imageVersionOf img, imageSecurity := securityOf img } }
  drainMailboxes (restoreConfig (loadCores img s))

/-- No slot passes: a Fatal fault is recorded, and the part enters recovery. -/
def enterRecovery (s : State) : State :=
  let s := raiseFatal 0x0D 0x05 0 [] s
  let a := idleSlotState s 0
  let b := idleSlotState s 1
  drainMailboxes (setImageState 0 a (setImageState 1 b { s with boot := { s.boot with phase := .recovery } }))

/-- The next slot is verified as far as the first decisions on its signatures; slots that fail before them are passed over. -/
def verifyNext : Nat → State → State
  | 0, s => enterRecovery s
  | fuel + 1, s =>
    match bootCandidate s with
    | none => enterRecovery s
    | some x =>
      let code := slotCheckCode s x
      let ds := signatureDecisions false code
      if ds.isEmpty then verifyNext fuel (rejectSlot x code s)
      else drawDelays ds.length { s with tamper := { s.tamper with decisions := s.tamper.decisions ++ ds } }

/-- IMAGE_VERIFICATION_END: the checks of the boot images have ended. -/
def execImageVerificationEnd (s : State) : Host.Outcome State Fault Refusal :=
  if s.boot.phase = .verifying ∧ signaturesOpen s false = false then complete (verifyNext 2 s) else complete s

/-- The decisions on the signatures of the slot being verified are all taken and agreed. -/
def bootDecided (s : State) : State :=
  match bootCandidate s with
  | none => s
  | some x =>
    let code := slotCheckCode s x
    if code = 0 then bootImage x s else verifyNext 2 (rejectSlot x code s)

/-! ### The reload of the key store (R307, R309, R310) -/

/-- The 96 bytes of a stored entry. -/
def storedEntry (s : State) (e : Nat) : Bytes := slice (96 * (e % 4)) 96 (readPage s .keys (e / 4))

/-- Entries of the store's pages that hold something. -/
def storedEntries (s : State) : List Nat :=
  ((usedPages s .keys).flatMap fun q => (List.range 4).map fun i => 4 * q + i).filter fun e =>
    (storedEntry s e).any fun b => b != 0

/-- The key of an entry, when it authenticates under the storage key. -/
def openEntry (key b : Bytes) : Option Bytes :=
  if (slice 76 20 b).all (fun x => x == 0) then gcmOpen key (slice 16 12 b) (b.take 28) (slice 28 32 b) (slice 60 16 b) else none

/-- An authentic entry fills its slot: an entering one is deleted, and a counter restarts at its floor (R296, R309). -/
def reloadValid (e n attr floor : Nat) (key : Bytes) (s : State) : State :=
  let a := attrOfWord attr
  if a.mark = 1 then deleteEntry 3 e { s with keys := { s.keys with entries := SMap.put s.keys.entries e (n, floor) } }
  else
    let lost := if a.ctrEn then a.counter - floor else 0
    let word := if a.ctrEn then wordOfAttr { a with counter := floor } else attr
    let s := writeSlot n (key.take (algKeyLen a.alg)) word s
    { s with keys := { s.keys with entries := SMap.put s.keys.entries e (n, floor)
                                   forfeited := s.keys.forfeited + BitVec.ofNat 64 lost } }

/-- One entry is read, authenticated and written to its slot. -/
def reloadEntry (key : Bytes) (s : State) (e : Nat) : State :=
  let b := storedEntry s e
  let n := leNat (b.take 4) % 2 ^ 18
  match openEntry key b with
  | some k => if n < slotCount s then reloadValid e n (storedAttr (leNat (slice 4 8 b))) (leNat (slice 12 3 b)) k s else s
  | none => if n < slotCount s then markBad n 3 s else containFault 0x03 0x03 0 (natLE 4 n) [] id s

/-- Every entry is reloaded; the uses forfeited are recorded. -/
def reloadEntries (s : State) : State :=
  let key := storageKey s
  let s := scanStore .keys { s with keys := { s.keys with entries := [], forfeited := 0 } }
  let s := (storedEntries s).foldl (reloadEntry key) s
  if s.keys.forfeited = 0 then s else logEvent 0x0402 deviceSource (natLE 8 s.keys.forfeited.toNat) s

/-- Attribute word of the storage seed, which no rule gives: AES-256, K0 (assumption 28). -/
def seedAttr : Nat := 0x04000DA5

/-- Vault slot 0 is EMPTY: a new seed is drawn, and the store, whose entries can no longer be opened, is erased (R310). -/
def createSeed (s : State) : State :=
  let n := (storedEntries s).length
  let (seed, s) := drawSystem 32 s
  let s := writeVault 0 seed seedAttr s
  let s := { s with keys := { s.keys with entries := [], seedTime := s.sec.deviceTime.toNat } }
  let s := if (usedPages s .keys).isEmpty then s else startErase .seed .keys (usedPages s .keys) s
  logEvent 0x0401 deviceSource (natLE 4 n) s

/-- Vault slot 0 holds no seed. -/
def seedMissing (s : State) : Bool := (vaultSlot s 0).isNone

/-- The key store can be reloaded: the root is held, and a seed is, or can be drawn. -/
def reloadReady (s : State) : Bool := attestReady s && (!seedMissing s || reserveCovers s 32)

/-- The storage key is derived and the store reloaded. -/
def reloadStore (s : State) : State :=
  let s := if seedMissing s then createSeed s else reloadEntries s
  { s with keys := { s.keys with storageHeld := true, reloaded := true } }

/-- A boot record that had to wait for the root is built (R304, R425). -/
def lateRecord (s : State) : State :=
  if s.locket.tailFound && !s.locket.recordQueued && s.locket.pendingRecord.isNone then takeBootRecord s else s

/-- This boot is recorded, or its record is held pending (R425). -/
def bootRecorded (s : State) : Bool := s.locket.pendingRecord.isSome || recordIsDurable s

/-- START_UP_COMPLETE: the reload ends, and with it start-up; an END-OF-LIFE part has no key store steps (R578, R581). -/
def execStartUpComplete (s : State) : Host.Outcome State Fault Refusal :=
  if s.boot.phase ≠ .loading ∨ fatalOpen s = true then complete s
  else
    let s := lateRecord s
    let keyless := decide (s.life.state = .endOfLife)
    if !s.log.tailFound || !bootRecorded s || !(keyless || reloadReady s) then complete s
    else
      let s := if keyless then s else reloadStore s
      complete (clearEscalations { s with boot := { s.boot with phase := .complete } })

/-- UNLOCK_RELOAD_END (R445 step 6). -/
def execUnlockReloadEnd (s : State) : Host.Outcome State Fault Refusal :=
  if s.tamper.reloading && startedUp s && reloadReady s then
    let s := reloadStore s
    complete { s with tamper := { s.tamper with reloading := false } }
  else complete s

end Sys2Proof.Machine
end

