-- ==== Sys2Proof/Machine/Decisions.lean ====
section
/-!
DEFINITION. The second of the two evaluations of each critical decision (R14, R438).
-/
namespace Sys2Proof.Machine

/-- A tamper response stands on either decision. -/
def secondTamper (agrees : Bool) (s : State) : State := if agrees then s else decisionDisagrees 0 s

/-- The decode at the end of a transition (R449): on disagreement, the state with the fewer rights. -/
def secondDecode (agrees : Bool) (s : State) : State :=
  let d := decodeLife (lifeWord s)
  if s.life.transition.isNone then s
  else if agrees then finishTransition d s
  else
    let (other, s) := otherDecode s
    decisionDisagrees 1 (finishTransition (lesserState d other) s)

/-- Debug enable: on disagreement the port is closed and DEBUG-OPEN is taken as set. -/
def secondDebug (agrees : Bool) (s : State) : State :=
  if agrees then s else decisionDisagrees 2 { s with life := { s.life with debugOpen := true, portClosed := true } }

/-- Presence: an input is validated when both agree. -/
def secondPresence (input : Nat) (agrees : Bool) (s : State) : State :=
  if agrees then validateInput input s else decisionDisagrees 3 s

/-- Signature decisions of a kind that still wait. -/
def signaturesLeft (staged : Bool) (s : State) : List (Decision × Bool) :=
  s.tamper.decisions.filter fun d => decide (d.1 = .signature staged)

/-- The decisions of a kind are dropped. -/
def dropSignatures (staged : Bool) (s : State) : State :=
  { s with tamper := { s.tamper with decisions := s.tamper.decisions.filter fun d => decide (d.1 ≠ .signature staged) } }

/-- The check code of the signature whose decisions disagree: the ECDSA signature (5) is decided before the ML-DSA one (6). -/
def disputedCode (left code : Nat) : Nat := if left ≥ 1 ∨ code = 5 then 5 else 6

/-- A signature of a staged image. -/
def secondStaged (agrees : Bool) (s : State) : State :=
  let left := signaturesLeft true s
  let code := slotCheckCode s (inactiveSlot s)
  if inactiveState s ≠ slotVerifying then s
  else if !agrees then decisionDisagrees 4 (finishStaged (disputedCode left.length code) (dropSignatures true s))
  else if left.isEmpty then finishStaged code s else s

/-- A signature of the boot image under verification. -/
def secondBoot (agrees : Bool) (s : State) : State :=
  let left := signaturesLeft false s
  match bootCandidate s with
  | none => s
  | some x =>
    if s.boot.phase ≠ .verifying then s
    else if !agrees then
      verifyNext 2 (decisionDisagrees 4 (rejectSlot x (disputedCode left.length (slotCheckCode s x)) (dropSignatures false s)))
    else if left.isEmpty then bootDecided s else s

/-- A key export: refused unless both permit it. -/
def secondExport (c n : Nat) (first agrees : Bool) (s : State) : State :=
  let s := finishExport c n first agrees s
  if agrees then s else decisionDisagrees 5 s

/-- The second evaluation of a decision. -/
def secondDecision (d : Decision) (first agrees : Bool) (s : State) : State :=
  match d with
  | .tamper _ => secondTamper agrees s
  | .lifeCycle => secondDecode agrees s
  | .debugEnable => secondDebug agrees s
  | .presence input => secondPresence input agrees s
  | .signature true => secondStaged agrees s
  | .signature false => secondBoot agrees s
  | .keyExport c n => secondExport c n first agrees s

/-- DOUBLE_DECISION_SECOND: the oldest open decision is taken again. -/
def execDoubleDecisionSecond (agrees : Bool) (s : State) : Host.Outcome State Fault Refusal :=
  match s.tamper.decisions with
  | [] => complete s
  | d :: rest => complete (secondDecision d.1 d.2 agrees { s with tamper := { s.tamper with decisions := rest } })

end Sys2Proof.Machine
end

