-- ==== Sys2Proof/Machine/Erases.lean ====
section
/-!
DEFINITION. The end of a region erase, and what waited for it (R317, R403, R428, R449, R454, R482).
-/
namespace Sys2Proof.Machine

/-- What an erase that has ended lets continue. -/
def afterErase (e : Erase) (s : State) : State :=
  match e.purpose with
  | .zeroise => s
  | .peerStore => s
  | .seed => s
  | .transition => startBlowing s
  | .latch => finishLatch e.source s
  | .logClear => finishLogClear e.source s
  | .locketClear => finishLocketClear e.source s

/-- REGION_ERASE_END (R403): the erase at the head ends, unless a write is in progress or PWRFAIL_N keeps its pages from
starting (R411); the clear of the Locket waits for the draws of its signatures as well (R331). -/
def execRegionEraseEnd (s : State) : Host.Outcome State Fault Refusal :=
  match s.mram.erases with
  | [] => complete s
  | e :: rest =>
    let signs := decide (e.purpose = .locketClear)
    if s.mram.current.isSome || s.mram.pwrfail || !computeUp s || (signs && !reserveCovers s 256) then complete s
    else
      let s := erasePages e.store e.pages s
      complete (afterErase e { s with mram := { s.mram with erases := rest } })

end Sys2Proof.Machine
end

