-- ==== Sys2Proof/Machine/Issue.lean ====
section
/-!
DEFINITION. The issue of Links: candidates and their rank, the engine chosen, the keys read, draws, energy, deferral, the
hold account, and preemption at yield points (R26, R28, R163 to R169, R179 to R186, R194, R195, R292 to R296, R332).
-/
namespace Sys2Proof.Machine

/-! ### Candidates (R180 to R182, R184) -/

/-- A READY Link that may issue: Chain context, number, words, record, class and owner of its Chain. -/
structure Cand where
  c : Nat
  n : Nat
  l : LinkWords
  r : LinkRun
  prio : Nat
  fn : Nat
  deriving DecidableEq, Repr

/-- The READY Links of Chains that have not expired, but for the Link of the hold account (R194, R200). -/
def readyLinks (s : State) : List Cand :=
  s.disp.chains.flatMap fun x =>
    if x.2.closed || decide (x.2.expiry ≤ s.disp.tick) then []
    else
      (x.2.all.filter fun y => decide (y.2.2.st = .ready)).map fun y =>
        { c := x.1, n := y.1, l := y.2.1, r := y.2.2, prio := x.2.prio, fn := x.2.fn }

/-- The Link of the hold account. -/
def isHeld (s : State) (k : Cand) : Bool :=
  match s.disp.hold with
  | some h => decide (h.chain = k.c) && decide (h.link = k.n)
  | none => false

/-- Inserts by the order in which Links became READY. -/
def insertReady (k : Cand) : List Cand → List Cand
  | [] => [k]
  | j :: t => if k.r.readySeq < j.r.readySeq then k :: j :: t else j :: insertReady k t

/-- One list of R179 or of R184: the Links of a kind and a class, deferred or not, first in first out. -/
def linkList (ready : List Cand) (kind prio : Nat) (deferred : Bool) : List Cand :=
  (ready.filter fun k => decide (engineKind k.l.opcode = kind) && decide (k.prio = prio) && k.r.deferred == deferred).foldr
    insertReady []

/-- The share account of a function (R195). -/
def accountOf (s : State) (fn : Nat) : Int := if fn = 0 then s.energy.pf0Account else (getInst s fn).account

/-- An instance is over its share (R184). -/
def overShare (s : State) (fn : Nat) : Bool :=
  s.modes.word.shared && s.modes.word.throttled && decide (fn ≠ 0) && decide (accountOf s fn < 0)

/-- The Links that leave a ready list for its deferral list: those of an over-share instance that come within the first
four, as the list closes up behind each that leaves. -/
def toDefer (s : State) : List Cand → Nat → List Cand
  | [], _ => []
  | k :: t, left => if left = 0 then [] else if overShare s k.fn then k :: toDefer s t left else toDefer s t (left - 1)

/-- The kinds and classes of the 24 ready lists. -/
def listIndex : List (Nat × Nat) := (List.range 6).flatMap fun k => (List.range 4).map fun p => (k, p)

/-- Moves Links of over-share instances to the deferral lists (R184). -/
def defer (s : State) : State :=
  let ready := (readyLinks s).filter fun k => !isHeld s k
  let moved := listIndex.flatMap fun kp => toDefer s (linkList ready kp.1 kp.2 false) 4
  moved.foldl (fun s k =>
    let s := modifyRun k.c k.n (fun r => { r with deferred := true }) s
    let s := { s with disp := { s.disp with deferrals := s.disp.deferrals + 1 } }
    modifyInst k.fn (fun i => { i with deferrals := i.deferrals + 1 }) s) s

/-- Some Link has been held back since the start of the previous tick (R182). -/
def energyShort (s : State) : Bool := s.disp.heldNow || s.disp.heldBefore

/-- The rank of a candidate, lowest first (R182). -/
def rankOf (s : State) (k : Cand) : List Nat :=
  let large := bit (linkLarge k.l)
  let aged := match k.r.agedAt with
    | some t => [0, t]
    | none => [1, 0]
  [bit (!isHeld s k)] ++ aged ++ [bit k.r.deferred] ++
    (if energyShort s then [large, k.prio] else [k.prio, large]) ++ [engineKind k.l.opcode, k.r.readySeq, k.c, k.n]

/-- Lexicographic order. -/
def rankLess : List Nat → List Nat → Bool
  | [], _ => false
  | _, [] => false
  | a :: s, b :: t => if a < b then true else if b < a then false else rankLess s t

/-- Inserts a candidate by rank. -/
def insertRanked (s : State) (k : Cand) : List Cand → List Cand
  | [] => [k]
  | j :: t => if rankLess (rankOf s k) (rankOf s j) then k :: j :: t else j :: insertRanked s k t

/-- The energy account covers a candidate's cost: the hold account for its own Link, else the bucket (R28, R194). -/
def covers (s : State) (k : Cand) : Bool :=
  decide (s.energy.d > 0) &&
  match s.disp.hold with
  | some h => if isHeld s k then decide (linkCost k.l ≤ h.level) else decide (linkCost k.l ≤ s.energy.level)
  | none => decide (linkCost k.l ≤ s.energy.level)

/-- The ranked candidates of the kinds given: the first four of each list, and the Link of the hold account once its
account covers its cost. -/
def candidates (s : State) (kinds : List Nat) : List Cand :=
  let ready := readyLinks s
  let free := ready.filter fun k => !isHeld s k
  let lists := listIndex.filter fun kp => kinds.contains kp.1
  let firsts := lists.flatMap fun kp => (linkList free kp.1 kp.2 false).take 4 ++ (linkList free kp.1 kp.2 true).take 4
  let held := ready.filter fun k => isHeld s k && covers s k && kinds.contains (engineKind k.l.opcode)
  (held ++ firsts).foldr (insertRanked s) []

/-! ### Engines (R78, R123, R169, R183) -/

/-- Contexts of a lane that run no Link. -/
def freeContexts (s : State) (lane : Nat) : Nat :=
  16 - (s.engines.lanes.filter fun x => decide (x.1 / 16 = lane) && x.2.link.isSome).length

/-- The lane that last loaded the Link's key buffer (R78, R183), when it still has a free context. -/
def lastLane (s : State) (k : Cand) : Option Nat :=
  if k.l.key0Src ≠ 3 then none
  else
    match s.engines.loads.find? fun x => decide (x.chain = k.c) && decide (x.buffer = keyRefStart k.l.key0Ref) with
    | some x => if !isWithdrawn 4 x.lane s && decide (freeContexts s x.lane > 0) then some x.lane else none
    | none => none

/-- The lane with the most free contexts, the lowest-numbered on a tie. -/
def widestLane (s : State) : Option Nat :=
  let lanes := (List.range (laneCount s)).filter fun i => !isWithdrawn 4 i s && decide (freeContexts s i > 0)
  lanes.foldl (fun best i =>
    match best with
    | none => some i
    | some j => if freeContexts s i > freeContexts s j then some i else some j) none

/-- A context of a lane: one that holds nothing, else one whose Chain's key it gives up. -/
def contextIn (s : State) (lane : Nat) : Option Nat :=
  let at_ := (List.range 16).map fun i => 16 * lane + i
  match at_.find? fun i => (SMap.find s.engines.lanes i).isNone with
  | some i => some i
  | none => at_.find? fun i =>
      match SMap.find s.engines.lanes i with
      | some x => x.link.isNone
      | none => true

/-- A pair that runs and holds no job. -/
def pairFree (s : State) (lattice : Bool) (p : Nat) : Bool :=
  let x := getPair s lattice p
  x.running.isNone && x.suspended.isNone && !isWithdrawn (if lattice then 7 else 6) p s

/-- A region holds the key that the Link would retain (R147). -/
def keepsKey (block : Bytes) (k : Cand) (r : Region) : Bool :=
  match r.retained with
  | some t => decide (t.src = k.l.key0Src) && decide (t.ref = k.l.key0Ref) && decide (t.owner = k.fn) &&
      decide (t.header = block.take 48) && decide (t.tag = block.drop (block.length - 16))
  | none => false

/-- The region of a pair that a test accepts. -/
def regionWhere (lattice : Bool) (x : Pair) (p : Region → Bool) : Option Bool :=
  if p x.a then some false else if !lattice && p x.b then some true else none

/-- The pair and region for a Link of kind 4 or 5, among the pairs that `taken` does not name (R183). -/
def pairFor (s : State) (k : Cand) (taken : List Nat) : Option (Nat × Bool) :=
  let lattice := engineKind k.l.opcode == 4
  let block := match getChain s k.c with
    | some ch => operand s ch k.l.in2
    | none => []
  let n := if lattice then latticeCount s else pkeCount s
  let free := (List.range n).filter fun p => pairFree s lattice p && !taken.contains p
  let best := fun (test : Region → Bool) =>
    free.findSome? fun p => (regionWhere lattice (getPair s lattice p) test).map fun b => (p, b)
  match best (keepsKey block k) with
  | some x => some x
  | none =>
    match best (fun r => decide (r.owner = some k.fn)) with
    | some x => some x
    | none => free.head?.map fun p => (p, false)

/-- The lowest-numbered core blocked in WAITW whose mask accepts the opcode (R183, R202), among those that `taken` does not name. -/
def acceptingCore (s : State) (taken : List Nat) (op : Nat) : Option Nat :=
  (List.range (coreCount s)).find? fun j =>
    !isWithdrawn 9 j s && !taken.contains j && match (getCore s j).wait with
    | .waitw mask _ => bitOf mask (op / 16 % 16)
    | _ => false

/-- The engine that R183 chooses for a Link: lane context, hash unit, core, or pair and region as 2p + region. -/
def engineFor (s : State) (k : Cand) (taken : List (Nat × Nat)) : Option Nat :=
  let busy := fun (kind : Nat) => (taken.filter fun t => decide (t.1 = kind)).map (·.2)
  match engineKind k.l.opcode with
  | 0 => some 0
  | 1 =>
    let lane := match lastLane s k with
      | some i => some i
      | none => widestLane s
    (lane.bind (contextIn s)).bind fun i => if (busy 1).contains (i / 16) then none else some i
  | 2 => (List.range (hashCount s)).find? fun i =>
      (SMap.find s.engines.hashes i).isNone && !isWithdrawn 5 i s && !(busy 2).contains i
  | 3 => if firmwareRuns s then acceptingCore s (busy 3) k.l.opcode else none
  | 4 => (pairFor s k (busy 4)).map fun x => 2 * x.1 + bit x.2
  | 5 => (pairFor s k (busy 5)).map fun x => 2 * x.1 + bit x.2
  | _ => none

/-- The unit within its kind that an engine is part of. -/
def unitOfEngine (kind e : Nat) : Nat :=
  match kind with
  | 1 => e / 16
  | 4 => e / 2
  | 5 => e / 2
  | _ => e

/-! ### Keys at issue (R26, R292 to R296) -/

/-- What the reads of a Link's keys give: the keys with the counted slots, a status, or a refusal for now. -/
inductive KeysRead
  | keys (k0 k1 : Option KeyVal) (counted : List Nat)
  | failed (status : Nat) (counted : List Nat)
  | later
  deriving DecidableEq, Repr

/-- Opcodes whose KEY1 is a destination, which issue does not read (R314). -/
def destinationOps : List Nat := [0x101, 0x103, 0x106]

/-- One key reference of a Link. -/
def readKey (s : State) (ch : Chain) (l : LinkWords) (first : Bool) : KeyRead :=
  let op := l.opcode
  let p := l.param
  let src := if first then l.key0Src else l.key1Src
  let ref := if first then l.key0Ref else l.key1Ref
  let use := if first then KeyUse.key0 else KeyUse.key1
  let none_ := KeyRead.key KeyVal.none
  if src = 0 ∨ (!first ∧ destinationOps.contains op) then none_
  else if src = 1 then
    if op = 0x107 then
      match slotRefused s ch.fn ch.epoch (bits ref 0 18) 4 with
      | some st => .failed st
      | none => none_
    else if !first ∧ (op = 0x102 ∨ op = 0x104) then
      match slotRefused s ch.fn ch.epoch (bits ref 0 18) 5 with
      | some st => .failed st
      | none => .key (slotKey s (bits ref 0 18))
    else readWorking s ch.fn ch.epoch (bits ref 0 18) (keyRole op p use false)
  else if src = 2 then readVault s ch.fn (bits ref 0 8) (keyRole op p use false) first (takesVault op p)
  else
    let rec_ := ch.keys.find? fun k => decide (k.start = keyRefStart ref)
    let content := match rec_ with
      | some k => readChain s ch k.start k.len
      | none => []
    readRecord rec_ content (keyRole op p use true)

/-- A working slot that a key reference reads for use, and whose counter a use lowers. -/
def countedSlot (l : LinkWords) (first : Bool) : List Nat :=
  if first then (if l.key0Src = 1 then [bits l.key0Ref 0 18] else [])
  else if l.key1Src = 1 ∧ !destinationOps.contains l.opcode ∧ l.opcode ≠ 0x107 ∧ l.opcode ≠ 0x102 ∧ l.opcode ≠ 0x104 then
    [bits l.key1Ref 0 18]
  else []

/-- The slots as the uses of the slots given leave them. -/
def usedSlots (slots : List Nat) (s : State) : State := slots.foldl (fun s n => (countUse n s).2) s

/-- Both keys of a Link, one access after the other: KEY1 meets the slot as the use of KEY0 has left it, and that use stays counted when
KEY1 is refused (R26, R62, R292, R295). -/
def readKeys (s : State) (ch : Chain) (l : LinkWords) : KeysRead :=
  match readKey s ch l true with
  | .failed st => .failed st []
  | .later => .later
  | .key a =>
    let first := countedSlot l true
    match readKey (usedSlots first s) ch l false with
    | .failed st => .failed st first
    | .later => .later
    | .key b =>
      let some_ := fun (src : Nat) (k : KeyVal) => if src = 0 then none else some k
      .keys (some_ l.key0Src a) (some_ l.key1Src b) (first ++ countedSlot l false)

/-- Slots that a Link names and whose CHECK a read finds wrong become BAD (R291). -/
def noteChecks (l : LinkWords) (s : State) : State :=
  let s := if l.key0Src = 1 then noteCheck (bits l.key0Ref 0 18) s else s
  if l.key1Src = 1 ∧ !destinationOps.contains l.opcode then noteCheck (bits l.key1Ref 0 18) s else s

/-- The bytes a Link draws: an IV is 8 B under a TDES key, of 16 B reserved (R120, R333). -/
def drawNeed (l : LinkWords) (keys : KeysRead) : Nat :=
  let tdes := match keys with
    | .keys k0 k1 _ => ((if l.opcode = 0x203 then k1 else k0).map fun k => algTdes.contains (algOf k.attr)).getD false
    | _ => false
  if (l.opcode = 0x201 ∨ l.opcode = 0x203) && tdes then drawBytes l / 2 else drawBytes l

/-! ### Energy (R28, R186, R194 to R196) -/

/-- A cost is deducted at issue: from the hold account or the bucket, from the commit pool of an admitted Link, and from
the owner's share account. -/
def charge (k : Cand) (s : State) : State :=
  let cost := linkCost k.l
  let large := linkLarge k.l
  let held := isHeld s k
  let s := if held then
      { s with disp := { s.disp with hold := none, holdIssues := s.disp.holdIssues + 1 } }
    else { s with energy := { s.energy with level := s.energy.level - cost } }
  let s := { s with energy := { s.energy with charged := s.energy.charged + BitVec.ofNat 64 cost } }
  let s := if k.n ≥ 32 then s
    else if large then
      modifyChain k.c (fun ch => { ch with large := ch.large - cost })
        { s with energy := { s.energy with largePool := s.energy.largePool - cost } }
    else
      modifyChain k.c (fun ch => { ch with small := ch.small - cost })
        { s with energy := { s.energy with smallPool := s.energy.smallPool - cost } }
  let s := if k.fn = 0 then s
    else modifyInst k.fn (fun i => { i with charged := i.charged + BitVec.ofNat 64 cost }) s
  if !s.modes.word.shared then s
  else if k.fn = 0 then { s with energy := { s.energy with pf0Account := s.energy.pf0Account - cost } }
  else modifyInst k.fn (fun i => { i with account := i.account - cost }) s

/-! ### The issue itself -/

/-- The use counters of the slots read fall, and the Chain's completion waits for their records (R26, R27). -/
def countUses (c : Nat) (slots : List Nat) (s : State) : State :=
  slots.foldl (fun s n =>
    if (attrOfWord (getSlot s n).attr).ctrEn then
      let (rs, s) := countUse n s
      modifyChain c (fun ch => { ch with uses := ch.uses + 1, waitRecords := ch.waitRecords ++ rs }) s
    else s) s

/-- The random buffer covers a draw (R332, R339). -/
def bufferCovers (s : State) (n : Nat) : Bool := decide (n = 0) || (s.rng.filled && decide (n ≤ s.rng.buffer.length))

/-- The bytes a Link draws leave the random buffer (R332). -/
def takeDraw (n : Nat) (s : State) : Bytes × State :=
  (s.rng.buffer.take n,
   { s with rng := { s.rng with buffer := s.rng.buffer.drop n, drawn := s.rng.drawn + BitVec.ofNat 64 n } })

/-- A Link that installs a persistent key takes a free entry of the store (R308). -/
def takeEntry (l : LinkWords) (s : State) : Option Nat × State :=
  if destinationOps.contains l.opcode && bitOf l.param 0 then
    match freeStoreEntry s with
    | some e => (some e, { s with keys := { s.keys with reserved := s.keys.reserved ++ [e] } })
    | none => (none, s)
  else (none, s)

/-- CMAC subkeys K1 and K2 of a key (R78). -/
def cmacSubkeys (k : KeyVal) : List Bytes :=
  match cipherOf (algOf k.attr) with
  | some c =>
    let k1 := cmacDouble c (encryptBlock c k.bytes (zeros (blockLen c)))
    [k1, cmacDouble c k1]
  | none => []

/-- The GCM hash subkey of an AES key with its powers. DESIGN CHOICE (assumption 87): its square stands for the powers, whose number no
rule gives. -/
def gcmSubkeys (k : KeyVal) : List Bytes :=
  if algAes.contains (algOf k.attr) then
    let h := aesEncrypt k.bytes (zeros 16)
    [h, natBE 16 (gf128Mul (beNat h) (beNat h))]
  else []

/-- A lane takes a key buffer's key: it is the last to have loaded it, and keeps the subkeys of that buffer alone for the Chain (R78). -/
def noteLoad (load : LaneLoad) (ls : List LaneLoad) : List LaneLoad :=
  let same := fun (x : LaneLoad) => decide (x.chain = load.chain) && decide (x.buffer = load.buffer)
  let older := fun (x : LaneLoad) => if x.lane = load.lane ∧ x.chain = load.chain then { x with subkeys := [] } else x
  load :: (ls.filter fun x => !same x).map older

/-- A context as it takes a Link. DESIGN CHOICE (assumption 87): the chaining state and the accumulator stand at zero, where they start; a
row ends a Link at once, so that no row shows them between two blocks. -/
def loadContext (k : Cand) (k0 k1 : Option KeyVal) : LaneContext :=
  let key := k0.getD KeyVal.none
  { chain := k.c, link := some k.n, key0 := k0, key1 := k1,
    keyBuffer := if k.l.key0Src = 3 then some (keyRefStart k.l.key0Ref) else none,
    subkeys := cmacSubkeys key, hashKeys := gcmSubkeys key, chaining := zeros 16, accumulator := zeros 16 }

/-- The opcodes that use a private key, and the parameter byte that the block of one carries (R148, R311). -/
def usesPrivate (op : Nat) : Bool := [0x701, 0x702, 0x710, 0x712, 0x720, 0x722, 0x803, 0x812].contains op
def blockParam (op p : Nat) : Nat :=
  match op with
  | 0x701 => bits p 8 8
  | 0x702 => bits p 8 8
  | 0x803 => bits p 0 2
  | 0x812 => bits p 0 2
  | _ => bits p 0 4

/-- The key loader runs: a private key in form 1 (R144, R158). -/
def loaderRuns (op p : Nat) : Bool := usesPrivate op && (decide (op ≥ 0x800) || bitOf p 4)

/-- The private key of a Link: in form 0 the key read at issue, in form 1 the domain key block opened by the pair's
loader with every check of R145; a key of another algorithm, curve, set or modulus length than PARAM names ends with 0x0220. -/
def loadKey (s : State) (op p fn : Nat) (key0 : KeyVal) (block : Bytes) : Except Nat Bytes :=
  if loaderRuns op p then
    match domainOpen key0 (ownDomain s) fn block with
    | .error st => .error st
    | .ok k =>
      if k.param ≠ blockParam op p then .error 0x0220
      else
        match roleRefused (keyRole op p .block false) k.attr with
        | some st => .error st
        | none => .ok k.key
  else if usesPrivate op then .ok key0.bytes
  else .ok []

/-- The key that a pair retains once its loader has decrypted it (R147). -/
def retainedKey (k : Cand) (block key : Bytes) : Retained :=
  { src := k.l.key0Src, ref := k.l.key0Ref, header := block.take 48, tag := block.drop (block.length - 16), owner := k.fn,
    attr := leNat (slice 4 8 block), param := (block.getD 14 0).toNat, key := key }

/-- A region takes a job: wiped first when its last owner differs (R169), it receives one copy of the operands and the key (R139,
R145). The pair retains the last key its loader decrypted, in this region (R147). -/
def takeJob (s : State) (k : Cand) (operands : List Bytes) (k0 : Option KeyVal) (b : Bool) (pair : Pair) : Pair :=
  let old := pair.region b
  let r := if old.owner.isSome && decide (old.owner ≠ some k.fn) then old.wiped else old
  let block := operands.getD 2 []
  let r := { r with job := some (k.c, k.n), owner := some k.fn, key := k0, param := k.l.param, operands := operands, yields := 0,
                    points := 0, ran := 0, eligible := true }
  let r : Region := match loadKey s k.l.opcode k.l.param k.fn (k0.getD KeyVal.none) block with
    | .ok key => { r with loadStatus := 0, plain := key,
                          retained := if loaderRuns k.l.opcode k.l.param then some (retainedKey k block key) else r.retained }
    | .error st => { r with loadStatus := st, plain := [] }
  let other := pair.region (!b)
  let keep := !loaderRuns k.l.opcode k.l.param || decide (r.loadStatus ≠ 0)
  (pair.setRegion b r).setRegion (!b) (if keep then other else { other with retained := none })

/-- The engine takes the Link with its keys (R123, R139, R169): a wipe, and a use of a retained key, are counted. -/
def enterEngine (k : Cand) (e : Nat) (k0 k1 : Option KeyVal) (s : State) : State :=
  match engineKind k.l.opcode with
  | 0 => s
  | 1 =>
    let x := loadContext k k0 k1
    let loads := match x.keyBuffer with
      | some b => noteLoad { lane := e / 16, chain := k.c, buffer := b, subkeys := x.subkeys } s.engines.loads
      | none => s.engines.loads
    { s with engines := { s.engines with lanes := SMap.put s.engines.lanes e x, loads := loads } }
  | 2 => { s with engines := { s.engines with hashes := SMap.put s.engines.hashes e { job := some (k.c, k.n), key := k0 } } }
  | 3 => s
  | _ =>
    let lattice := engineKind k.l.opcode == 4
    let b := e % 2 == 1
    let pair := getPair s lattice (e / 2)
    let operands := match getChain s k.c with
      | some ch => [operand s ch k.l.in0, operand s ch k.l.in1, operand s ch k.l.in2]
      | none => []
    let old := pair.region b
    let after := takeJob s k operands k0 b pair
    let wipes := bit (old.owner.isSome && decide (old.owner ≠ some k.fn))
    let again := bit (loaderRuns k.l.opcode k.l.param && (after.region b).retained.isSome &&
      decide ((after.region b).retained = old.retained) && decide ((after.region b).loadStatus = 0) && decide (wipes = 0))
    putPair lattice (e / 2) { after with running := some b }
      { s with engines := { s.engines with wipes := s.engines.wipes + BitVec.ofNat 64 wipes
                                           retainedUses := s.engines.retainedUses + BitVec.ofNat 64 again } }

/-- What issue gives a Link: draw, nonce or IV, reserved entry and due tick, and the state ISSUED. A DELAY falls due at
the first tick edge at least PARAM µs later (R63); DEDUCED (log 33): a row between two edges lies strictly after the first. -/
def startRun (k : Cand) (e : Nat) (draw : Nat) (s : State) : State :=
  let (bytes, s) := takeDraw draw s
  let (nonce, s) := if makesNonce k.l.opcode k.l.param && noncesLeft s then takeNonce s else ([], s)
  let iv := (decide (k.l.opcode = 0x201) || decide (k.l.opcode = 0x203)) && decide (draw > 0)
  let (entry, s) := takeEntry k.l s
  let delay := decide (k.l.opcode = 0x004)
  let due := if delay then some (s.disp.tick + k.l.param + 1) else none
  let seq := s.disp.insertSeq
  let s := if delay then { s with disp := { s.disp with insertSeq := seq + 1 } } else s
  let unit := if engineKind k.l.opcode = 0 then none else some (unitOfEngine (engineKind k.l.opcode) e)
  modifyRun k.c k.n (fun r => { r with
    st := .issued, nonce := if iv then bytes else nonce, draw := if iv then [] else bytes, unit := unit, dueTick := due,
    dueSeq := if delay then seq else r.dueSeq, entry := entry }) s

/-- g8 to g13 of a Link handed over (R354). -/
def handoverWords (s : State) (k : Cand) (ch : Chain) : List (BitVec 64) :=
  let l := k.l
  [BitVec.ofNat 64 (l.opcode + bit l.soft * 2 ^ 12 + l.param * 2 ^ 32),
   BitVec.ofNat 64 (k.c + k.n * 2 ^ 16 + k.prio * 2 ^ 24 + k.fn * 2 ^ 32 + ch.epoch % 2 ^ 16 * 2 ^ 48),
   BitVec.ofNat 64 (l.in0 + l.in1 * 2 ^ 32), BitVec.ofNat 64 (l.in2 + l.out * 2 ^ 32),
   BitVec.ofNat 64 (l.key0Ref + l.key1Ref * 2 ^ 32),
   BitVec.ofNat 64 (l.key0Src + l.key1Src * 4 + s.disp.tick % 2 ^ 32 * 2 ^ 32)]

/-- A core receives a Link: predictors that another owner trained are reset (R203, R354, R368). -/
def handOver (k : Cand) (j : Nat) (words : List (BitVec 64)) (s : State) : State :=
  let s := modifyRun k.c k.n (fun r => { r with st := .issued, unit := some j }) s
  let s := modifyCore j (fun c =>
    let globals := (List.range 6).foldl (fun g i => setAt g (8 + i) (words.getD i 0)) c.globals
    { c with globals := globals, link := some (k.c, k.n), stored := [], lastOwner := some k.fn,
             predictors := if c.lastOwner = some k.fn then c.predictors else Predictors.cold }) s
  let s := { s with cores := { s.cores with handed := s.cores.handed + 1 } }
  endWait j 0 s

/-- A Link issues on an engine: its cost is deducted, its keys are read with every check, its counters fall, and the
engine takes it. -/
def startOn (k : Cand) (e : Nat) (keys : KeysRead) (s : State) : State :=
  let words := match getChain s k.c with
    | some ch => handoverWords s k ch
    | none => []
  let s := charge k s
  let s := if k.r.agedAt.isSome then { s with disp := { s.disp with agedIssues := s.disp.agedIssues + 1 } } else s
  if engineKind k.l.opcode = 3 then handOver k e words s
  else
    let s := startRun k e (drawNeed k.l keys) s
    match keys with
    | .keys k0 k1 counted => enterEngine k e k0 k1 (countUses k.c counted s)
    | .failed _ counted => noteChecks k.l (countUses k.c counted s)
    | .later => s

/-- The failure of a Link whose keys are refused. -/
def keyFailure (k : Cand) (keys : KeysRead) : List (Nat × Nat × Nat) :=
  match keys with
  | .failed st _ => [(k.c, k.n, st)]
  | _ => []

/-- Inserts a failure by its Link number. -/
def insertFailure (f : Nat × Nat × Nat) : List (Nat × Nat × Nat) → List (Nat × Nat × Nat)
  | [] => [f]
  | g :: t => if f.2.1 < g.2.1 then f :: g :: t else g :: insertFailure f t

/-- The failures of one ECLK take effect together: the lowest-numbered Link gives its Chain's status, and Links that issued in the same
ECLK run on (R61). -/
def applyFailures (fs : List (Nat × Nat × Nat)) (s : State) : State :=
  (fs.foldr insertFailure []).foldl (fun s f => failLink f.1 f.2.1 f.2.2 s) s

/-- A Link issues, and fails at once when its keys are refused. -/
def issueOn (k : Cand) (e : Nat) (keys : KeysRead) (s : State) : State := applyFailures (keyFailure k keys) (startOn k e keys s)

/-! ### The accesses of an issue (R392 to R395) -/

/-- Address ranges that a reference into chain memory covers. -/
def refAddrs (ch : Chain) (r : Nat) : List Nat := if refKind r = 2 then chainAddrs ch (refStart r) (refLen r) else []

/-- The accesses that a Link brings with it, as master, kind and addresses: its operands and its output by its engine, its key slots by the
key-slot port, and its unit's own memory. DESIGN CHOICE (assumption 86): they are checked when the Link issues; the tables are locked, so
that no later check can answer otherwise. -/
def issueAccesses (ch : Chain) (l : LinkWords) (e : Nat) : List (Nat × Nat × List Nat) :=
  let kind := engineKind l.opcode
  if kind = 3 then []
  else
    let master := match kind with
      | 0 => 4
      | 1 => 1
      | 2 => 2
      | _ => 3
    let slot := fun (src ref : Nat) => if src = 1 then [0x40000000 + 64 * bits ref 0 18] else []
    let dest := destinationOps.contains l.opcode
    let unit := if kind = 5 then [0x20000000 + 0x20000 * (e / 2), 0x20010000 + 0x20000 * (e / 2)]
      else if kind = 4 then [0x20400000 + 0x20000 * (e / 2), 0x20410000 + 0x20000 * (e / 2)] else []
    [(master, 0, [l.in0, l.in1, l.in2].flatMap (refAddrs ch)), (master, 1, refAddrs ch l.out), (master, 1, unit),
     (slotMaster, 0, slot l.key0Src l.key0Ref), (slotMaster, if dest then 1 else 0, slot l.key1Src l.key1Ref)]

/-- The accesses of an issue that are refused: master, kind and address. A slot number beyond the grade's is no access: the slot's own check
refuses it (R292). -/
def refusedAccesses (s : State) (ch : Chain) (l : LinkWords) (e : Nat) : List (Nat × Nat × Nat) :=
  (issueAccesses ch l e).flatMap fun a =>
    let addrs := if a.1 = slotMaster then a.2.2.filter fun x => decide (x < 0x40000000 + 64 * slotCount s) else a.2.2
    (refusedAt s a.1 a.2.1 addrs).map fun x => (a.1, a.2.1, x)

/-- Refusals at an issue are Fatal (R393). -/
def refuseIssue (bad : List (Nat × Nat × Nat)) (s : State) : State := bad.foldl (fun s a => refuseHardware a.1 a.2.1 a.2.2 s) s

/-! ### The ports (R182, R193, R194) -/

/-- DELAY entries of the timer list in use (R198). -/
def delayEntries (s : State) : Nat :=
  (s.disp.chains.map fun x => (x.2.all.filter fun y => decide (y.2.1.opcode = 0x004) && decide (y.2.2.st = .issued)).length).foldl
    (· + ·) 0

/-- What a port makes of a candidate: passed over, held back, or issued on a unit, with what its keys were. -/
inductive PortResult
  | passed
  | short
  | issued (unit : Nat) (keys : KeysRead)
  deriving DecidableEq, Repr

/-- A candidate's Link is still READY. -/
def stillReady (ch : Chain) (k : Cand) : Bool := decide (ch.stateOf k.n = .ready) && !ch.closed

/-- A port tries a candidate on the engine chosen for it. -/
def tryIssue (k : Cand) (engine : Option Nat) (s : State) : PortResult × State :=
  match engine, getChain s k.c with
  | some e, some ch =>
    if !stillReady ch k ∨ (k.l.opcode = 0x004 ∧ delayEntries s ≥ 3712) then (.passed, s)
    else
      let keys := if engineKind k.l.opcode = 3 then .keys none none [] else readKeys s ch k.l
      if keys = .later then (.passed, s)
      else if !bufferCovers s (drawBytes k.l) then
        (.passed, { s with rng := { s.rng with passOvers := s.rng.passOvers + 1 } })
      else if !covers s k then (.short, s)
      else
        let bad := refusedAccesses s ch k.l e
        if bad ≠ [] then (.passed, refuseIssue bad s)
        else (.issued (unitOfEngine (engineKind k.l.opcode) e) keys, startOn k e keys s)
  | _, _ => (.passed, s)

/-- A held-back Link: the tick counts as held, and a large aged Link that ranks first opens the hold account (R193,
R194). -/
def holdBack (k : Cand) (first : Bool) (s : State) : State :=
  let s := { s with disp := { s.disp with heldNow := true } }
  if first && linkLarge k.l && k.r.agedAt.isSome && s.disp.hold.isNone then
    { s with disp := { s.disp with hold := some { chain := k.c, link := k.n, level := 0 } } }
  else s

/-- The dispatch ports take candidates in rank order; answers the key failures of the ECLK. -/
def runPorts : List Cand → Nat → List (Nat × Nat) → Bool → State → List (Nat × Nat × Nat) × State
  | [], _, _, _, s => ([], s)
  | k :: t, ports, taken, first, s =>
    if ports = 0 then ([], s)
    else
      match tryIssue k (engineFor s k taken) s with
      | (.passed, s) => runPorts t ports taken false s
      | (.short, s) => ([], holdBack k first s)
      | (.issued u keys, s) =>
        let kind := engineKind k.l.opcode
        let r := runPorts t (ports - 1) (if kind = 0 then taken else (kind, u) :: taken) false s
        (keyFailure k keys ++ r.1, r.2)

/-- The dispatcher works: ECLK runs and no reset is asserted. -/
def dispatching (s : State) : Bool := !s.modes.word.doze && decide (s.boot.phase ≠ .inReset)

/-- A candidate's kind has a free engine. -/
def hasEngine (s : State) (k : Cand) : Bool := (engineFor s k []).isSome

/-- The ranked candidates whose kind has a free engine. -/
def issuable (s : State) : List Cand := (candidates s [0, 1, 2, 3, 4, 5]).filter (hasEngine s)

/-- One ECLK of the four ports, over the six kinds (R182). -/
def issueCycle (s : State) : State :=
  if !dispatching s then s
  else
    let s := defer s
    let r := runPorts (issuable s) 4 [] true s
    applyFailures r.1 r.2

/-- LINK_ISSUE (R182): one ECLK of the four ports. -/
def execLinkIssue (s : State) : Host.Outcome State Fault Refusal := complete (issueCycle s)

/-- FIRMWARE_LINK_HANDOVER (R182, R203): the same ECLK, where the ports hand a firmware Link to a core; where they hand none over, the row
has no effect. -/
def execFirmwareLinkHandover (s : State) : Host.Outcome State Fault Refusal :=
  let t := issueCycle s
  if t.cores.handed ≠ s.cores.handed then complete t else complete s

/-! ### Yield points (R140, R163 to R168) -/

/-- The yield limit of a Chain's epoch (R67, R165). -/
def yieldLimitOf (s : State) (c : Nat) : Nat :=
  match getChain s c with
  | some ch => if BitVec.ofNat 16 ch.epoch = s.epochs.current then s.epochs.config.yieldLimit
               else s.epochs.oldConfig.yieldLimit
  | none => 0

/-- A waiting Link may preempt the job of a region (R165). -/
def mayPreempt (r : Region) (l : LinkWords) (prio : Nat) (k : Cand) : Bool :=
  decide (k.prio ≤ prio) && decide (pkeLatency k.l + r.ran < pkeLatency l)

/-- The first of the ranked candidates that a pair can start in its free region. -/
def preempt (p : Nat) (b : Bool) : List Cand → State → State
  | [], s => s
  | k :: t, s =>
    match getChain s k.c with
    | some ch =>
      let keys := readKeys s ch k.l
      if keys = .later ∨ !covers s k then preempt p b t s
      else if !bufferCovers s (drawBytes k.l) then
        preempt p b t { s with rng := { s.rng with passOvers := s.rng.passOvers + 1 } }
      else
        let pair := getPair s false p
        let r := pair.region b
        let r := { r with yields := r.yields + 1 }
        let bad := refusedAccesses s ch k.l (2 * p + bit (!b))
        if bad ≠ [] then refuseIssue bad s else
        let limit := match r.job with
          | some j => yieldLimitOf s j.1
          | none => 0
        let s := putPair false p { pair.setRegion b r with running := none, suspended := some b } s
        let s := { s with engines := { s.engines with
          yields := s.engines.yields + 1
          yieldLimits := if r.yields = limit then s.engines.yieldLimits + 1 else s.engines.yieldLimits } }
        let s := issueOn k (2 * p + bit (!b)) keys s
        -- A candidate that fails at its issue leaves the pair at once, and the suspended job resumes.
        let q := getPair s false p
        if q.running.isNone ∧ q.suspended = some b then putPair false p { q with running := some b, suspended := none } s
        else s
    | none => preempt p b t s

/-- The 16 B yield seed, which ends a draw (R333; assumption 18). -/
def yieldSeed (draw : Bytes) : Bytes := draw.drop (draw.length - 16)

/-- A job passes a yield point and goes on, or yields to a candidate. A job that has resumed may yield at the first yield point it then
reaches (R165). -/
def passYield (lattice : Bool) (p : Nat) (b : Bool) (c : Nat) (ch : Chain) (l : LinkWords) (run : LinkRun) (s : State) :
    State :=
  let pair := getPair s lattice p
  let r := pair.region b
  let step := Config.yieldInterval (yieldSeed run.draw) r.points
  let moved := { r with points := r.points + 1, ran := r.ran + step, eligible := true }
  let s := putPair lattice p (pair.setRegion b moved) s
  let anyFree := (List.range (pkeCount s)).any fun i => pairFree s false i
  if lattice || anyFree || pair.suspended.isSome || !moved.eligible || decide (r.yields ≥ yieldLimitOf s c) then s
  else preempt p b ((candidates s [5]).filter (mayPreempt moved l ch.prio)) s

/-- YIELD_POINT: the digests are compared, a job that is to stop stops, and a PKE job may yield. -/
def execYieldPoint (lattice : Bool) (pair : Nat) (agree : Bool) (s : State) : Host.Outcome State Fault Refusal :=
  let x := getPair s lattice pair
  match x.running with
  | none => complete s
  | some b =>
    match (x.region b).job with
    | none => complete s
    | some (c, n) =>
      match getChain s c with
      | none => complete s
      | some ch =>
        match ch.link n with
        | none => complete s
        | some (l, r) =>
          if !agree then complete (pairMismatch lattice pair 1 s)
          else if r.stopping then complete (stopLink c n s)
          else complete (passYield lattice pair b c ch l r s)

end Sys2Proof.Machine
end

