-- ==== Sys2Proof/Machine/Fife.lean ====
section
/-!
DEFINITION. The rows of the Fife cores: the wait group, calls and spills, loads and stores, handover, engine requests, the
all-waiting detector, and the watchdogs (R202 to R208, R342 to R370).
-/
namespace Sys2Proof.Machine

/-! ### WAITW, WAITE and what ends them (R202 to R206, R354, R355) -/

/-- The due tick of a timeout in µs, 0 being none: a wait begins after the last edge, so that the first edge at least the timeout later is
one past it (R206). -/
def timeoutDue (s : State) (us : Nat) : Option Nat := if us = 0 then none else some (s.disp.tick + us + 1)

/-- The core blocks; its timeout, where it has one, is inserted in the delay lists (R199). -/
def startWait (k rd : Nat) (w : CoreWait) (s : State) : State :=
  let seq := s.disp.insertSeq
  let s := modifyCore k (fun c => { c with wait := w, waitRd := rd % 32, waitedAt := s.disp.tick, waitSeq := seq }) s
  { s with disp := { s.disp with insertSeq := seq + 1 } }

/-- WAITW (R202): the core blocks until a Link, a timeout or the detector ends the wait. -/
def execWaitw (core rd rs1 rs2 : Nat) (s : State) : Host.Outcome State Fault Refusal :=
  complete (instruct core (fun s =>
    let c := getCore s core
    if c.holds then trapWord core 0x0A s
    else
      startWait core rd (.waitw ((c.reg rs1).toNat % 2 ^ 16) (timeoutDue s ((c.reg rs2).toNat % 2 ^ 32))) s) s)

/-- WAITE (R204, R205): an event that is already pending is delivered at once. -/
def execWaite (core rd rs1 rs2 : Nat) (s : State) : Host.Outcome State Fault Refusal :=
  complete (instruct core (fun s =>
    let c := getCore s core
    let mask := (c.reg rs1).toNat % 2 ^ 16
    let s := startWait core rd (.waite mask (timeoutDue s ((c.reg rs2).toNat % 2 ^ 32))) s
    let m := maskFor s core mask
    if eventWord s core m = 0 then s else deliverEvents core m s) s)

/-- EVENT_DELIVERY (R205). -/
def execEventDelivery (core : Nat) (s : State) : Host.Outcome State Fault Refusal :=
  match (getCore s core).wait with
  | .waite mask _ =>
    let m := maskFor s core mask
    if firmwareRuns s && decide (core < coreCount s) && decide (eventWord s core m ≠ 0) then complete (deliverEvents core m s)
    else complete s
  | _ => complete s

/-- WAIT_TIMEOUT (R206): a covered event that is pending wins the tie. -/
def execWaitTimeout (core : Nat) (s : State) : Host.Outcome State Fault Refusal :=
  match dueIs s .waitTimeout core 0 with
  | none => complete s
  | some d =>
    let s := dropDue d s
    match (getCore s core).wait with
    | .waite mask _ =>
      let m := maskFor s core mask
      complete (if eventWord s core m = 0 then endWait core 1 s else deliverEvents core m s)
    | _ => complete (endWait core 1 s)

/-- ALL_WAITING_DETECTOR_FIRE (R207, R208): the lowest-numbered core that waits gets DEADLOCK. -/
def execAllWaitingDetectorFire (s : State) : Host.Outcome State Fault Refusal :=
  if !(decide (s.disp.allWaitingFor ≥ 100) && s.disp.detectorArmed && firmwareRuns s && allWaiting s) then complete s
  else
    match (List.range (coreCount s)).find? fun j => decide ((getCore s j).wait ≠ .running) with
    | none => complete s
    | some j =>
      let s := containFault 9 0x40 j [byte j] [] id s
      let s := { s with disp := { s.disp with allWaitingFor := 0, detectorArmed := false, waitCycles := s.disp.waitCycles + 1 } }
      complete (endWait j 2 s)

/-! ### LEND and ENGREQ (R356 to R359) -/

/-- LEND: stalls while requests of the Link are outstanding. The same row, or the next tick edge, ends the stall. -/
def execLend (core rs1 : Nat) (s : State) : Host.Outcome State Fault Refusal :=
  let s := finishLends s
  complete (instruct core (fun s =>
    let c := getCore s core
    let status := (c.reg rs1).toNat % 2 ^ 16
    if !c.holds then trapWord core 0x0A s
    else if c.link.isSome && c.engBusy.any id then modifyCore core (fun c => { c with lending := some status }) s
    else finishLend core status s) s)

/-- A buffer reference of a request lies within a range of the held Link. -/
def withinRef (r held : Nat) : Bool :=
  decide (refKind held = 2) && decide (refStart held ≤ refStart r) && decide (refStop r ≤ refStop held)

/-- The faults of a request, of R358 and of R56 for its entry alone. -/
def requestFaults (s : State) (ch : Chain) (n : Nat) (held l : LinkWords) : List Nat :=
  let ins := [l.in0, l.in1, l.in2]
  let ranges := [held.in0, held.in1, held.in2, held.out]
  let keyOk := fun (src ref : Nat) => decide (src = 0) ||
    (decide (src = held.key0Src) && decide (ref = held.key0Ref)) ||
    (decide (src = held.key1Src) && decide (ref = held.key1Ref))
  let inOk := fun (r : Nat) => decide (refKind r ≤ 1) || (ranges.any fun h => withinRef r h)
  let readers := (ch.body.links.flatMap fun x => [x.in0, x.in1, x.in2]) ++ (List.range ch.body.wbCount).map ch.body.wb
  let exposed := match protectedRange l with
    | some p => readers.any fun r => decide (refKind r = 2) && overlaps p (refStart r, refStop r)
    | none => false
  let requested := ch.requested.any fun q =>
    match protectedRange q.2.1 with
    | some p => ins.any fun r => decide (refKind r = 2) && overlaps p (refStart r, refStop r)
    | none => false
  entryFaults s.images.firmwareOps l ++
    (if l.group = 0xB ∨ l.opcode = 0x004 ∨ l.guardCond ≠ 0 then [0x0103] else []) ++
    (if ins.all inOk then [] else [0x0106]) ++
    (if refKind l.out = 0 || withinRef l.out held.out then [] else [0x0106]) ++
    (if keyOk l.key0Src l.key0Ref && keyOk l.key1Src l.key1Ref then [] else [0x010F]) ++
    readFaults ch.body (n + 1) (takesPin l.opcode) l.in0 ++ readFaults ch.body (n + 1) false l.in1 ++
    readFaults ch.body (n + 1) false l.in2 ++ (if exposed || requested then [0x010C] else [])

/-- Link-group rights of a function under an epoch that Chains still carry (R67). -/
def rightsIn (s : State) (fn epoch : Nat) : Nat :=
  if fn = 0 then 0xFFF
  else if BitVec.ofNat 16 epoch = s.epochs.current then (getInst s fn).rights else (getInst s fn).oldRights

/-- The status that refuses a request; 0x0201 only when nothing else does (R56, R358). -/
def requestRefused (s : State) (ch : Chain) (n : Nat) (held l : LinkWords) : Option Nat :=
  match lowest (requestFaults s ch n held l) with
  | some f => some f
  | none => if bitOf (rightsIn s ch.fn ch.epoch) l.group then none else some 0x0201

/-- The bytes of the held OUT that a request's inputs read and the Link has not stored: OUT behaves as if zeroed at handover, so that
they read as zero (R352). -/
def unstoredInputs (k : Core) (ch : Chain) (held l : LinkWords) : List Nat :=
  let read := [l.in0, l.in1, l.in2].flatMap fun r =>
    if refKind r = 2 then (List.range (refLen r)).map (refStart r + ·) else []
  read.eraseDups.filter fun o => refCovers held.out o && !writtenOut k ch o

/-- Those bytes take their zeros, as stores of the Link. -/
def zeroInputs (core : Nat) (ch : Chain) (held l : LinkWords) (s : State) : State :=
  let offs := unstoredInputs (getCore s core) ch held l
  modifyCore core (fun k => { k with stored := k.stored ++ offs }) (offs.foldl (fun s o => writeChain ch o [0] s) s)

/-- Requests that the dispatcher has accepted and not issued: its Fife request queue (R358, R359). -/
def requestQueue (s : State) : Nat :=
  (s.disp.chains.flatMap fun e => e.2.requested.filter fun q => decide (q.2.2.st = .ready)).length

/-- A request becomes a Link of the Chain; the request that used the tag before is kept under a number of its own. -/
def acceptRequest (core tag c : Nat) (l : LinkWords) (s : State) : State :=
  let num := 32 + 4 * core + tag
  let s := modifyChain c (fun ch =>
    let old := ch.requested.map fun q => if q.1 = num then (1024 + ch.requested.length, q.2.1, q.2.2) else q
    let run := { LinkRun.pending with st := .ready, readySeq := s.disp.readySeq }
    { ch with requested := old ++ [(num, l, run)] }) s
  let s := { s with disp := { s.disp with readySeq := s.disp.readySeq + 1 }
                    cores := { s.cores with engineReqs := s.cores.engineReqs + 1 } }
  let s := noteGrant (requestPort core) s
  let s := modifyCore core (fun k =>
    { k with engst := setAt k.engst tag 0, engBusy := setAt k.engBusy tag true }.count 9 1) s
  match getChain s c with
  | some ch => if ch.closed then noteFinal c (modifyRun c num (fun r => { r with st := .skipped })
                 (reportRequest c num 0x0601 false s)) else s
  | none => s

/-- The wait hint of a core's request port (R221). -/
def requestHint (s : State) (core : Nat) : BitVec 64 := BitVec.ofNat 64 (waitHint s (requestPort core))

/-- ENGREQ (R358): the entry at the address in RS1 is refused, answered NONE while the core's four tags are busy or the request queue
is full, or accepted with a tag. -/
def execEngreq (core rd rs1 : Nat) (s : State) : Host.Outcome State Fault Refusal :=
  complete (instruct core (fun s =>
    let k := getCore s core
    let a := (k.reg rs1).toNat
    match heldLink s core with
    | none => if k.abortAt.isSome then modifyCore core (fun k =>
                ({ k with erej := 0x0601 }.setReg rd 0xFE).advance) s
              else trapWord core 0x0A s
    | some (c, n, ch, held, _) =>
      if a % 8 ≠ 0 then trap core 7 a s
      else if a < 0x20000 ∨ 0x40000 < a + 32 then trap core 5 a s
      else
        let l := linkOfBytes (Memory.readN s.scratch (0x40000 * core + a) 32)
        match requestRefused s ch n held l with
        | some st => modifyCore core (fun k => ({ k with erej := BitVec.ofNat 64 st }.setReg rd 0xFE).advance) s
        | none =>
          let free := if requestQueue s < Config.requestQueueDepth then
              (List.range 4).find? fun t => !(k.engBusy.getD t false) else none
          match free with
          | none => modifyCore core (fun k => ({ k with hint := requestHint s core }.setReg rd 0xFF).advance) s
          | some t =>
            let s := modifyCore core (fun k => (k.setReg rd (BitVec.ofNat 64 t)).advance) s
            acceptRequest core t c l (zeroInputs core ch held l s)) s)

/-! ### Signals, random values, timers and CSRs (R360 to R362, R369) -/

/-- SIGNAL (R360). -/
def execSignal (core rs1 : Nat) (s : State) : Host.Outcome State Fault Refusal :=
  complete (instruct core (fun s =>
    let t := ((getCore s core).reg rs1).toNat
    let s := modifyCore core Core.advance s
    if t < coreCount s ∧ !isWithdrawn 9 t s then postCoreEvent t 0 s else s) s)

/-- RNDRD (R362): 8 B of the system reserve, the first in the low byte. -/
def execRndrd (core rd : Nat) (s : State) : Host.Outcome State Fault Refusal :=
  complete (instruct core (fun s =>
    if s.rng.state = 1 ∧ reserveCovers s 8 then
      let (v, s) := drawSystem 8 s
      modifyCore core (fun c => ({ c with rndst := 1 }.setReg rd (BitVec.ofNat 64 (leNat v))).advance) s
    else modifyCore core (fun c => ({ c with rndst := 0 }.setReg rd 0).advance) s) s)

/-- The value of a CSR; TMR0 to TMR7 are write-only, and a read of one gives bits no rule gives. -/
def csrValue (s : State) (core csr : Nat) : Option (BitVec 64) :=
  let c := getCore s core
  match csr with
  | 0x000 => some (BitVec.ofNat 64 core)
  | 0x001 => some c.tcause
  | 0x002 => some c.epc
  | 0x003 => some c.tval
  | 0x004 => some (BitVec.ofNat 64 c.cwp)
  | 0x005 => some (BitVec.ofNat 64 c.winuse)
  | 0x006 => some c.ssp
  | 0x007 => some c.ssl
  | 0x008 => some c.hint
  | 0x009 => some c.erej
  | 0x00A => some c.rndst
  | 0x00B => some c.tmrf
  | 0x00C => some (BitVec.ofNat 64 c.pwp)
  | 0x00D => some (BitVec.ofNat 64 c.spilln)
  | n =>
    if 0x010 ≤ n ∧ n ≤ 0x013 then some (c.engst.getD (n - 0x010) 0)
    else if 0x018 ≤ n ∧ n ≤ 0x01F then some (Config.freeBits s.freeUses)
    else if 0x100 ≤ n ∧ n ≤ 0x109 then some (c.counters.getD (n - 0x100) 0)
    else none

/-- CSRR (R369): reading TMRF clears it; a number that no CSR has is an undefined encoding. -/
def execCsrr (core rd csr : Nat) (s : State) : Host.Outcome State Fault Refusal :=
  complete (instruct core (fun s =>
    match csrValue s core csr with
    | none => trapWord core 3 s
    | some v =>
      let (_, s) := takeFree s
      modifyCore core (fun c =>
        let c := if csr = 0x00B then { c with tmrf := 0 } else c
        (c.setReg rd v).advance) s) s)

/-- What a write leaves in a core's CSRs; read-only CSRs, and EPC, SSP, SSL and PWP outside their conditions, discard it. -/
def csrWrite (tick seq csr : Nat) (v : BitVec 64) (c : Core) : Core :=
  let trapWindow := decide (c.cwp = 11)
  let setUp := trapWindow || (decide (c.winuse = 1) && decide (c.spilln = 0))
  match csr with
  | 0x002 => if trapWindow then { c with epc := v } else c
  | 0x006 => if setUp then { c with ssp := v } else c
  | 0x007 => if setUp then { c with ssl := v } else c
  | 0x00C => if trapWindow && decide (v.toNat ≤ 10) then { c with pwp := v.toNat } else c
  | n =>
    if 0x018 ≤ n ∧ n ≤ 0x01F then
      { c with timers := setAt c.timers (n - 0x018) (if v = 0 then none else some (tick + v.toNat + 1))
               timerSeqs := setAt c.timerSeqs (n - 0x018) seq }
    else c

/-- CSRW (R361, R369). -/
def execCsrw (core rs1 csr : Nat) (s : State) : Host.Outcome State Fault Refusal :=
  complete (instruct core (fun s =>
    if (csrValue s core csr).isNone then trapWord core 3 s
    else
      let seq := s.disp.insertSeq
      let s := { s with disp := { s.disp with insertSeq := seq + 1 } }
      modifyCore core (fun c => (csrWrite s.disp.tick seq csr (c.reg rs1) c).advance) s) s)

/-- FIRMWARE_TIMER_DUE (R361). -/
def execFirmwareTimerDue (core timer : Nat) (s : State) : Host.Outcome State Fault Refusal :=
  match dueIs s .firmwareTimer core timer with
  | none => complete s
  | some d =>
    let s := dropDue d s
    let s := modifyCore core (fun c =>
      { c with timers := setAt c.timers timer none, tmrf := c.tmrf ||| BitVec.ofNat 64 (2 ^ timer) }) s
    complete (postCoreEvent core 2 s)

/-! ### Windows (R344 to R348) -/

/-- TRET: illegal outside window 11. -/
def execTret (core : Nat) (s : State) : Host.Outcome State Fault Refusal :=
  complete (instruct core (fun s =>
    if (getCore s core).cwp ≠ 11 then trapWord core 3 s
    else modifyCore core (fun c => { c.retire c.epc with cwp := c.pwp }) s) s)

/-- The data part holds the 128 B at an address, and the region tables grant the access. -/
def spillOk (s : State) (core a kind : Nat) : Bool :=
  decide (0x20000 ≤ a) && decide (a + 128 ≤ 0x40000) && decide (a % 8 = 0) &&
    accessPasses s 5 4 (0x30000000 + 0x40000 * core + a) kind

/-- SPILL: the oldest occupied window of the ring goes below SSP. In the trap window the ring stands at PWP. -/
def execSpill (core : Nat) (s : State) : Host.Outcome State Fault Refusal :=
  complete (instruct core (fun s =>
    let c := getCore s core
    let ssp := c.ssp.toNat
    if c.cwp ≠ 11 then trapWord core 3 s
    else if ssp < 128 + c.ssl.toNat ∨ !spillOk s core (ssp - 128) 1 then trap core 6 ((ssp + 2 ^ 64 - 128) % 2 ^ 64) s
    else
      let oldest := (c.pwp + 12 - c.winuse) % 11
      let data := (List.range 16).flatMap fun i => natLE 8 (c.window oldest i).toNat
      let s := { s with scratch := Memory.writeN s.scratch (0x40000 * core + (ssp - 128)) data }
      modifyCore core (fun c =>
        ({ c with ssp := BitVec.ofNat 64 (ssp - 128), spilln := c.spilln + 1, winuse := c.winuse - 1 }.count 7 1).advance) s) s)

/-- FILL: the window below the ring's current one is loaded from SSP. -/
def execFill (core : Nat) (s : State) : Host.Outcome State Fault Refusal :=
  complete (instruct core (fun s =>
    let c := getCore s core
    let ssp := c.ssp.toNat
    if c.cwp ≠ 11 then trapWord core 3 s
    else if c.spilln = 0 ∨ !spillOk s core ssp 0 then trap core 5 ssp s
    else
      let below := (c.pwp + 10) % 11
      let value := fun (i : Nat) => BitVec.ofNat 64 (leNat (Memory.readN s.scratch (0x40000 * core + ssp + 8 * i) 8))
      modifyCore core (fun c =>
        let windows := (List.range 16).foldl (fun m i => SMap.set 0 m (16 * below + i) (value i)) c.windows
        ({ c with windows := windows, ssp := BitVec.ofNat 64 (ssp + 128), spilln := c.spilln - 1,
                  winuse := c.winuse + 1 }.count 8 1).advance) s) s)

/-- CALL: illegal in window 11, overflows when the ring is full. -/
def execCall (core : Nat) (target : BitVec 64) (s : State) : Host.Outcome State Fault Refusal :=
  complete (instruct core (fun s =>
    let c := getCore s core
    if c.cwp = 11 then trapWord core 3 s
    else if c.winuse ≥ 11 then trapWord core 1 s
    else modifyCore core (fun c =>
      { c.retire target with cwp := (c.cwp + 1) % 11, winuse := c.winuse + 1, predictors := c.predictors.call c.pc.toNat target.toNat }) s) s)

/-- RET: underflows on the last window of the ring. -/
def execRet (core : Nat) (target : BitVec 64) (s : State) : Host.Outcome State Fault Refusal :=
  complete (instruct core (fun s =>
    let c := getCore s core
    if c.winuse ≤ 1 then trapWord core 2 s
    else modifyCore core (fun c =>
      { c.retire target with cwp := (c.cwp + 10) % 11, winuse := c.winuse - 1,
                             predictors := { c.predictors with returns := c.predictors.returns.tail } }) s) s)

/-! ### Loads, stores, fetch and BRK (R342, R345, R349, R350, R366, R367) -/

/-- A core load. -/
def execCoreLoad (core rd : Nat) (addr : BitVec 64) (width : Nat) (s : State) : Host.Outcome State Fault Refusal :=
  complete (instruct core (loadAt core rd addr.toNat width) s)

/-- A core store, to an alias too. -/
def execCoreStore (core : Nat) (addr : BitVec 64) (width : Nat) (value : BitVec 64) (s : State) :
    Host.Outcome State Fault Refusal :=
  complete (instruct core (storeAt core addr.toNat width value) s)

/-- The address is one of an alias: 1 bit-set, 2 bit-clear. -/
def aliasOf (s : State) (core a : Nat) : Nat :=
  match placeOf s core a with
  | .scratch _ _ mode => if mode = 3 then 0 else mode
  | _ => 0

/-- BIT_SET_ALIAS_STORE: a store to an address of the bit-set alias. -/
def execBitSetAliasStore (core : Nat) (addr : BitVec 64) (width : Nat) (value : BitVec 64) (s : State) :
    Host.Outcome State Fault Refusal :=
  if aliasOf s core addr.toNat = 1 then complete (instruct core (storeAt core addr.toNat width value) s) else complete s

/-- BIT_CLEAR_ALIAS_STORE: a store to an address of the bit-clear alias. -/
def execBitClearAliasStore (core : Nat) (addr : BitVec 64) (width : Nat) (value : BitVec 64) (s : State) :
    Host.Outcome State Fault Refusal :=
  if aliasOf s core addr.toNat = 2 then complete (instruct core (storeAt core addr.toNat width value) s) else complete s

/-- A word of MAJOR 0x3D: whether the wait group defines it, with every unused field zero (R353). -/
def waitGroupOk (w : Nat) : Bool :=
  let rd := bits w 21 5
  let rs1 := bits w 16 5
  let rs2 := bits w 11 5
  let low := bits w 4 7
  match bits w 0 4 with
  | 0x0 => decide (low = 0)
  | 0x1 => decide (low = 0)
  | 0x2 => decide (rd = 0) && decide (rs2 = 0) && decide (low = 0)
  | 0x3 => decide (rs2 = 0) && decide (low = 0)
  | 0x4 => decide (rd = 0) && decide (rs2 = 0) && decide (low = 0)
  | 0x5 => decide (rs1 = 0) && decide (rs2 = 0) && decide (low = 0)
  | 0x8 => decide (rs1 = 0)
  | 0x9 => decide (rd = 0)
  | 0xA => decide (bits w 4 22 = 0)
  | 0xB => decide (bits w 4 22 = 0)
  | 0xC => decide (bits w 4 22 = 0)
  | _ => false

/-- The instruction that a word of MAJOR 0x3D names: FUNC picks it, and RD, RS1, RS2 and the CSR number are its fields (R353). -/
def waitGroupOf (core w : Nat) : Option Instr :=
  let rd := bits w 21 5
  let rs1 := bits w 16 5
  let rs2 := bits w 11 5
  let csr := bits w 4 12
  if bits w 26 6 ≠ 0x3D ∨ waitGroupOk w = false then none
  else match bits w 0 4 with
    | 0x0 => some (.waitw core rd rs1 rs2)
    | 0x1 => some (.waite core rd rs1 rs2)
    | 0x2 => some (.lend core rs1)
    | 0x3 => some (.engreq core rd rs1)
    | 0x4 => some (.signal core rs1)
    | 0x5 => some (.rndrd core rd)
    | 0x8 => some (.csrr core rd csr)
    | 0x9 => some (.csrw core rs1 csr)
    | 0xA => some (.tret core)
    | 0xB => some (.spill core)
    | 0xC => some (.fill core)
    | _ => none

/-- The meaning of an instruction of the wait group. -/
def runWaitGroup (i : Instr) (s : State) : Host.Outcome State Fault Refusal :=
  match i with
  | .waitw core rd rs1 rs2 => execWaitw core rd rs1 rs2 s
  | .waite core rd rs1 rs2 => execWaite core rd rs1 rs2 s
  | .lend core rs1 => execLend core rs1 s
  | .engreq core rd rs1 => execEngreq core rd rs1 s
  | .signal core rs1 => execSignal core rs1 s
  | .rndrd core rd => execRndrd core rd s
  | .csrr core rd csr => execCsrr core rd csr s
  | .csrw core rs1 csr => execCsrw core rs1 csr s
  | .tret core => execTret core s
  | .spill core => execSpill core s
  | .fill core => execFill core s
  | _ => complete s

/-- INSTRUCTION_FETCH (R345, R353, R366, R367): what the fetch makes observable, at most 16 instructions of wrong paths, is counted. A
word of the wait group then has the effect of the instruction it names, or is illegal; any other word is an ordinary instruction,
which retires to the next word or to its target. One that has a row of its own and no encoding is retired by that row (DESIGN CHOICE,
assumption 51). -/
def execInstructionFetch (core wrongPath fills : Nat) (missed : Bool) (fetched : Fetched) (s : State) :
    Host.Outcome State Fault Refusal :=
  if !coreRuns s core || decide (16 < wrongPath) then complete s
  else
    let w := fetchedWord s core
    let t := modifyCore core (Core.speculate wrongPath fills missed) s
    if fetched = .ownRow then complete t
    else
      match if fetchOk s core then waitGroupOf core w else none with
      | some i => runWaitGroup i t
      | none =>
        complete (instruct core (fun s =>
          if bits w 26 6 = 0x3D then trapWord core 3 s
          else modifyCore core (fun c => (c.train fetched).retire (c.goesTo fetched)) s) t)

/-- BRK (R345). -/
def execBrk (core : Nat) (s : State) : Host.Outcome State Fault Refusal :=
  complete (instruct core (fun s => trapWord core (if s.modes.word.debugOpen then 9 else 3) s) s)

/-! ### Aborts and the watchdog (R363 to R365) -/

/-- ABORT_ACK_TIMEOUT (R363): the Link ceases to be ISSUED and the core receives a unit reset. -/
def execAbortAckTimeout (core : Nat) (s : State) : Host.Outcome State Fault Refusal :=
  match (getCore s core).abortAt with
  | none => complete s
  | some t =>
    if s.disp.tick < t + 500 ∨ !firmwareRuns s ∨ coreCount s ≤ core then complete s
    else
      let s := match (getCore s core).link with
        | some (c, n) => stopLink c n (modifyCore core (fun k => { k with link := none }) s)
        | none => s
      let s := { s with cores := { s.cores with abortTimeouts := s.cores.abortTimeouts + 1 } }
      complete (failCore 3 core [byte core] s)

/-- CORE_WATCHDOG (R364). -/
def execCoreWatchdog (core : Nat) (s : State) : Host.Outcome State Fault Refusal :=
  let c := getCore s core
  if firmwareRuns s && decide (core < coreCount s) && !isWithdrawn 9 core s && !c.halted && decide (c.wait = .running) &&
      decide (s.disp.tick > c.waitedAt + s.cores.watchdog) then
    complete (failCore 4 core [byte core] s)
  else complete s

end Sys2Proof.Machine
end

