-- ==== Sys2Proof/Machine/OdReads.lean ====
section
/-!
DEFINITION. The value of every entry of the object dictionary, and OD_READ (R210, R230, R260, R276, R283, R320, R340, R371, R397,
R430, R458, R484, R507, R508 to R531, R567, R568).
-/
namespace Sys2Proof.Machine

/-- Bits of a list of conditions, lowest first. -/
def flagBits (n : Nat) (p : Nat → Bool) : Nat := ((List.range n).map fun i => bit (p i) * 2 ^ i).foldl (· + ·) 0

/-- A signed number in `n` bytes. -/
def intLE (n : Nat) (i : Int) : Bytes := natLE n (i % (2 ^ (8 * n) : Int)).toNat

/-- An array of numbers of `n` bytes each. -/
def arrayLE (n : Nat) (l : List Nat) : Bytes := l.flatMap (natLE n)

/-! ### Identity, modes and time (0x1000 to 0x2104) -/

/-- The requesting function (OD 0x1001:01). -/
def requester : Path → Nat
  | .mailbox fn => fn
  | .custody => 0xFFFF

/-- The product name. -/
def productName (s : State) : String := byGrade s "SK9120" "SK9080" "SK9040"

/-- OD 0x1000 and 0x1001. -/
def odIdentity (s : State) (p : Path) (index sub : Nat) : Bytes :=
  let sel := pathSel s p
  match index, sub with
  | 0x1000, 0x01 => padTo 16 (ascii "Iafovia")
  | 0x1000, 0x02 => padTo 16 (ascii (productName s))
  | 0x1000, 0x03 => natLE 1 (gradeCode s)
  | 0x1000, 0x04 => natLE 8 s.fuses.serial.toNat
  | 0x1000, 0x05 => natLE 4 s.fuses.dateCode.toNat
  | 0x1000, 0x06 => natLE 4 s.fuses.wafer.toNat
  | 0x1000, 0x07 => natLE 2 s.fuses.vendorId.toNat
  | 0x1000, 0x08 => natLE 2 s.fuses.deviceId.toNat
  | 0x1000, 0x09 => padTo 2 (s.dict.subsystem.take 2)
  | 0x1000, 0x0A => padTo 2 (slice 2 2 s.dict.subsystem)
  | 0x1000, 0x0B => natLE 8 s.sec.deviceTime.toNat
  | 0x1000, 0x0C => natLE 4 s.fuses.bootRom.toNat
  | 0x1000, 0x0D => padTo 97 (attestPoint s)
  | 0x1000, 0x0E => padTo 97 (transportPoint s)
  | 0x1000, 0x0F => natLE 1 s.fuses.tempGrade
  | 0x1000, 0x10 => natLE 1 (certCount s)
  | 0x1000, 0x11 => natLE 1 sel.cert
  | 0x1000, 0x12 => natLE 2 (certLength s sel.cert)
  | 0x1000, 0x13 => padTo 2048 (certBytes s (certStart s sel.cert) (certLength s sel.cert))
  | 0x1000, 0x16 => natLE 1 s.dict.certResult
  | 0x1000, 0x17 => padTo 64 s.dict.board
  | 0x1001, 0x01 => natLE 2 (requester p)
  | 0x1001, 0x02 => natLE 4 sel.readOffset
  | 0x1001, 0x03 => natLE 1 (bit sel.readShadow)
  | 0x1001, 0x04 => natLE 2 0x0100
  | 0x1001, 0x05 => natLE 1 s.dict.configSource
  | _, _ => []

/-- OD 0x1100 and 0x1200. -/
def odModes (s : State) (index sub : Nat) : Bytes :=
  match index, sub with
  | 0x1100, 0x01 => natLE 1 s.life.state.code
  | 0x1100, 0x02 => natLE 32 (lifeWord s)
  | 0x1100, 0x03 => natLE 1 (flagBits 3 fun i => intentBlown s ([LifeCycle.test, .production, .endOfLife].getD i .test))
  | 0x1100, 0x05 => natLE 1 s.life.transitionResult
  | 0x1100, 0x07 => natLE 1 s.life.latchResult
  | 0x1100, 0x08 => natLE 4 s.sec.reopenings.toNat
  | 0x1100, 0x09 => natLE 1 s.life.skipped
  | 0x1200, 0x01 => natLE 4 s.modes.word.toNat
  | 0x1200, 0x02 => natLE 4 s.modes.updates.toNat
  | 0x1200, 0x03 => natLE 8 s.modes.updateTime
  | 0x1200, 0x04 => natLE 1 (bit s.modes.serviceEnable)
  | 0x1200, 0x05 => natLE 4 s.modes.notifyMask.toNat
  | 0x1200, 0x06 => natLE 4 s.modes.dozeIdle1
  | 0x1200, 0x07 => natLE 4 s.modes.dozeIdle2
  | 0x1200, 0x08 => natLE 1 s.modes.dozePermission
  | _, _ => []

/-- The hold account's level, 0 when none is open. -/
def holdShown (s : State) : Nat :=
  match s.disp.hold with
  | some h => h.level
  | none => 0

/-- OD 0x2000. -/
def odEnergy (s : State) (sub : Nat) : Bytes :=
  match sub with
  | 0x01 => natLE 2 (powerCeiling s)
  | 0x02 => natLE 2 (s.energy.newLimit.getD s.energy.limit)
  | 0x03 => natLE 2 (byGrade s 180 120 80)
  | 0x04 => natLE 4 (bucketCapacity s)
  | 0x05 => natLE 4 s.energy.level
  | 0x06 => natLE 2 s.energy.k
  | 0x07 => natLE 2 s.energy.d
  | 0x08 => natLE 1 s.energy.samples
  | 0x09 => intLE 4 s.energy.junction
  | 0x0A => natLE 4 s.energy.measured
  | 0x0B => natLE 8 s.energy.heldTicks.toNat
  | 0x0C => natLE 8 s.energy.charged.toNat
  | 0x0D => natLE 4 s.energy.smallPool
  | 0x0E => natLE 4 s.energy.largePool
  | 0x0F => natLE 4 (holdShown s)
  | 0x10 => natLE 1 s.energy.sensorsOut
  | _ => []

/-- Entries of the timer list in use: DELAY Links, firmware timers, lock leases, and the lease, renewal, guard and retry timers of a pair
(R198). -/
def timersUsed (s : State) : Nat :=
  let delays := (s.disp.chains.map fun x => (x.2.links.filter fun r => decide (r.st = .issued) && r.dueTick.isSome).length)
  let timers := s.cores.cores.map fun x => (x.2.timers.filter Option.isSome).length
  let pair := ((List.range 4).filterMap (leaseDue s)).length
  (delays ++ timers).foldl (· + ·) 0 + s.flow.locks.length + pair

/-- OD 0x2100 and 0x2101; staged entries show the shadow set when the path's read shadow is 1. -/
def odDispatch (s : State) (shadow : Bool) (index sub : Nat) : Bytes :=
  let c := if shadow then mergedConfig s else s.epochs.config
  match index, sub with
  | 0x2100, 0x01 => natLE 4 c.maxDeadline
  | 0x2100, 0x02 => natLE 4 c.defaultDeadline
  | 0x2100, 0x03 => natLE 2 s.epochs.current.toNat
  | 0x2100, 0x04 => natLE 2 s.epochs.old.toNat
  | 0x2100, 0x06 => natLE 1 s.epochs.commitResult
  | 0x2100, 0x07 => natLE 8 s.epochs.expiries.toNat
  | 0x2100, 0x08 => natLE 8 s.disp.tick
  | 0x2100, 0x09 => natLE 2 s.disp.chains.length
  | 0x2100, 0x0A => natLE 2 (timersUsed s)
  | 0x2100, 0x0B => natLE 4 s.disp.waitCycles.toNat
  | 0x2101, 0x05 => natLE 8 s.disp.agedIssues.toNat
  | 0x2101, 0x06 => natLE 8 s.disp.holdIssues.toNat
  | 0x2101, 0x07 => natLE 8 s.disp.deferrals.toNat
  | 0x2101, n => natLE 4 (s.disp.newAgeLimits.getD (n - 1) 0)
  | _, _ => []

/-- OD 0x2102, 0x2103 and 0x2104. -/
def odTemplates (s : State) (index sub : Nat) : Bytes :=
  let r := s.epochs.record
  match index, sub with
  | 0x2102, 0x01 => natLE 2 r.slot
  | 0x2102, 0x02 => natLE 2 r.owner
  | 0x2102, 0x03 => natLE 8 r.addr
  | 0x2102, 0x04 => natLE 2 r.len
  | 0x2102, 0x06 => natLE 2 (shownResult s r.result r.before r.await)
  | 0x2103, 0x01 => natLE 1 (coreCount s)
  | 0x2103, 0x02 => natLE 2 (flagBits 16 fun i => isWithdrawn 9 i s)
  | 0x2103, 0x03 => natLE 4 s.cores.watchdog
  | 0x2103, 0x04 => natLE 4 s.cores.doubleTraps.toNat
  | 0x2103, 0x05 => natLE 4 s.cores.abortTimeouts.toNat
  | 0x2103, 0x06 => natLE 8 s.cores.handed.toNat
  | 0x2103, 0x07 => natLE 8 s.cores.engineReqs.toNat
  | 0x2104, n => padTo 80 ((getCore s (n - 1)).counters.flatMap fun c => natLE 8 c.toNat)
  | _, _ => []

/-- The conflict counters of OD 0x2200:18, which count losses on the grades of weighted round robin (R220, R230). Commands come one at a
time, so that the losses of accesses within one ECLK are free (DESIGN CHOICE, assumption 102). -/
def bankConflicts (s : State) : List (BitVec 64) :=
  if s.fuses.grade = .sk9120 then s.flow.conflicts
  else (s.flow.conflicts.zip (List.range 8)).map fun c => c.1 + Config.bankLosses s.disp.tick c.2

/-- OD 0x2200. -/
def odFlow (s : State) (sub : Nat) : Bytes :=
  let f := s.flow
  let big := decide (s.fuses.grade = .sk9120)
  match sub with
  | 0x01 => natLE 4 (if big then f.ranks.toNat else 0)
  | 0x02 => natLE 4 (if big then 0 else f.weights.toNat)
  | 0x03 => natLE 2 f.keyWeights.toNat
  | 0x04 => natLE 2 f.pcieWeights.toNat
  | 0x10 => natLE 4 (f.thresholds.getD 0 0)
  | 0x11 => natLE 4 (f.thresholds.getD 1 0)
  | 0x12 => natLE 4 (f.thresholds.getD 2 0)
  | 0x13 => natLE 4 (f.thresholds.getD 3 0)
  | 0x14 => natLE 4 (f.flags.getD 0 0)
  | 0x15 => natLE 1 (f.flags.getD 1 0)
  | 0x16 => natLE 1 (f.flags.getD 2 0)
  | 0x17 => natLE 1 (f.flags.getD 3 0)
  | 0x18 => padTo 64 ((bankConflicts s).flatMap fun c => natLE 8 c.toNat)
  | 0x20 => natLE 2 f.hdrReserve
  | 0x21 => natLE 2 f.dataReserve
  | 0x22 => natLE 4 f.lockLease
  | 0x30 => natLE 8 f.noneResults.toNat
  | 0x31 => natLE 8 f.wastedGrants.toNat
  | 0x32 => natLE 4 (freeTotal s)
  | 0x33 => natLE 1 (min 64 (reserveInUse s))
  | 0x34 => natLE 4 f.leaseExpiries.toNat
  | _ => []

/-! ### Keys, random numbers and pairs (0x3000 to 0x3311) -/

/-- Working slots in a state. -/
def slotsIn (s : State) (st : SlotState) : Nat := (s.keys.slots.filter fun x => decide (x.2.state = st)).length

/-- OD 0x3000. -/
def odKeys (s : State) (sub : Nat) : Bytes :=
  match sub with
  | 0x01 => natLE 4 (slotCount s)
  | 0x02 => natLE 4 (slotsIn s .valid)
  | 0x03 => natLE 4 (slotsIn s .bad)
  | 0x04 => natLE 4 s.keys.entries.length
  | 0x05 => natLE 4 65536
  | 0x06 => natLE 4 s.keys.granule
  | 0x07 => natLE 8 s.keys.forfeited.toNat
  | 0x08 => natLE 8 s.keys.seedTime
  | 0x09 => natLE 8 s.keys.remaskCycles.toNat
  | 0x0A => natLE 2 s.keys.staging.length
  | 0x0C => natLE 1 s.keys.zeroiseResult
  | _ => []

/-- OD 0x3001, the record of a function: a slot it does not reach reads 3 and zeros. -/
def odSlot (s : State) (fn sub : Nat) : Bytes :=
  let x := SMap.get { slot := 0, result := 0 } s.keys.selects fn
  let sl := getSlot s x.slot
  let mine := reachesSlot s fn x.slot
  match sub with
  | 0x01 => natLE 4 x.slot
  | 0x02 => natLE 1 (if mine then sl.state.code else 3)
  | 0x03 => natLE 8 (if mine && decide (sl.state ≠ .empty) then sl.attr else 0)
  | 0x04 => if mine && decide (sl.state ≠ .empty) then padTo 3 sl.kcv else zeros 3
  | 0x06 => natLE 1 x.result
  | _ => []

/-- State, attribute word and key check value of a vault slot. -/
def vaultShown (s : State) (n : Nat) : Nat × Nat × Bytes :=
  match vaultSlot s n with
  | some v => (1, v.attr, padTo 3 v.kcv)
  | none => (0, 0, zeros 3)

/-- OD 0x3002 and 0x3003. -/
def odVault (s : State) (p : Path) (index sub : Nat) : Bytes :=
  let n := (pathSel s p).vaultSel
  match index, sub with
  | 0x3002, 0x01 => natLE 1 n
  | 0x3002, 0x02 => natLE 1 (vaultShown s n).1
  | 0x3002, 0x03 => natLE 8 (vaultShown s n).2.1
  | 0x3002, 0x04 => (vaultShown s n).2.2
  | 0x3003, 0x01 => natLE 1 s.custody.loadTarget
  | 0x3003, 0x02 => natLE 8 s.custody.loadAttr
  | 0x3003, 0x03 => natLE 1 s.custody.loadCount
  | 0x3003, 0x05 => padTo 3 s.custody.lastKcv
  | 0x3003, 0x07 => natLE 1 s.custody.loadResult
  | _, _ => []

/-- OD 0x3100. -/
def odRng (s : State) (sub : Nat) : Bytes :=
  let r := s.rng
  match sub with
  | 0x01 => natLE 1 r.state
  | 0x02 => natLE 1 (flagBits 4 fun i => decide (r.capture ≠ i))
  | 0x03 => natLE 8 r.reseeds.toNat
  | 0x04 => natLE 2 r.calls
  | 0x05 => natLE 8 r.stretched.toNat
  | 0x06 => natLE 8 r.hardLimited.toNat
  | 0x07 => natLE 8 r.passOvers.toNat
  | 0x08 => natLE 8 r.drawn.toNat
  | 0x09 => natLE 8 r.seedTime
  | 0x0A => padTo 32 (r.sources.flatMap fun x => natLE 4 x.freqA ++ natLE 4 x.freqB)
  | 0x0B => natLE 1 r.capture
  | 0x0C => natLE 2 normalBudget
  | 0x0D => natLE 2 hardLimit
  | _ => []

/-- OD 0x3200, 0x3310 and 0x3311. -/
def odPairs (s : State) (shadow : Bool) (index sub : Nat) : Bytes :=
  let c := if shadow then mergedConfig s else s.epochs.config
  match index, sub with
  | 0x3200, 0x01 => natLE 2 c.yieldLimit
  | 0x3200, 0x02 => natLE 1 (pkeCount s)
  | 0x3200, 0x03 => natLE 1 (latticeCount s)
  | 0x3200, 0x04 => natLE 4 (flagBits 32 fun i => isWithdrawn 6 i s)
  | 0x3200, 0x05 => natLE 1 (flagBits 8 fun i => isWithdrawn 7 i s)
  | 0x3200, 0x06 => natLE 8 s.engines.mismatches.toNat
  | 0x3200, 0x07 => natLE 8 s.engines.yields.toNat
  | 0x3200, 0x08 => natLE 8 s.engines.yieldLimits.toNat
  | 0x3200, 0x09 => natLE 8 s.engines.wipes.toNat
  | 0x3200, 0x0A => natLE 8 s.engines.retainedUses.toNat
  | 0x3310, n => padTo 8 (c.decTables.getD (n - 1) [])
  | 0x3311, _ => natLE 1 (bit c.pinDowngrade)
  | _, _ => []

/-! ### Host and instances (0x4000 to 0x53FF) -/

/-- SLOTS_DONE of a mailbox header (R272). -/
def slotsDone (s : State) (fn : Nat) : Nat :=
  flagBits 16 fun i => decide ((mailSlot s fn i).state = 3) || decide ((mailSlot s fn i).state = 4)

/-- OD 0x4000 and 0x4010. -/
def odHost (s : State) (index sub : Nat) : Bytes :=
  let h := s.host
  match index, sub with
  | 0x4000, 0x01 => natLE 1 h.rate
  | 0x4000, 0x02 => natLE 1 h.width
  | 0x4000, 0x03 => natLE 4 (qpCount s)
  | 0x4000, 0x04 => natLE 4 h.causes.toNat
  | 0x4000, 0x06 => natLE 8 h.discarded.toNat
  | 0x4000, 0x07 => natLE 4 h.hostResets.toNat
  | 0x4000, 0x08 => natLE 4 h.fnResets.toNat
  | 0x4000, 0x09 => natLE 8 h.chainsRevoked.toNat
  | 0x4000, 0x0A => natLE 8 h.usesRevoked.toNat
  | 0x4010, 0x01 => natLE 2 (slotsDone s 0)
  | 0x4010, 0x02 => natLE 4 (mailbox s 0).lastExec.toNat
  | 0x4010, 0x03 => natLE 4 (mailbox s 0).rejected.toNat
  | _, _ => []

/-- OD 0x4020 and 0x4030. -/
def odQps (s : State) (index sub : Nat) : Bytes :=
  let r := s.host.record
  match index, sub with
  | 0x4020, 0x01 => natLE 2 r.qp
  | 0x4020, 0x02 => natLE 2 r.fn
  | 0x4020, 0x03 => natLE 2 r.localNo
  | 0x4020, 0x04 => natLE 8 r.sqBase
  | 0x4020, 0x05 => natLE 8 r.cqBase
  | 0x4020, 0x06 => natLE 8 r.winBase
  | 0x4020, 0x07 => natLE 2 r.sizes
  | 0x4020, 0x08 => natLE 2 r.vector
  | 0x4020, 0x09 => natLE 2 r.modCount
  | 0x4020, 0x0A => natLE 2 r.modTime
  | 0x4020, 0x0C => natLE 1 (shownResult s r.result r.before r.await)
  | 0x4020, 0x0D => padTo 64 (qpContext (getQp s r.qp))
  | 0x4030, 0x01 => natLE 1 (flagBits 8 fun i => match s.host.ide[i]? with
      | some x => x.secure
      | none => false)
  | 0x4030, 0x02 => natLE 1 (bit s.host.ideRequired)
  | 0x4030, 0x03 => natLE 4 s.host.ideFailures.toNat
  | _, _ => []

/-- Queue pairs of PF0's pool that are not set up. -/
def freeQps (s : State) : Nat :=
  let ours := (s.host.qps.filter fun x => x.2.isSet && inQpPool s 0 x.1).length
  qpCount s - instSum s (·.qpCount) - ours

/-- OD 0x4100. -/
def odPools (s : State) (sub : Nat) : Bytes :=
  let r := s.tenants.record
  match sub with
  | 0x01 => natLE 2 r.number
  | 0x02 => natLE 4 r.qpBase
  | 0x03 => natLE 2 r.qpCount
  | 0x04 => natLE 4 r.slotBase
  | 0x05 => natLE 4 r.slotCount
  | 0x06 => natLE 4 r.quota
  | 0x07 => natLE 2 r.share
  | 0x08 => natLE 2 r.rights
  | 0x0A => natLE 1 (shownResult s r.result r.before r.await)
  | 0x0B => natLE 2 (s.tenants.insts.filter fun i => decide (i.2.state ≠ .free)).length
  | 0x0C => natLE 4 (freeQps s)
  | 0x0D => natLE 4 (slotCount s - instSum s (·.slotCount))
  | 0x0E => natLE 4 (quotaOf s 0)
  | 0x0F => natLE 2 (4096 - instSum s (·.share))
  | _ => []

/-- State of an instance as its record shows it. -/
def instCode : InstState → Nat
  | .free => 0
  | .active => 1
  | .destroying => 2

/-- Template slots a function owns, in force or staged. -/
def templatesOwned (s : State) (fn : Nat) : Nat :=
  (s.epochs.templates.filter fun t => t.2.body.isSome && decide (t.2.owner = fn)).length

/-- OD 0x5000 + n − 1. -/
def odInst (s : State) (n sub : Nat) : Bytes :=
  let i := getInst s n
  match sub with
  | 0x01 => natLE 1 (instCode i.state)
  | 0x02 => natLE 4 i.qpBase
  | 0x03 => natLE 2 i.qpCount
  | 0x04 => natLE 4 i.slotBase
  | 0x05 => natLE 4 i.slotCount
  | 0x06 => natLE 4 i.quota
  | 0x07 => natLE 2 i.share
  | 0x08 => natLE 2 i.rights
  | 0x09 => natLE 2 i.stagedRights
  | 0x0A => natLE 4 (buffersCounted s n)
  | 0x0B => intLE 4 i.account
  | 0x0C => natLE 8 i.chains.toNat
  | 0x0D => natLE 8 i.charged.toNat
  | 0x0E => natLE 8 i.deferrals.toNat
  | 0x0F => natLE 4 (mailbox s n).lastExec.toNat
  | 0x10 => natLE 2 (templatesOwned s n)
  | 0x11 => padTo 32 i.note
  | _ => []

/-! ### Tamper, faults and logs (0x6000 to 0x6300) -/

/-- OD 0x6000. -/
def odTamper (s : State) (sub : Nat) : Bytes :=
  match sub with
  | 0x01 => natLE 4 s.sec.sticky
  | 0x02 => natLE 4 s.tamper.live
  | 0x04 => natLE 1 s.tamper.unlockResult
  | 0x05 => natLE 1 s.sec.extArmed
  | 0x06 => natLE 1 (bit s.sec.sealArmed)
  | 0x07 => natLE 4 s.sec.lightDisagreements.toNat
  | 0x08 => natLE 4 s.sec.decisionDisagreements.toNat
  | 0x09 => natLE 8 s.sec.lastResponse.toNat
  | 0x0A => natLE 1 s.sec.lastSource
  | 0x0B => natLE 4 s.sec.responses.toNat
  | _ => []

/-- A fault record in its layout (R462). -/
def faultBytes (r : FaultRecord) : Bytes :=
  natLE 2 r.code ++ natLE 1 r.index ++ natLE 1 r.state ++ natLE 4 r.merges ++ natLE 4 (r.sources % 2 ^ 18) ++
    natLE 2 r.lastCode ++ natLE 1 r.lastIndex ++ [0] ++ natLE 8 r.first.toNat ++ natLE 8 r.last.toNat ++ padTo 32 r.args

/-- OD 0x6100. -/
def odFaults (s : State) (p : Path) (sub : Nat) : Bytes :=
  let sel := (pathSel s p).faultSel
  match sub with
  | 0x01 => natLE 1 s.faults.records.length
  | 0x02 => (List.range 64).flatMap fun e => natLE 2 (match SMap.find s.faults.records e with
      | some r => r.code
      | none => 0)
  | 0x03 => natLE 1 sel
  | 0x04 => match SMap.find s.faults.records sel with
      | some r => faultBytes r
      | none => zeros 64
  | 0x06 => natLE 1 s.faults.clearResult
  | 0x07 => padTo 136 (s.faults.corrected.flatMap fun c => natLE 8 c.toNat)
  | 0x08 => natLE 4 s.faults.threshold
  | 0x09 => natLE 4 s.faults.withoutRecord.toNat
  | 0x0A => natLE 4 s.faults.delay
  | 0x0B => natLE 2 s.sec.lastFatal
  | 0x0C => natLE 8 s.sec.lastFatalTime.toNat
  | 0x0D => natLE 1 (bit (fatalOpen s))
  | _ => []

/-- OD 0x6200. -/
def odLog (s : State) (p : Path) (sub : Nat) : Bytes :=
  let l := s.log
  let sel := (pathSel s p).logSel
  match sub with
  | 0x01 => natLE 4 l.records
  | 0x02 => natLE 4 65536
  | 0x03 => natLE 4 sel
  | 0x04 => if sel < l.records then padTo 64 (logRecordAt s sel) else zeros 64
  | 0x05 => padTo 64 l.last
  | 0x07 => padTo 192 l.statement
  | 0x08 => natLE 1 (bit l.covers)
  | 0x0A => natLE 1 l.clearResult
  | 0x0B => natLE 8 l.notRecorded.toNat
  | 0x0C => natLE 2 l.holdTime
  | 0x0D => natLE 2 (min 256 l.staged.length)
  | 0x0E => natLE 4 l.nextSeq.toNat
  | _ => []

/-- OD 0x6300. -/
def odLocket (s : State) (p : Path) (sub : Nat) : Bytes :=
  let sel := (pathSel s p).locketSel
  match sub with
  | 0x01 => natLE 4 s.locket.records
  | 0x02 => natLE 4 8192
  | 0x03 => natLE 4 sel
  | 0x04 => if sel < s.locket.records then padTo 256 (locketRecord s sel) else zeros 256
  | 0x06 => padTo 192 s.locket.statement
  | 0x07 => natLE 1 (bit s.locket.covers)
  | 0x09 => natLE 1 s.locket.clearResult
  | 0x0A => natLE 1 (bit s.locket.pendingRecord.isSome)
  | 0x0B => natLE 8 s.mram.bootCounter.toNat
  | _ => []

/-! ### Pairs, domains and custody (0x7000 to 0x7810) -/

/-- The sync state that OD 0x7000:02 shows: a holder's is that of its peer. -/
def syncShown (s : State) : Nat :=
  if !bound s then 0
  else if activeNow s then
    if s.twin.peerSync ≠ 3 then 1
    else if s.twin.renewSeen ∧ s.disp.tick ≥ s.twin.inSyncAt + 10000 then 4 else 3
  else max 1 s.twin.sync

/-- Items of a resynchronisation not yet acknowledged or applied. -/
def itemsLeft (s : State) : Nat :=
  if activeNow s then if s.twin.peerSync = 2 then s.twin.unacked.length else 0
  else if s.twin.sync = 2 then s.twin.resyncItems - s.twin.applied else 0

/-- OD 0x7000. -/
def odTwin (s : State) (sub : Nat) : Bytes :=
  match sub with
  | 0x01 => natLE 1 (bit (bound s))
  | 0x02 => natLE 1 (syncShown s)
  | 0x03 => natLE 8 (match s.sec.pair with
      | some x => x.peer
      | none => 0)
  | 0x04 => natLE 1 s.twin.side
  | 0x05 => natLE 8 s.sec.generation.toNat
  | 0x06 => natLE 1 s.sec.genSide
  | 0x07 => natLE 1 s.clasp.link
  | 0x08 => natLE 1 s.clasp.lanes
  | 0x0A => natLE 1 s.twin.actionResult
  | 0x0B => natLE 4 s.twin.drain
  | 0x0C => natLE 4 s.sec.takings.toNat
  | 0x0D => natLE 8 s.sec.lastTaking.toNat
  | 0x0E => natLE 8 s.twin.recordsSent.toNat
  | 0x0F => natLE 8 s.twin.recordsApplied.toNat
  | 0x10 => natLE 4 s.twin.longest
  | 0x11 => natLE 4 (itemsLeft s)
  | 0x12 => natLE 8 s.clasp.rejected.toNat
  | 0x13 => natLE 8 s.twin.revoked.toNat
  | _ => []

/-- OD 0x7100. -/
def odDomain (s : State) (sub : Nat) : Bytes :=
  match sub with
  | 0x01 => natLE 8 (domainOf s)
  | 0x02 => natLE 2 (memberOf s)
  | 0x04 => natLE 1 s.domain.result
  | 0x05 => padTo 97 s.domain.candKey
  | 0x06 => natLE 8 s.domain.candSerial
  | 0x07 => natLE 2 s.domain.memberReq
  | 0x08 => padTo 192 s.domain.packageOut
  | 0x09 => padTo 192 s.domain.packageIn
  | 0x0A => natLE 2 s.sec.issued.length
  | _ => []

/-- State of the session as OD 0x7800:06 shows it. -/
def sessionCode (s : State) : Nat :=
  match s.custody.session with
  | .none => 0
  | .opening => 1
  | .opened => 2

/-- PLCA settings as they were last written. -/
def plcaShown (s : State) : Nat × Nat := s.custody.newPlca.getD (s.custody.plcaNode, s.custody.plcaCount)

/-- OD 0x7800. -/
def odCustody (s : State) (sub : Nat) : Bytes :=
  let c := s.custody
  match sub with
  | 0x01 => deviceMac s
  | 0x02 => natLE 1 (plcaShown s).1
  | 0x03 => natLE 1 (plcaShown s).2
  | 0x05 => natLE 1 (bit c.linkUp)
  | 0x06 => natLE 1 (sessionCode s)
  | 0x07 => natLE 1 c.console
  | 0x08 => natLE 4 c.sessionId
  | 0x09 => natLE 2 c.idle
  | 0x0A => natLE 1 (presenceState s)
  | 0x0B => natLE 8 c.rejected.toNat
  | 0x0C => natLE 4 c.opened.toNat
  | _ => []

/-- OD 0x7801 and 0x7810. -/
def odConsoles (s : State) (p : Path) (index sub : Nat) : Bytes :=
  let n := (pathSel s p).consoleSel
  match index, sub with
  | 0x7801, 0x01 => natLE 1 n
  | 0x7801, 0x02 => natLE 1 (bit (enrolled s n))
  | 0x7801, 0x03 => padTo 16 (SMap.get [] s.custody.labels n)
  | 0x7801, 0x04 => if enrolled s n then (vaultShown s (consoleSlot n)).2.2 else zeros 3
  | 0x7810, 0x02 => natLE 1 s.custody.ceremony
  | 0x7810, 0x04 => natLE 1 s.custody.ceremonyResult
  | _, _ => []

/-! ### Memories, MRAM and images (0x8000 to 0x9000) -/

/-- OD 0x8000. -/
def odMemory (s : State) (sub : Nat) : Bytes :=
  let m := s.memTest
  match sub with
  | 0x01 => natLE 1 (bit m.enable)
  | 0x02 => natLE 4 m.pace
  | 0x03 => natLE 4 m.overdueTime
  | 0x04 => padTo 40 (m.tested.flatMap fun x => natLE 8 x.toNat)
  | 0x05 => padTo 20 (m.failures.flatMap fun x => natLE 4 x.toNat)
  | 0x06 => natLE 8 m.overdueCount.toNat
  | 0x07 => natLE 1 m.retired.length
  | 0x08 => (arrayLE 2 m.retired ++ List.replicate 128 0xFF).take 128
  | 0x09 => padTo 40 (m.corrected.flatMap fun x => natLE 8 x.toNat)
  | 0x0A => natLE 2 s.fuses.repairs
  | 0x0B => natLE 2 m.sparesAssigned
  | _ => []

/-- The table a path has selected: A0 to A11 at 0 to 11, T0 to T7 at 16 to 23. -/
def tableShown (s : State) (sel : Nat) : Bytes :=
  arrayLE 8 ((tableEntries s (if sel < 12 then sel else sel - 4)).map (·.toNat))

/-- OD 0x8010 and 0x8020. -/
def odAccess (s : State) (p : Path) (index sub : Nat) : Bytes :=
  let sel := (pathSel s p).tableSel
  match index, sub with
  | 0x8010, 0x01 => natLE 1 sel
  | 0x8010, 0x02 => padTo 128 (tableShown s sel)
  | 0x8010, 0x03 => natLE 24 s.fuses.matrix.toNat
  | 0x8010, 0x04 => padTo 96 (s.access.refusals.flatMap fun x => natLE 8 x.toNat)
  | 0x8010, 0x05 => padTo 16 s.access.last
  | 0x8020, 0x01 => natLE 8 s.mram.writes.toNat
  | 0x8020, 0x02 => natLE 8 s.mram.corrected.toNat
  | 0x8020, 0x03 => natLE 4 s.mram.torn.toNat
  | 0x8020, 0x04 => natLE 4 s.mram.lost.toNat
  | 0x8020, 0x05 => natLE 2 s.mram.replaced.length
  | 0x8020, 0x06 => natLE 2 s.mram.queue.length
  | _, _ => []

/-- OD 0x9000. -/
def odImages (s : State) (sub : Nat) : Bytes :=
  let i := s.images
  match sub with
  | 0x01 => natLE 1 s.mram.active
  | 0x02 => natLE 1 s.mram.pendingSlot
  | 0x03 => natLE 1 i.slotA
  | 0x04 => natLE 1 i.slotB
  | 0x05 => natLE 8 i.stageAddr
  | 0x06 => natLE 4 i.stageLen
  | 0x09 => natLE 4 i.timeout
  | 0x0A => natLE 1 i.stageResult
  | 0x0B => natLE 8 i.runningVersion
  | 0x0C => natLE 1 i.runningSecurity
  | 0x0D => natLE 1 (fusedVersion s)
  | 0x0E => natLE 8 (if imageState s (inactiveSlot s) = slotVerified then i.inactiveVersion else 0)
  | 0x10 => natLE 1 s.images.activationResult
  | _ => []

/-! ### The value of an entry -/

/-- The value of an entry that a path sees and may read. -/
def odValue (s : State) (p : Path) (index sub : Nat) : Bytes :=
  let shadow := (pathSel s p).readShadow
  if sub = 0 then natLE 1 (lastSub ((entriesOf s index).getD []))
  else if index ≤ 0x1001 then odIdentity s p index sub
  else if index ≤ 0x1200 then odModes s index sub
  else if index = 0x2000 then odEnergy s sub
  else if index ≤ 0x2101 then odDispatch s shadow index sub
  else if index ≤ 0x2104 then odTemplates s index sub
  else if index = 0x2200 then odFlow s sub
  else if index = 0x3000 then odKeys s sub
  else if index = 0x3001 then odSlot s (pathFn p) sub
  else if index ≤ 0x3003 then odVault s p index sub
  else if index = 0x3100 then odRng s sub
  else if index ≤ 0x3311 then odPairs s shadow index sub
  else if index ≤ 0x4010 then odHost s index sub
  else if index ≤ 0x4030 then odQps s index sub
  else if index = 0x4100 then odPools s sub
  else if index < 0x6000 then odInst s (index - 0x4FFF) sub
  else if index = 0x6000 then odTamper s sub
  else if index = 0x6100 then odFaults s p sub
  else if index = 0x6200 then odLog s p sub
  else if index = 0x6300 then odLocket s p sub
  else if index = 0x7000 then odTwin s sub
  else if index = 0x7100 then odDomain s sub
  else if index = 0x7800 then odCustody s sub
  else if index ≤ 0x7810 then odConsoles s p index sub
  else if index = 0x8000 then odMemory s sub
  else if index ≤ 0x8020 then odAccess s p index sub
  else odImages s sub

/-- The bytes a read answers with, when its largest reply is `most` (R519); a long value is read from the read offset. -/
def readSegment (s : State) (p : Path) (most : Nat) (value : Bytes) : Option Bytes :=
  if value.length ≤ most then some value
  else
    let off := (pathSel s p).readOffset
    if off ≥ value.length then none else some (slice off most value)

/-- RESULT and value of a read on a path. -/
def readEntry (s : State) (p : Path) (most index sub : Nat) : Nat × Bytes :=
  match readRefused s p index sub with
  | some r => (r, [])
  | none =>
    match readSegment s p most (odValue s p index sub) with
    | some v => (0, v)
    | none => (0x05, [])

/-- RESULT of a request whose form is wrong: an OD read has four body bytes, the last of them zero (R277). -/
def readForm (v : MailSlot) : Bool := decide (v.length = 4) && bodyZero v

/-- The Mode Word shows DOZE and DOZE_DEPTH as they stood when the read arrived, though the read has woken the part (R36). -/
def asArrived (depth index sub : Nat) (r : Nat × Bytes) : Nat × Bytes :=
  if index = 0x1200 ∧ sub = 1 ∧ r.1 = 0 ∧ depth ≠ 0 then (0, natLE 4 (leNat r.2 + 2 ^ 10 + depth * 2 ^ 12)) else r

/-- OD_READ: the message in a slot, when it is next, is a read. -/
def execOdRead (fn slot : Nat) (s : State) : Host.Outcome State Fault Refusal :=
  let v := mailSlot s fn slot
  if !mailNext s fn slot || decide (v.command ≠ 1) then complete s
  else
    let s := wake s
    let path := Path.mailbox fn
    let locked := lockedNow s && !(decide (bodyIndex v = 0x1200) && decide (bodySub v = 1))
    let r := if locked then (0x07, [])
      else if !readForm v then (0x02, [])
      else asArrived v.depth (bodyIndex v) (bodySub v) (readEntry s path 240 (bodyIndex v) (bodySub v))
    complete (mailReply fn slot v.seq r.1 r.2 s)

end Sys2Proof.Machine
end

