-- ==== Sys2Proof/Machine/OdWrites.lean ====
section
/-!
DEFINITION. Writes of the object dictionary whose entries have no row of their own, and OD_WRITE (R276, R277, R510 to R524).
-/
namespace Sys2Proof.Machine

/-! ### Entries that hold what is written -/

/-- OD 0x1200:05 to 08 (R36). -/
def writeModes (sub v : Nat) (s : State) : State :=
  let m := s.modes
  let m := match sub with
    | 0x05 => { m with notifyMask := BitVec.ofNat 32 v }
    | 0x06 => { m with dozeIdle1 := v }
    | 0x07 => { m with dozeIdle2 := v }
    | _ => { m with dozePermission := v }
  { s with modes := m }

/-- The shadow value of a staged entry (R523). -/
def writeStaged (index sub : Nat) (value : Bytes) (s : State) : State :=
  let t := s.epochs.staged
  let v := leNat value
  let t := match index, sub with
    | 0x2100, 0x01 => { t with maxDeadline := some v }
    | 0x2100, _ => { t with defaultDeadline := some v }
    | 0x3200, _ => { t with yieldLimit := some v }
    | 0x3310, n => { t with decTables := t.decTables ++ [(n - 1, value)] }
    | _, _ => { t with pinDowngrade := some (decide (v = 1)) }
  { s with epochs := { s.epochs with staged := t } }

/-- OD 0x2102:01 to 04, the template record (R70). -/
def writeTemplateRecord (sub v : Nat) (s : State) : State :=
  let r := s.epochs.record
  let r := match sub with
    | 0x01 => { r with slot := v }
    | 0x02 => { r with owner := v }
    | 0x03 => { r with addr := v }
    | _ => { r with len := v }
  { s with epochs := { s.epochs with record := r } }

/-- OD 0x2200 (R230). -/
def writeFlow (sub v : Nat) (s : State) : State :=
  let f := s.flow
  let f := match sub with
    | 0x01 => { f with ranks := BitVec.ofNat 32 v }
    | 0x02 => { f with weights := BitVec.ofNat 32 v }
    | 0x03 => { f with keyWeights := BitVec.ofNat 16 v }
    | 0x04 => { f with pcieWeights := BitVec.ofNat 16 v }
    | 0x20 => { f with hdrReserve := v }
    | 0x21 => { f with dataReserve := v }
    | 0x22 => { f with lockLease := v }
    | n => { f with thresholds := setAt f.thresholds (n - 0x10) v }
  { s with flow := f }

/-- OD 0x4020:01 to 0A, the queue-pair record (R255). -/
def writeQpRecord (sub v : Nat) (s : State) : State :=
  let r := s.host.record
  let r := match sub with
    | 0x01 => { r with qp := v }
    | 0x02 => { r with fn := v }
    | 0x03 => { r with localNo := v }
    | 0x04 => { r with sqBase := v }
    | 0x05 => { r with cqBase := v }
    | 0x06 => { r with winBase := v }
    | 0x07 => { r with sizes := v }
    | 0x08 => { r with vector := v }
    | 0x09 => { r with modCount := v }
    | _ => { r with modTime := v }
  { s with host := { s.host with record := r } }

/-- OD 0x4100:01 to 08, the instance record (R283). -/
def writeInstRecord (sub v : Nat) (s : State) : State :=
  let r := s.tenants.record
  let r := match sub with
    | 0x01 => { r with number := v }
    | 0x02 => { r with qpBase := v }
    | 0x03 => { r with qpCount := v }
    | 0x04 => { r with slotBase := v }
    | 0x05 => { r with slotCount := v }
    | 0x06 => { r with quota := v }
    | 0x07 => { r with share := v }
    | _ => { r with rights := v }
  { s with tenants := { s.tenants with record := r } }

/-- OD 0x3003:01 to 03, the load record (R504). -/
def writeLoadRecord (sub v : Nat) (s : State) : State :=
  let c := s.custody
  let c := match sub with
    | 0x01 => { c with loadTarget := v }
    | 0x02 => { c with loadAttr := v }
    | _ => { c with loadCount := v }
  { s with custody := c }

/-- OD 0x7100:05, 06, 07 and 09 (R568). -/
def writeDomain (sub : Nat) (value : Bytes) (s : State) : State :=
  let d := s.domain
  let d := match sub with
    | 0x05 => { d with candKey := value }
    | 0x06 => { d with candSerial := leNat value }
    | 0x07 => { d with memberReq := leNat value }
    | _ => { d with packageIn := value }
  { s with domain := d }

/-- The per-path selections (R521). -/
def writeSelect (index sub v : Nat) (x : PathSel) : PathSel :=
  match index, sub with
  | 0x1000, _ => { x with cert := v }
  | 0x1001, 0x02 => { x with readOffset := v }
  | 0x1001, _ => { x with readShadow := decide (v = 1) }
  | 0x3002, _ => { x with vaultSel := v }
  | 0x6100, _ => { x with faultSel := v }
  | 0x6200, _ => { x with logSel := v }
  | 0x6300, _ => { x with locketSel := v }
  | 0x7801, _ => { x with consoleSel := v }
  | _, _ => { x with tableSel := v }

/-- The slot that a function's record of OD 0x3001 names (R320). -/
def selectSlot (fn v : Nat) (s : State) : State :=
  let d : SlotSelect := { slot := 0, result := 0 }
  { s with keys := { s.keys with selects := SMap.modify d s.keys.selects fn fun x => { x with slot := v } } }

/-- Settings that stand alone in their index. -/
def writeSetting (index sub v : Nat) (s : State) : State :=
  match index, sub with
  | 0x2101, n => { s with disp := { s.disp with newAgeLimits := setAt s.disp.newAgeLimits (n - 1) v } }
  | 0x2103, _ => { s with cores := { s.cores with watchdog := v } }
  | 0x3000, _ => { s with keys := { s.keys with granule := v } }
  | 0x6100, 0x08 => { s with faults := { s.faults with threshold := v } }
  | 0x6100, _ => { s with faults := { s.faults with delay := v } }
  | 0x7000, _ => { s with twin := { s.twin with drain := v } }
  | 0x8000, 0x02 => { s with memTest := { s.memTest with pace := v } }
  | 0x8000, _ => { s with memTest := { s.memTest with overdueTime := v } }
  | 0x9000, 0x05 => { s with images := { s.images with stageAddr := v } }
  | 0x9000, 0x06 => { s with images := { s.images with stageLen := v } }
  | 0x9000, _ => { s with images := { s.images with timeout := v } }
  | _, _ => s

/-- Entries with a value of their own for each path (R521), OD 0x3001 aside. -/
def perPath (index sub : Nat) : Bool :=
  match index, sub with
  | 0x1000, 0x11 | 0x1001, 0x02 | 0x1001, 0x03 | 0x3002, 0x01 | 0x6100, 0x03 | 0x6200, 0x03 | 0x6300, 0x03
  | 0x7801, 0x01 | 0x8010, 0x01 => true
  | _, _ => false

/-- The staged entries but those of templates and rights (R523). -/
def stagedEntry (index sub : Nat) : Bool :=
  (decide (index = 0x2100) && (decide (sub = 1) || decide (sub = 2))) || (decide (index = 0x3200) && decide (sub = 1)) ||
    decide (index = 0x3310) || decide (index = 0x3311)

/-! ### One write -/

/-- The tenant note of an instance (R283). -/
def writeNote (n : Nat) (value : Bytes) (s : State) : State := modifyInst n (fun i => { i with note := value }) s

/-- The new value of an entry that holds what is written. -/
def storeValue (p : Path) (index sub : Nat) (value : Bytes) (s : State) : State :=
  let v := leNat value
  if perPath index sub then modifyPath p (writeSelect index sub v) s
  else if stagedEntry index sub then writeStaged index sub value s
  else if index = 0x1200 then writeModes sub v s
  else if index = 0x2102 then writeTemplateRecord sub v s
  else if index = 0x2200 then writeFlow sub v s
  else if index = 0x3001 then selectSlot (pathFn p) v s
  else if index = 0x3003 then writeLoadRecord sub v s
  else if index = 0x4020 then writeQpRecord sub v s
  else if index = 0x4100 then writeInstRecord sub v s
  else if 0x5000 ≤ index ∧ index < 0x5400 then writeNote (index - 0x4FFF) value s
  else if index = 0x7100 then writeDomain sub value s
  else writeSetting index sub v s

/-- The write of an entry that passed its checks: a persistent one takes effect with its page (R524), a staging of another
path keeps OD 0x9000:06 (R522). -/
def plainAct (p : Path) (index sub : Nat) (value : Bytes) (s : State) : Answer :=
  if inConfigSet index sub && !stagedEntry index sub then
    { Answer.now 0 (writeConfig [(entryKey index sub, value)] s) with pages := [(Store.config, configPage)] }
  else if index = 0x9000 ∧ sub = 0x06 ∧ otherPath s p = true then Answer.now 0x06 s
  else Answer.now 0 (storeValue p index sub value s)

/-- A refused value of OD 0x3000:0B shows in OD 0x3000:0C (R320). -/
def refusedValue (index sub r : Nat) (s : State) : State :=
  if index = 0x3000 ∧ sub = 0x0B ∧ r = 0x05 then { s with keys := { s.keys with zeroiseResult := 2 } } else s

/-- A write of an entry with no row of its own. -/
def plainWrite (p : Path) (index sub : Nat) (value : Bytes) (s : State) : Answer :=
  match writeRefused s p index sub value with
  | some r => Answer.now r (refusedValue index sub r s)
  | none => plainAct p index sub value s

/-! ### Writes with a row of their own -/

/-- Actions whose row takes one code. -/
def actionCodes (index sub : Nat) : List Nat :=
  match index, sub with
  | 0x2100, 0x05 => [1]
  | 0x2102, 0x05 => [1, 2]
  | 0x1100, 0x06 => [1, 2]
  | 0x3000, 0x0B => [1, 2]
  | 0x3001, 0x05 => [1, 2, 3]
  | 0x3003, 0x06 => [1, 2, 3]
  | 0x4020, 0x0B => [1, 2, 3, 4]
  | 0x4100, 0x09 => [1, 2, 3, 4]
  | 0x6100, 0x05 => [1]
  | 0x6200, 0x06 => [1, 2]
  | 0x6200, 0x09 => [1]
  | 0x6300, 0x05 => [1]
  | 0x6300, 0x08 => [1]
  | 0x7000, 0x09 => [1, 2, 3, 4]
  | 0x7100, 0x03 => [1, 2, 3, 4]
  | 0x7801, 0x05 => [1]
  | 0x7810, 0x03 => [1]
  | 0x9000, 0x07 => [1, 2, 3, 4]
  | 0x9000, 0x0F => [1]
  | _, _ => []

/-- Entries whose every write is a row of its own. -/
def valueRow (index sub : Nat) : Bool :=
  match index, sub with
  | 0x2000, 0x02 | 0x1200, 0x04 | 0x4030, 0x02 | 0x4000, 0x04 | 0x3100, 0x0B | 0x9000, 0x08 | 0x6000, 0x05 | 0x6000, 0x06
  | 0x6000, 0x03 | 0x1100, 0x04 | 0x7810, 0x01 | 0x3003, 0x04 | 0x1000, 0x14 | 0x1000, 0x15 | 0x1000, 0x17 | 0x2200, 0x14
  | 0x2200, 0x15 | 0x2200, 0x16 | 0x2200, 0x17 => true
  | _, _ => false

/-- A write of a value that some other row names. -/
def hasRow (index sub : Nat) (value : Bytes) : Bool :=
  valueRow index sub || (actionCodes index sub).any fun n => codeIs n value

/-- RESULT and effect of an OD write message, in the order of R277. -/
def odWriteAnswer (fn : Nat) (v : MailSlot) (s : State) : Answer :=
  match modeRefusal s (.mailbox fn) true (bodyIndex v) (bodySub v) (bodyValue v) with
  | some r => Answer.now r s
  | none =>
    if v.length < 4 ∨ bodyZero v = false then Answer.now 0x02 s
    else plainWrite (.mailbox fn) (bodyIndex v) (bodySub v) (bodyValue v) s

/-- OD_WRITE: the message in a slot, when it is next, is a write that no other row names. -/
def execOdWrite (fn slot : Nat) (s : State) : Host.Outcome State Fault Refusal :=
  let v := mailSlot s fn slot
  if !mailNext s fn slot || decide (v.command ≠ 2) ||
      (decide (v.length ≥ 4) && bodyZero v && hasRow (bodyIndex v) (bodySub v) (bodyValue v)) then complete s
  else complete (answerMessage fn slot (odWriteAnswer fn v (wake s)))

end Sys2Proof.Machine
end

