-- ==== Sys2Proof/Machine/PaymentLinks.lean ====
section
/-!
DEFINITION. The payment Links: PIN, card codes, EMV, DUKPT-AES and FF1 (R84 to R108). A Chain reads the
decimalisation tables and the downgrade permission of its own epoch (R89, R94).
-/
namespace Sys2Proof.Machine

/-- The configuration of the epoch a Chain is tagged with (R67). -/
def chainConfig (s : State) (ch : Chain) : EpochConfig :=
  if ch.epoch = s.epochs.current.toNat then s.epochs.config else s.epochs.oldConfig

/-- Opcode 0x401 (R87). -/
def execPinBlockDecode (chain link : Nat) (s : State) : Host.Outcome State Fault Refusal :=
  complete (runLink 0x401 chain link
    (fun x => pinDecode x.p x.key0 x.in0 (if refKind x.l.in1 = 0 then none else some x.in1)) s)

/-- Opcode 0x402, with the fill it drew at issue (R88, R89). -/
def execPinBlockEncode (chain link : Nat) (s : State) : Host.Outcome State Fault Refusal :=
  complete (runLink 0x402 chain link
    (fun x => pinEncode x.p (chainConfig s x.ch).pinDowngrade x.key0 x.in0
      (if refKind x.l.in1 = 0 then none else some x.in1) x.r.draw) s)

/-- The decimalisation table that DECTAB selects (R91, R94). -/
def tableOf (s : State) (x : LinkCtx) : Bytes := (chainConfig s x.ch).decTables.getD (bits x.p 4 3) (zeros 8)

/-- Opcode 0x410 (R92). -/
def execOffsetGenerate (chain link : Nat) (s : State) : Host.Outcome State Fault Refusal :=
  complete (runLink 0x410 chain link (fun x => offsetGenerate (bits x.p 0 4) (tableOf s x) x.key0 x.in0 x.in1) s)

/-- Opcode 0x411 (R92). -/
def execOffsetVerify (chain link : Nat) (s : State) : Host.Outcome State Fault Refusal :=
  complete (runLink 0x411 chain link
    (fun x => offsetVerify (bits x.p 0 4) (tableOf s x) x.key0 x.in0 x.in1 x.in2) s)

/-- Opcode 0x412 (R93). -/
def execVerificationValueGenerate (chain link : Nat) (s : State) : Host.Outcome State Fault Refusal :=
  complete (runLink 0x412 chain link (fun x => valueGenerate (bits x.p 0 4) x.key0 x.in0 x.in1) s)

/-- Opcode 0x413 (R93). -/
def execVerificationValueVerify (chain link : Nat) (s : State) : Host.Outcome State Fault Refusal :=
  complete (runLink 0x413 chain link (fun x => valueVerify (bits x.p 0 4) x.key0 x.in0 x.in1 x.in2) s)

/-- The role of a key that 0x501 gives (R99). -/
def emvRole (x : LinkCtx) : Nat :=
  let a := attrOfWord x.key0.attr
  if bits x.p 0 2 = 1 then roleWord a.alg a.usage modeX
  else
    match bits x.p 2 2 with
    | 0 => roleWord a.alg usageE0 modeC
    | 1 => roleWord a.alg usageE2 modeG
    | _ => roleWord a.alg usageE1 modeE

/-- Opcode 0x501 (R99). -/
def execCardAndSessionKeyDerivation (chain link : Nat) (s : State) : Host.Outcome State Fault Refusal :=
  complete (runKeyLink 0x501 chain link
    (fun x => emvDerive (bits x.p 0 2) (bitOf x.p 4) (refLen x.l.out) x.key0 x.in0 x.in1) emvRole
    (fun _ out => out.length) s)

/-- Opcode 0x502 (R100). -/
def execArqcVerify (chain link : Nat) (s : State) : Host.Outcome State Fault Refusal :=
  complete (runLink 0x502 chain link (fun x => arqcVerify x.key0 x.in0 x.in1) s)

/-- Opcode 0x503 (R100). -/
def execArpcGenerate (chain link : Nat) (s : State) : Host.Outcome State Fault Refusal :=
  complete (runLink 0x503 chain link (fun x => arpcGenerate (bits x.p 0 4) x.key0 x.in0 x.in1 x.in2) s)

/-- Opcode 0x504 (R100). -/
def execScriptMacGenerate (chain link : Nat) (s : State) : Host.Outcome State Fault Refusal :=
  complete (runLink 0x504 chain link (fun x => scriptMac (bits x.p 0 4) x.key0 x.in0) s)

/-- Opcode 0x510 (R97). -/
def execCardCodeGenerate (chain link : Nat) (s : State) : Host.Outcome State Fault Refusal :=
  complete (runLink 0x510 chain link (fun x => cardCodeGenerate (bits x.p 0 3) x.key0 x.in0 x.in1) s)

/-- Opcode 0x511 (R97). -/
def execCardCodeVerify (chain link : Nat) (s : State) : Host.Outcome State Fault Refusal :=
  complete (runLink 0x511 chain link (fun x => cardCodeVerify (bits x.p 0 3) x.key0 x.in0 x.in1 x.in2) s)

/-- The role of a DUKPT working key (R105). -/
def dukptRole (x : LinkCtx) : Nat :=
  let alg := bits x.p 4 4 + 1
  match bits x.p 8 16 with
  | 0x1000 => roleWord alg usageP0 modeD
  | 0x2000 => roleWord alg usageM6 modeG
  | 0x2001 => roleWord alg usageM6 modeV
  | 0x2002 => roleWord alg usageM6 modeC
  | 0x3000 => roleWord alg usageD0 modeE
  | 0x3001 => roleWord alg usageD0 modeD
  | _ => roleWord alg usageD0 modeB

/-- Opcode 0x1A0 (R104, R105). -/
def execDukptAesDerivation (chain link : Nat) (s : State) : Host.Outcome State Fault Refusal :=
  complete (runKeyLink 0x1A0 chain link
    (fun x => dukptDerive (bits x.p 0 2) (bits x.p 4 4) (bits x.p 8 16) x.key0 x.in0) dukptRole
    (fun _ out => out.length) s)

/-- Opcode 0x601 (R107). -/
def execFf1Encrypt (chain link : Nat) (s : State) : Host.Outcome State Fault Refusal :=
  complete (runLink 0x601 chain link (fun x => ff1Token true x.p x.key0 x.in0 x.in1) s)

/-- Opcode 0x602 (R107). -/
def execFf1Decrypt (chain link : Nat) (s : State) : Host.Outcome State Fault Refusal :=
  complete (runLink 0x602 chain link (fun x => ff1Token false x.p x.key0 x.in0 x.in1) s)

end Sys2Proof.Machine
end

