-- ==== Sys2Proof/Machine/PinRows.lean ====
section
/-!
DEFINITION. The SMBus telemetry target and the debug port (R393, R452, R453, R605 to R607).
-/
namespace Sys2Proof.Machine

/-! ### SMBus telemetry (R606, R607) -/

/-- The target answers: its supplies stand and the crystal is stable, as in a warm reset. -/
def targetAnswers (s : State) : Bool := !(decide (s.boot.phase = .inReset) && s.boot.cold)

/-- Values older than 10 ms: no sample yet, or DOZE depth 2. -/
def telemetryStale (s : State) : Bool :=
  s.energy.temps.isEmpty || (s.modes.word.doze && decide (s.modes.word.dozeDepth = 2))

/-- SMB_ALERT_N is to be asserted: above 95 °C, and then until 93 °C. -/
def alertNow (s : State) : Bool :=
  if telemetryStale s then !s.pins.smbAlertN
  else decide (s.energy.junction > 190) || (!s.pins.smbAlertN && decide (s.energy.junction > 186))

/-- The STATUS byte. -/
def statusByte (s : State) : Nat :=
  let hot := fun (t : Int) => !s.energy.temps.isEmpty && decide (s.energy.junction ≥ t)
  bit (telemetryStale s) + bit (hot 191) * 2 + bit (hot 220) * 4 + bit (alertNow s) * 8

/-- TELEMETRY_UPDATE: `power` is the mean draw of the last 10 ms in 0.5 W. -/
def execTelemetryUpdate (power : Nat) (s : State) : Host.Outcome State Fault Refusal :=
  if !targetAnswers s then complete s
  else
    let temperature := if s.energy.temps.isEmpty then s.telemetry.temperature else BitVec.ofInt 16 s.energy.junction
    let telemetry : Telemetry := { temperature := temperature, power := BitVec.ofNat 16 power,
                                   status := BitVec.ofNat 8 (statusByte s) }
    complete { s with telemetry := telemetry, energy := { s.energy with measured := power % 65536 },
                      pins := { s.pins with smbAlertN := !alertNow s } }

/-- The target's answer to a read. -/
def smbusRead (data : Bytes) (s : State) : State := if targetAnswers s then send (.smbus data) s else s

/-- SMBUS_TEMPERATURE. -/
def execSmbusTemperature (s : State) : Host.Outcome State Fault Refusal :=
  complete (smbusRead (natLE 2 s.telemetry.temperature.toNat) s)

/-- SMBUS_POWER. -/
def execSmbusPower (s : State) : Host.Outcome State Fault Refusal :=
  complete (smbusRead (natLE 2 s.telemetry.power.toNat) s)

/-- SMBUS_STATUS. -/
def execSmbusStatus (s : State) : Host.Outcome State Fault Refusal :=
  complete (smbusRead (natLE 1 s.telemetry.status.toNat) s)

/-- The target's 7-bit address. -/
def smbusAddress (s : State) : Nat := 0x5C + s.twin.side

/-- SMBUS_ALERT_RESPONSE: the target's address, in the upper seven bits, while it alerts. -/
def execSmbusAlertResponse (s : State) : Host.Outcome State Fault Refusal :=
  if s.pins.smbAlertN then complete s else complete (smbusRead [byte (2 * smbusAddress s)] s)

/-! ### Debug instructions (R605) -/

/-- An instruction of the open port, and what it shifts out. -/
def tapRun (instruction : Nat) (out : Bytes) (s : State) : State :=
  if portOpen s then send (.tap out) { s with tap := { s.tap with instruction := instruction, shift := out } } else s

/-- BYPASS: one bit of delay; each bit shifted out stands in a byte. -/
def execBypass (tdi : List Bool) (s : State) : Host.Outcome State Fault Refusal :=
  complete (tapRun tapBypass ((([false] ++ tdi).take tdi.length).map fun b => byte (bit b)) s)

/-- The identity code of the part. -/
def idcode (s : State) : Nat :=
  1 + s.fuses.manufacturer % 2 ^ 11 * 2 + byGrade s 0x9120 0x9080 0x9040 * 2 ^ 12 + s.fuses.stepping % 16 * 2 ^ 28

/-- IDCODE. -/
def execIdcode (s : State) : Host.Outcome State Fault Refusal := complete (tapRun tapIdcode (natLE 4 (idcode s)) s)

/-- SAMPLE_PRELOAD: the levels of the IO18 pins are shifted out, and the boundary register is loaded. -/
def execSamplePreload (levels preload : Bytes) (s : State) : Host.Outcome State Fault Refusal :=
  if portOpen s then complete (tapRun tapSample levels { s with tap := { s.tap with boundary := preload } }) else complete s

/-- EXTEST: the boundary register drives the pins while SERVICE is clear. -/
def execExtest (s : State) : Host.Outcome State Fault Refusal :=
  if s.modes.word.service then complete s else complete (tapRun tapExtest [] s)

/-- CLAMP. -/
def execClamp (s : State) : Host.Outcome State Fault Refusal :=
  if s.modes.word.service then complete s else complete (tapRun tapClamp [] s)

/-! ### Device-specific instructions (R393, R452, R453) -/

/-- Bytes that no rule gives, of device registers. -/
def registerBytes (n : Nat) (s : State) : Bytes × State :=
  ((List.range n).map fun i => byte (Config.freeBits (s.freeUses + i)).toNat, { s with freeUses := s.freeUses + n })

/-- One part of a read that passes: bytes of a scratchpad, or of device registers. -/
def debugPart (addr len : Nat) (s : State) : Bytes × State :=
  if internalTarget s addr = some 4 then (Memory.readN s.scratch (addr - 0x30000000) len, s) else registerBytes len s

/-- The parts of a request that the debug port is refused (R393). -/
def debugRefused (s : State) (kind : Nat) (parts : List (Nat × Nat)) : List (Nat × Nat) :=
  parts.filter fun p => !reachable s debugMaster p.1 kind

/-- Refusals of the debug port are noted, and the port answers with an error response. -/
def debugError (kind : Nat) (bad : List (Nat × Nat)) (s : State) : State :=
  send (.tap []) (bad.foldl (fun s p => notePart debugMaster kind p.1 s) s)

/-- A read: every part that passes is read; one part refused discards the data of all (R395). -/
def debugRead (parts : List (Nat × Nat)) (s : State) : State :=
  let bad := debugRefused s 0 parts
  if bad = [] then
    let r := parts.foldl (fun (acc : Bytes × State) p =>
      let q := debugPart p.1 p.2 acc.2
      (acc.1 ++ q.1, q.2)) ([], s)
    send (.tap r.1) r.2
  else debugError 0 bad s

/-- One part of a store: into a scratchpad; a store into device registers has no effect that a rule gives. -/
def debugStore (addr : Nat) (data : Bytes) (s : State) : State :=
  if internalTarget s addr = some 4 then { s with scratch := Memory.writeN s.scratch (addr - 0x30000000) data } else s

/-- A store: the parts that pass are written, whatever becomes of the others (R395). -/
def debugWrite (addr : Nat) (parts : List (Nat × Nat)) (data : Bytes) (s : State) : State :=
  let bad := debugRefused s 1 parts
  let s := (parts.filter fun p => !bad.contains p).foldl (fun s p => debugStore p.1 (slice (p.1 - addr) p.2 data) s) s
  if bad = [] then s else debugError 1 bad s

/-- Bytes of a fuse bank with the bits of `data` blown. -/
def blowBytes (old data : Bytes) : Bytes := (old.zip data).map fun x => x.1 ||| x.2

/-- Bits of a fuse bank with those of `data` blown. -/
def blowBits {n : Nat} (old : BitVec n) (data : Bytes) : BitVec n := old ||| BitVec.ofNat n (leNat data)

/-- Length in bytes of a bank that provisioning programs. -/
def bankLength (bank : Nat) : Nat := [0, 16, 8, 0, 96, 512, 1024, 2584].getD bank 0

/-- The region entries and the path matrix of bank 7: entries first, in the order of tables A0 to A11 and T0 to T7. -/
def blowRegions (data : Bytes) (f : Fuses) : Fuses :=
  let entry := fun (m : SMap (BitVec 64)) (i : Nat) =>
    let v := SMap.get 0 m i ||| BitVec.ofNat 64 (leNat (slice (8 * i) 8 data))
    SMap.set 0 m i v
  { f with regions := (List.range 320).foldl entry f.regions, matrix := blowBits f.matrix (slice 2560 24 data) }

/-- The bits of one bank are blown, and none cleared (R452, R455). DESIGN CHOICE (assumption 20): no rule gives the grade a place in
bank 2, so programming that bank blows its bits and leaves the grade of the part as it is. -/
def blowBank (bank : Nat) (data : Bytes) (f : Fuses) : Fuses :=
  match bank with
  | 1 => { f with serial := blowBits f.serial (data.take 8), dateCode := blowBits f.dateCode (slice 8 4 data),
                  wafer := blowBits f.wafer (slice 12 4 data) }
  | 2 => { f with gradeBank := blowBits f.gradeBank data }
  | 4 => { f with ecdsaDigest := blowBytes f.ecdsaDigest (data.take 48), mldsaDigest := blowBytes f.mldsaDigest (slice 48 48 data) }
  | 5 => { f with helper := blowBytes f.helper data }
  | 6 => { f with repair := blowBytes f.repair data }
  | 7 => blowRegions data f
  | _ => f

/-- Programming a bank: its bits, and behind them its check. -/
def programBank (bank : Nat) (data : Bytes) (f : Fuses) : Fuses :=
  let f := blowBank bank (data.take (bankLength bank)) f
  { f with crcs := SMap.put f.crcs bank (blowBits (SMap.get 0 f.crcs bank) (data.drop (bankLength bank))) }

/-- What a device-specific instruction does through the open port. -/
def debugOp (op : DebugOp) (s : State) : State :=
  match op with
  | .halt k => if k < coreCount s then modifyCore k (fun c => { c with halted := true }) s else s
  | .resume k =>
    if k < coreCount s ∧ isWithdrawn 9 k s = false then
      modifyCore k (fun c => { c with halted := false, waitedAt := s.disp.tick }) s
    else s
  | .read addr len => debugRead (transfers addr len) s
  | .store addr data => debugWrite addr (transfers addr data.length) data s
  | .program bank data =>
    if s.life.state = .blank ∧ bankLength bank ≠ 0 ∧ data.length = bankLength bank + 4 then
      { s with fuses := programBank bank data s.fuses }
    else s

/-- DEVICE_SPECIFIC_INSTRUCTION. -/
def execDeviceSpecificInstruction (op : DebugOp) (s : State) : Host.Outcome State Fault Refusal :=
  if portOpen s then complete (debugOp op { s with tap := { s.tap with instruction := tapDevice, shift := [] } }) else complete s

end Sys2Proof.Machine
end

