-- ==== Sys2Proof/Machine/PublicLinks.lean ====
section
/-!
DEFINITION. Links of the PKE pairs and lattice pairs (R138 to R162): each computes twice, compares, and ends with its
output or with 0x0710.
-/
namespace Sys2Proof.Machine

/-- Where a Link runs: its pair and region. -/
def pairOf (s : State) (lattice : Bool) (c n : Nat) : Option (Nat × Bool) :=
  (pairs s lattice).findSome? fun x => (x.2.holds (c, n)).map fun b => (x.1, b)

/-! ### How a computation in a pair ends (R140, R141) -/

/-- A Link of a pair ends: with the result when its units agree, with 0x0710 for both Links of the pair otherwise. A
Link that is stopping or suspended does not end here. -/
def runPair (lattice : Bool) (op c n : Nat) (agree : Bool) (f : LinkCtx → OpResult)
    (key : LinkCtx → Bytes → Option (Nat × Nat)) (s : State) : State :=
  match linkCtx s c n op, pairOf s lattice c n with
  | some x, some (p, b) =>
    if (getPair s lattice p).running ≠ some b ∨ x.r.stopping then s
    else if !agree then pairMismatch lattice p 2 s
    else
      let res := nonceGate x (f x)
      match res with
      | .done out => endLink c n x.l.soft res (key x out) s
      | _ => endLink c n x.l.soft res none s
  | _, _ => s

/-- As `runPair`, for a Link that uses a private key: it ends with the status that the key loader found (R145, R171). -/
def runPrivate (lattice : Bool) (op c n : Nat) (agree : Bool) (f : LinkCtx → Bytes → OpResult)
    (key : LinkCtx → Bytes → Option (Nat × Nat)) (s : State) : State :=
  runPair lattice op c n agree
    (fun x => match x.priv with
      | .error st => .failed st
      | .ok k => f x k) key s

/-- No key output. -/
def noKey (_ : LinkCtx) (_ : Bytes) : Option (Nat × Nat) := none

/-- An agreement secret: usage derive, mode X (R148). -/
def secretKey (_ : LinkCtx) (out : Bytes) : Option (Nat × Nat) := some (roleWord 9 usageDerive modeX, out.length)

/-- The output of an RSA private operation is a secret for PURPOSE 1 (R148). -/
def rsaKey (x : LinkCtx) (out : Bytes) : Option (Nat × Nat) := if bitOf x.p 5 then secretKey x out else none

/-- The attribute word of a generated key (R157, R311). -/
def generatedAttr (x : LinkCtx) (alg usage : Nat) : Nat :=
  wordOfAttr (ownedBy x.ch.fn
    { alg := alg, usage := usage, mode := if usage = usageK3 then modeX else modeN, exp := 2, owner := 0, scope := 0,
      ctrEn := false, expire := false, persist := false, mark := 0, epoch := x.ch.epoch % 256, counter := 0 })

/-- A generated key pair: the domain key block, then the public key (R157). -/
def keyPairOut (s : State) (x : LinkCtx) (alg usage param : Nat) (pair : Bytes × Bytes) : OpResult :=
  .done (domainSeal x.key0.bytes x.r.nonce (ownDomain s) (generatedAttr x alg usage) param pair.1 ++ pair.2)

/-- Modulus length of R150 in words and in bytes. -/
def modWords (p : Nat) : Nat := bits p 8 8

/-- Opcode 0x701 (R152). -/
def execRsaPrivateCrt (chain link : Nat) (agree : Bool) (s : State) : Host.Outcome State Fault Refusal :=
  complete (runPrivate false 0x701 chain link agree (fun x k => rsaCrt (8 * modWords x.p) k x.in0) rsaKey s)

/-- Opcode 0x702 (R152). -/
def execRsaPrivateNonCrt (chain link : Nat) (agree : Bool) (s : State) : Host.Outcome State Fault Refusal :=
  complete (runPrivate false 0x702 chain link agree (fun x k => rsaPlain (8 * modWords x.p) k x.in0) rsaKey s)

/-- Opcode 0x703 (R152). -/
def execRsaPublic (chain link : Nat) (agree : Bool) (s : State) : Host.Outcome State Fault Refusal :=
  complete (runPair false 0x703 chain link agree (fun x => rsaPublic (modWords x.p) x.in0 x.in1 x.in2) noKey s)

/-- Opcode 0x710 (R153). -/
def execEcdsaSign (chain link : Nat) (agree : Bool) (s : State) : Host.Outcome State Fault Refusal :=
  complete (runPrivate false 0x710 chain link agree
    (fun x k => ecdsaSignOp (curveOf (bits x.p 0 4)) k x.in0 x.r.draw) noKey s)

/-- Opcode 0x711 (R153). -/
def execEcdsaVerify (chain link : Nat) (agree : Bool) (s : State) : Host.Outcome State Fault Refusal :=
  complete (runPair false 0x711 chain link agree
    (fun x => ecdsaVerifyOp (curveOf (bits x.p 0 4)) x.in0 x.in1 x.in2) noKey s)

/-- Opcode 0x712 (R153). -/
def execEcdh (chain link : Nat) (agree : Bool) (s : State) : Host.Outcome State Fault Refusal :=
  complete (runPrivate false 0x712 chain link agree
    (fun x k => ecdhOp (curveOf (bits x.p 0 4)) k x.in0) secretKey s)

/-- Opcode 0x713 (R157). -/
def execEcKeyPairGenerate (chain link : Nat) (agree : Bool) (s : State) : Host.Outcome State Fault Refusal :=
  complete (runPair false 0x713 chain link agree
    (fun x => keyPairOut s x (curveAlg (bits x.p 0 4)) (if bitOf x.p 5 then usageK3 else usageS0) (bits x.p 0 4)
      (ecKeyPair (curveOf (bits x.p 0 4)) x.r.draw)) noKey s)

/-- Opcode 0x720 (R154). -/
def execEd25519Sign (chain link : Nat) (agree : Bool) (s : State) : Host.Outcome State Fault Refusal :=
  complete (runPrivate false 0x720 chain link agree (fun x k => ed25519SignOp k x.in0) noKey s)

/-- Opcode 0x721 (R154). -/
def execEd25519Verify (chain link : Nat) (agree : Bool) (s : State) : Host.Outcome State Fault Refusal :=
  complete (runPair false 0x721 chain link agree (fun x => ed25519VerifyOp x.in0 x.in1 x.in2) noKey s)

/-- Opcode 0x722 (R154). -/
def execX25519 (chain link : Nat) (agree : Bool) (s : State) : Host.Outcome State Fault Refusal :=
  complete (runPrivate false 0x722 chain link agree (fun x k => x25519Op k x.in0) secretKey s)

/-- Opcode 0x723 (R157). -/
def execCurve25519KeyPairGenerate (chain link : Nat) (agree : Bool) (s : State) :
    Host.Outcome State Fault Refusal :=
  complete (runPair false 0x723 chain link agree
    (fun x => keyPairOut s x (if bitOf x.p 5 then 8 else 7) (if bitOf x.p 5 then usageK3 else usageS0) 0
      (curve25519KeyPair (bitOf x.p 5) x.r.draw)) noKey s)

/-- Opcode 0x7F0 (R155). -/
def execModmul (chain link : Nat) (agree : Bool) (s : State) : Host.Outcome State Fault Refusal :=
  complete (runPair false 0x7F0 chain link agree (fun x => modMul (modWords x.p) x.in0 x.in1 x.in2) noKey s)

/-- Opcode 0x7F1 (R155). -/
def execModexp (chain link : Nat) (agree : Bool) (s : State) : Host.Outcome State Fault Refusal :=
  complete (runPair false 0x7F1 chain link agree (fun x => modExp (modWords x.p) x.in0 x.in1 x.in2) noKey s)

/-- Opcode 0x7F2 (R155). -/
def execModinv (chain link : Nat) (agree : Bool) (s : State) : Host.Outcome State Fault Refusal :=
  complete (runPair false 0x7F2 chain link agree (fun x => modInverse (modWords x.p) x.in0 x.in2) noKey s)

/-- Opcode 0x801 (R158). -/
def execMlKemKeyPairGenerate (chain link : Nat) (agree : Bool) (s : State) : Host.Outcome State Fault Refusal :=
  complete (runPair true 0x801 chain link agree
    (fun x => keyPairOut s x 0x0E usageK3 (bits x.p 0 2) (kemKeyPair (bits x.p 0 2) x.r.draw)) noKey s)

/-- Opcode 0x802: the ciphertext, then the secret, whose bytes alone are a key output (R158, R162). -/
def execMlKemEncapsulate (chain link : Nat) (agree : Bool) (s : State) : Host.Outcome State Fault Refusal :=
  complete (runPair true 0x802 chain link agree (fun x => kemEncapsOp (bits x.p 0 2) x.in0 x.r.draw)
    (fun _ _ => some (roleWord 9 usageDerive modeX, 32)) s)

/-- Opcode 0x803 (R162). -/
def execMlKemDecapsulate (chain link : Nat) (agree : Bool) (s : State) : Host.Outcome State Fault Refusal :=
  complete (runPrivate true 0x803 chain link agree (fun x k => kemDecapsOp (bits x.p 0 2) k x.in0) secretKey s)

/-- Opcode 0x811 (R158). -/
def execMlDsaKeyPairGenerate (chain link : Nat) (agree : Bool) (s : State) : Host.Outcome State Fault Refusal :=
  complete (runPair true 0x811 chain link agree
    (fun x => keyPairOut s x 0x0F usageS0 (bits x.p 0 2) (dsaKeyPair (bits x.p 0 2) x.r.draw)) noKey s)

/-- Opcode 0x812: a Link whose rejection loop has not yet accepted a candidate runs on (R160, R161). -/
def execMlDsaSign (chain link : Nat) (agree : Bool) (s : State) : Host.Outcome State Fault Refusal :=
  let sign := fun (x : LinkCtx) (k : Bytes) => dsaSignOp (bits x.p 0 2) k x.in1 x.in0 x.r.draw
  let running := match linkCtx s chain link 0x812 with
    | some x =>
      match x.priv with
      | .ok k => (sign x k).isNone
      | .error _ => false
    | none => false
  if running && agree then complete s
  else complete (runPrivate true 0x812 chain link agree (fun x k => (sign x k).getD (.done [])) noKey s)

/-- Opcode 0x813; its context stands at the head of IN1 (R158, R161). -/
def execMlDsaVerify (chain link : Nat) (agree : Bool) (s : State) : Host.Outcome State Fault Refusal :=
  complete (runPair true 0x813 chain link agree
    (fun x => dsaVerifyOp (bits x.p 0 2) (bits x.p 8 8) x.in0 x.in1 x.in2) noKey s)

end Sys2Proof.Machine
end

