-- ==== Sys2Proof/Machine/Requests.lean ====
section
/-!
DEFINITION. REQUEST frames of the custody bus: NOP, OD read and OD write over a session (R488, R495, R496, R516 to R519).
-/
namespace Sys2Proof.Machine

/-- The state that an outcome goes on to. -/
def goOn (o : Host.Outcome State Fault Refusal) (s : State) : State :=
  match o with
  | .next t => t
  | _ => s

/-- The row of a written value. -/
def writeRow (p : Path) (index sub : Nat) (value : Bytes) (s : State) : State :=
  match index, sub with
  | 0x1000, 0x14 => goOn (execCertificateChunk (.write p) value s) s
  | 0x1000, 0x15 => goOn (execCertificateCommit (.write p) value s) s
  | 0x1000, 0x17 => goOn (execBoardDataWrite (.write p) value s) s
  | 0x1100, 0x04 => goOn (execLifeCycleTransition (.write p) value s) s
  | 0x1200, 0x04 => goOn (execServiceEnableWrite (.write p) value s) s
  | 0x2000, 0x02 => goOn (execPowerLimitWrite (.write p) value s) s
  | 0x2200, n => goOn (execStarvationFlagClear (.write p) (n - 0x14) value s) s
  | 0x3003, 0x04 => goOn (execLoadComponent (.write p) value s) s
  | 0x3100, 0x0B => goOn (execCaptureSourceWrite (.write p) value s) s
  | 0x4000, 0x04 => goOn (execManagerNotificationClear (.write p) value s) s
  | 0x4030, 0x02 => goOn (execIdeRequiredWrite (.write p) value s) s
  | 0x6000, 0x03 => goOn (execClearFlags (.write p) value s) s
  | 0x6000, 0x05 => goOn (execExternalFiligreeArm (.write p) value s) s
  | 0x6000, 0x06 => goOn (execSealLoopArm (.write p) value s) s
  | 0x7810, 0x01 => goOn (execCeremonyBegin (.write p) value s) s
  | 0x9000, 0x08 => goOn (execStageChunk (.write p) value s) s
  | _, _ => s

/-- The row of an action code. -/
def actionRow (p : Path) (index sub code : Nat) (s : State) : State :=
  match index, sub, code with
  | 0x1100, 0x06, 1 => goOn (execDebugReopen (.write p) s) s
  | 0x1100, 0x06, 2 => goOn (execDebugClose (.write p) s) s
  | 0x2100, 0x05, 1 => goOn (execCommit (.write p) s) s
  | 0x2102, 0x05, 1 => goOn (execTemplateStageLoad (.write p) s) s
  | 0x2102, 0x05, 2 => goOn (execTemplateStageClear (.write p) s) s
  | 0x3000, 0x0B, 1 => goOn (execZeroiseWorkingSlots (.write p) s) s
  | 0x3000, 0x0B, 2 => goOn (execZeroiseAllKeys (.write p) s) s
  | 0x3001, 0x05, 1 => goOn (execSlotDeleteNow (.write p) s) s
  | 0x3001, 0x05, 2 => goOn (execSlotStageDelete (.write p) s) s
  | 0x3001, 0x05, 3 => goOn (execSlotZeroiseBad (.write p) s) s
  | 0x3003, 0x06, 1 => goOn (execVaultKeyLoad (.write p) s) s
  | 0x3003, 0x06, 2 => goOn (execVaultSlotEmpty (.write p) s) s
  | 0x3003, 0x06, 3 => goOn (execComponentsDiscard (.write p) s) s
  | 0x4020, 0x0B, 1 => goOn (execQpSetUp (.write p) s) s
  | 0x4020, 0x0B, 2 => goOn (execQpEnable (.write p) s) s
  | 0x4020, 0x0B, 3 => goOn (execQpDisable (.write p) s) s
  | 0x4020, 0x0B, 4 => goOn (execQpRelease (.write p) s) s
  | 0x4100, 0x09, 1 => goOn (execInstanceCreate (.write p) s) s
  | 0x4100, 0x09, 2 => goOn (execInstanceResize (.write p) s) s
  | 0x4100, 0x09, 3 => goOn (execInstanceDestroy (.write p) s) s
  | 0x4100, 0x09, 4 => goOn (execInstancePurge (.write p) s) s
  | 0x6100, 0x05, 1 => goOn (execFaultRecordClear (.write p) s) s
  | 0x6200, 0x06, 1 => goOn (execEventLogExport (.write p) s) s
  | 0x6200, 0x06, 2 => goOn (execEventLogExportHold (.write p) s) s
  | 0x6200, 0x09, 1 => goOn (execEventLogClear (.write p) s) s
  | 0x6300, 0x05, 1 => goOn (execLocketExport (.write p) s) s
  | 0x6300, 0x08, 1 => goOn (execLocketClear (.write p) s) s
  | 0x7000, 0x09, 1 => goOn (execBindAsSource (.write p) s) s
  | 0x7000, 0x09, 2 => goOn (execBindAsJoiner (.write p) s) s
  | 0x7000, 0x09, 3 => goOn (execPairUnbind (.write p) s) s
  | 0x7000, 0x09, 4 => goOn (execPlannedRelease (.write p) s) s
  | 0x7100, 0x03, 1 => goOn (execDomainFound (.write p) s) s
  | 0x7100, 0x03, 2 => goOn (execDomainSponsor (.write p) s) s
  | 0x7100, 0x03, 3 => goOn (execDomainJoin (.write p) s) s
  | 0x7100, 0x03, 4 => goOn (execDomainLeave (.write p) s) s
  | 0x7801, 0x05, 1 => settle (consoleAction (.write p) s)
  | 0x7810, 0x03, 1 => goOn (execCeremonyAbandon (.write p) s) s
  | 0x9000, 0x07, 1 => goOn (execStageBeginDma (.write p) s) s
  | 0x9000, 0x07, 2 => goOn (execStageBeginChunks (.write p) s) s
  | 0x9000, 0x07, 3 => goOn (execStageVerify (.write p) s) s
  | 0x9000, 0x07, 4 => goOn (execStageAbandon (.write p) s) s
  | 0x9000, 0x0F, 1 => goOn (execActivate (.write p) s) s
  | _, _, _ => s

/-- A write brought to the dictionary: by its own row, or as a plain one. -/
def writeAny (p : Path) (index sub : Nat) (value : Bytes) (s : State) : State :=
  if valueRow index sub then writeRow p index sub value s
  else if hasRow index sub value then actionRow p index sub (leNat value) s
  else answerWrite p (plainWrite p index sub value s)

/-- The REPLY, where the session still stands. -/
def replyRequest (result : Nat) (value : Bytes) (s : State) : State :=
  if s.custody.session = .opened then custodyReply result value s else { s with reply := (result, value) }

/-- The answer of a write: its REPLY at once, or once what it waits for is done. -/
def replyWrite (s : State) : State :=
  if custodyWaits s then
    let mark := fun (h : HeldReply) => if h.path = .custody then { h with slot := requestSlot } else h
    { s with dict := { s.dict with held := s.dict.held.map mark } }
  else replyRequest s.reply.1 s.reply.2 s

/-- The zero bytes of a REQUEST body are zero. -/
def requestZeros (body : Bytes) : Bool := (slice 1 3 body).all (fun b => b == 0) && (body.length ≤ 7 || body.getD 7 0 == 0)

/-- A REQUEST is executed (R496); `depth` is DOZE_DEPTH as it stood when its frame arrived. -/
def runRequest (depth : Nat) (body : Bytes) (s : State) : State :=
  let s := postDeviceEvent 5 s
  let index := leNat (slice 4 2 body)
  let sub := (body.getD 6 0).toNat
  let value := body.drop 8
  if s.boot.phase = .recovery then replyRequest 0x03 [] s
  else
    match (body.getD 0 0).toNat with
    | 0 => replyRequest (if body.length = 4 ∧ requestZeros body = true then 0 else 0x02) [] s
    | 1 =>
      let r := if body.length = 8 ∧ requestZeros body = true then
          asArrived depth index sub (readEntry s .custody 1020 index sub) else (0x02, [])
      replyRequest r.1 r.2 s
    | 2 =>
      match modeRefusal s .custody true index sub value with
      | some r => replyRequest r [] s
      | none =>
        if body.length < 8 ∨ requestZeros body = false then replyRequest 0x02 [] s
        else closeRemoved (replyWrite (writeAny .custody index sub value s))
    | _ => replyRequest (if fatalOpen s then 0x04 else 0x01) [] s

/-- REQUEST: executed once by SEQ, and answered (R495). -/
def execRequest (frame : Frame) (s : State) : Host.Outcome State Fault Refusal :=
  if custodyWaits s || !mailServed s then complete s
  else complete (runFrame 0x10 4 1024 frame (runRequest (dozeDepthNow s) (frameContent frame)) s)

end Sys2Proof.Machine
end

