-- ==== Sys2Proof/Machine/Dispatch.lean ====
section
/-!
DEFINITION. One arm per command: the one call of its meaning.
-/
namespace Sys2Proof.Machine

/-- The effect of a command on everything but the queue. -/
def exec (i : Instr) (s : State) : Host.Outcome State Fault Refusal :=
  match i with
  | .doorbell w => Sys2Proof.Machine.execDoorbell w s
  | .barUnimplementedAccess read len w => Sys2Proof.Machine.execBarUnimplementedAccess read len w s
  | .poisonedWrite w => Sys2Proof.Machine.execPoisonedWrite w s
  | .submissionFetchCompletion ident answer => Sys2Proof.Machine.execSubmissionFetchCompletion ident answer s
  | .fetchTimeout ident => Sys2Proof.Machine.execFetchTimeout ident s
  | .descriptorFetchCompletion ident answer => Sys2Proof.Machine.execDescriptorFetchCompletion ident answer s
  | .inputFetchCompletion ident answer => Sys2Proof.Machine.execInputFetchCompletion ident answer s
  | .chainAdmission port => Sys2Proof.Machine.execChainAdmission port s
  | .grantReturn port => Sys2Proof.Machine.execGrantReturn port s
  | .linkIssue => Sys2Proof.Machine.execLinkIssue s
  | .nop chain link => Sys2Proof.Machine.execNop chain link s
  | .move chain link => Sys2Proof.Machine.execMove chain link s
  | .concat chain link => Sys2Proof.Machine.execConcat chain link s
  | .compare chain link => Sys2Proof.Machine.execCompare chain link s
  | .delay chain link => Sys2Proof.Machine.execDelay chain link s
  | .x9143Import chain link => Sys2Proof.Machine.execX9143Import chain link s
  | .x9143Export chain link => Sys2Proof.Machine.execX9143Export chain link s
  | .domainImport chain link => Sys2Proof.Machine.execDomainImport chain link s
  | .domainExport chain link => Sys2Proof.Machine.execDomainExport chain link s
  | .unwrapToKeyBuffer chain link => Sys2Proof.Machine.execUnwrapToKeyBuffer chain link s
  | .generate chain link => Sys2Proof.Machine.execGenerate chain link s
  | .delete chain link => Sys2Proof.Machine.execDelete chain link s
  | .x9143ToDomainBlock chain link => Sys2Proof.Machine.execX9143ToDomainBlock chain link s
  | .deriveFromAgreementSecret chain link => Sys2Proof.Machine.execDeriveFromAgreementSecret chain link s
  | .dukptAesDerivation chain link => Sys2Proof.Machine.execDukptAesDerivation chain link s
  | .encrypt chain link => Sys2Proof.Machine.execEncrypt chain link s
  | .decrypt chain link => Sys2Proof.Machine.execDecrypt chain link s
  | .reEncrypt chain link => Sys2Proof.Machine.execReEncrypt chain link s
  | .hash chain link => Sys2Proof.Machine.execHash chain link s
  | .hmacGenerate chain link => Sys2Proof.Machine.execHmacGenerate chain link s
  | .hmacVerify chain link => Sys2Proof.Machine.execHmacVerify chain link s
  | .macGenerate chain link => Sys2Proof.Machine.execMacGenerate chain link s
  | .macVerify chain link => Sys2Proof.Machine.execMacVerify chain link s
  | .pinBlockDecode chain link => Sys2Proof.Machine.execPinBlockDecode chain link s
  | .pinBlockEncode chain link => Sys2Proof.Machine.execPinBlockEncode chain link s
  | .offsetGenerate chain link => Sys2Proof.Machine.execOffsetGenerate chain link s
  | .offsetVerify chain link => Sys2Proof.Machine.execOffsetVerify chain link s
  | .verificationValueGenerate chain link => Sys2Proof.Machine.execVerificationValueGenerate chain link s
  | .verificationValueVerify chain link => Sys2Proof.Machine.execVerificationValueVerify chain link s
  | .cardAndSessionKeyDerivation chain link => Sys2Proof.Machine.execCardAndSessionKeyDerivation chain link s
  | .arqcVerify chain link => Sys2Proof.Machine.execArqcVerify chain link s
  | .arpcGenerate chain link => Sys2Proof.Machine.execArpcGenerate chain link s
  | .scriptMacGenerate chain link => Sys2Proof.Machine.execScriptMacGenerate chain link s
  | .cardCodeGenerate chain link => Sys2Proof.Machine.execCardCodeGenerate chain link s
  | .cardCodeVerify chain link => Sys2Proof.Machine.execCardCodeVerify chain link s
  | .ff1Encrypt chain link => Sys2Proof.Machine.execFf1Encrypt chain link s
  | .ff1Decrypt chain link => Sys2Proof.Machine.execFf1Decrypt chain link s
  | .rsaPrivateCrt chain link agree => Sys2Proof.Machine.execRsaPrivateCrt chain link agree s
  | .rsaPrivateNonCrt chain link agree => Sys2Proof.Machine.execRsaPrivateNonCrt chain link agree s
  | .rsaPublic chain link agree => Sys2Proof.Machine.execRsaPublic chain link agree s
  | .ecdsaSign chain link agree => Sys2Proof.Machine.execEcdsaSign chain link agree s
  | .ecdsaVerify chain link agree => Sys2Proof.Machine.execEcdsaVerify chain link agree s
  | .ecdh chain link agree => Sys2Proof.Machine.execEcdh chain link agree s
  | .ecKeyPairGenerate chain link agree => Sys2Proof.Machine.execEcKeyPairGenerate chain link agree s
  | .ed25519Sign chain link agree => Sys2Proof.Machine.execEd25519Sign chain link agree s
  | .ed25519Verify chain link agree => Sys2Proof.Machine.execEd25519Verify chain link agree s
  | .x25519 chain link agree => Sys2Proof.Machine.execX25519 chain link agree s
  | .curve25519KeyPairGenerate chain link agree => Sys2Proof.Machine.execCurve25519KeyPairGenerate chain link agree s
  | .modmul chain link agree => Sys2Proof.Machine.execModmul chain link agree s
  | .modexp chain link agree => Sys2Proof.Machine.execModexp chain link agree s
  | .modinv chain link agree => Sys2Proof.Machine.execModinv chain link agree s
  | .mlKemKeyPairGenerate chain link agree => Sys2Proof.Machine.execMlKemKeyPairGenerate chain link agree s
  | .mlKemEncapsulate chain link agree => Sys2Proof.Machine.execMlKemEncapsulate chain link agree s
  | .mlKemDecapsulate chain link agree => Sys2Proof.Machine.execMlKemDecapsulate chain link agree s
  | .mlDsaKeyPairGenerate chain link agree => Sys2Proof.Machine.execMlDsaKeyPairGenerate chain link agree s
  | .mlDsaSign chain link agree => Sys2Proof.Machine.execMlDsaSign chain link agree s
  | .mlDsaVerify chain link agree => Sys2Proof.Machine.execMlDsaVerify chain link agree s
  | .randomBytes chain link => Sys2Proof.Machine.execRandomBytes chain link s
  | .pad chain link => Sys2Proof.Machine.execPad chain link s
  | .unpad chain link => Sys2Proof.Machine.execUnpad chain link s
  | .pkcs1V15SignatureEncode chain link => Sys2Proof.Machine.execPkcs1V15SignatureEncode chain link s
  | .pssSignatureEncode chain link => Sys2Proof.Machine.execPssSignatureEncode chain link s
  | .pkcs1V15SignatureCheck chain link => Sys2Proof.Machine.execPkcs1V15SignatureCheck chain link s
  | .pssSignatureCheck chain link => Sys2Proof.Machine.execPssSignatureCheck chain link s
  | .yieldPoint lattice pair agree => Sys2Proof.Machine.execYieldPoint lattice pair agree s
  | .chainWriteBack chain => Sys2Proof.Machine.execChainWriteBack chain s
  | .completionWrite chain => Sys2Proof.Machine.execCompletionWrite chain s
  | .postedCreditUpdate headers data => Sys2Proof.Machine.execPostedCreditUpdate headers data s
  | .moderationTimerExpiry qp => Sys2Proof.Machine.execModerationTimerExpiry qp s
  | .msixUnmask fn vector address data => Sys2Proof.Machine.execMsixUnmask fn vector address data s
  | .tick => Sys2Proof.Machine.execTick s
  | .chainExpiry chain => Sys2Proof.Machine.execChainExpiry chain s
  | .drawCorrectionUpdate measured => Sys2Proof.Machine.execDrawCorrectionUpdate measured s
  | .thermalSample temps => Sys2Proof.Machine.execThermalSample temps s
  | .warmupEnd => Sys2Proof.Machine.execWarmupEnd s
  | .throttledSet => Sys2Proof.Machine.execThrottledSet s
  | .throttledClear => Sys2Proof.Machine.execThrottledClear s
  | .powerLimitWrite src value => Sys2Proof.Machine.execPowerLimitWrite src value s
  | .epochDrained => Sys2Proof.Machine.execEpochDrained s
  | .commit src => Sys2Proof.Machine.execCommit src s
  | .templateStageLoad src => Sys2Proof.Machine.execTemplateStageLoad src s
  | .templateStageClear src => Sys2Proof.Machine.execTemplateStageClear src s
  | .templateBodyFetch ident answer => Sys2Proof.Machine.execTemplateBodyFetch ident answer s
  | .serviceEnableWrite src value => Sys2Proof.Machine.execServiceEnableWrite src value s
  | .dozeDepth1Entry => Sys2Proof.Machine.execDozeDepth1Entry s
  | .dozeDepth2Entry => Sys2Proof.Machine.execDozeDepth2Entry s
  | .dozeWake => Sys2Proof.Machine.execDozeWake s
  | .starvationDetected arbiter requester bank wait => Sys2Proof.Machine.execStarvationDetected arbiter requester bank wait s
  | .starvationFlagClear src arbiter value => Sys2Proof.Machine.execStarvationFlagClear src arbiter value s
  | .revocationComplete owner => Sys2Proof.Machine.execRevocationComplete owner s
  | .slotLockLeaseExpiry slot => Sys2Proof.Machine.execSlotLockLeaseExpiry slot s
  | .qpSetUp src => Sys2Proof.Machine.execQpSetUp src s
  | .qpEnable src => Sys2Proof.Machine.execQpEnable src s
  | .qpDisable src => Sys2Proof.Machine.execQpDisable src s
  | .qpRelease src => Sys2Proof.Machine.execQpRelease src s
  | .ideRequiredWrite src value => Sys2Proof.Machine.execIdeRequiredWrite src value s
  | .ideStreamNotSecure stream => Sys2Proof.Machine.execIdeStreamNotSecure stream s
  | .ideCheckFailure stream ident => Sys2Proof.Machine.execIdeCheckFailure stream ident s
  | .managerNotificationClear src value => Sys2Proof.Machine.execManagerNotificationClear src value s
  | .hostReset cause => Sys2Proof.Machine.execHostReset cause s
  | .perstDeassert => Sys2Proof.Machine.execPerstDeassert s
  | .functionReset vf => Sys2Proof.Machine.execFunctionReset vf s
  | .vfEnableSet numVfs => Sys2Proof.Machine.execVfEnableSet numVfs s
  | .vfEnableClear => Sys2Proof.Machine.execVfEnableClear s
  | .instanceCreate src => Sys2Proof.Machine.execInstanceCreate src s
  | .instanceResize src => Sys2Proof.Machine.execInstanceResize src s
  | .instanceDestroy src => Sys2Proof.Machine.execInstanceDestroy src s
  | .instanceDestroyComplete vf => Sys2Proof.Machine.execInstanceDestroyComplete vf s
  | .instancePurge src => Sys2Proof.Machine.execInstancePurge src s
  | .mailboxSubmit w => Sys2Proof.Machine.execMailboxSubmit w s
  | .mailboxSlotFree w => Sys2Proof.Machine.execMailboxSlotFree w s
  | .notifyCauseClear w => Sys2Proof.Machine.execNotifyCauseClear w s
  | .odRead fn slot => Sys2Proof.Machine.execOdRead fn slot s
  | .odWrite fn slot => Sys2Proof.Machine.execOdWrite fn slot s
  | .queuePairEnable fn slot => Sys2Proof.Machine.execQueuePairEnable fn slot s
  | .queuePairDisable fn slot => Sys2Proof.Machine.execQueuePairDisable fn slot s
  | .queuePairStatus fn slot => Sys2Proof.Machine.execQueuePairStatus fn slot s
  | .slotDeleteNow src => Sys2Proof.Machine.execSlotDeleteNow src s
  | .slotStageDelete src => Sys2Proof.Machine.execSlotStageDelete src s
  | .slotZeroiseBad src => Sys2Proof.Machine.execSlotZeroiseBad src s
  | .zeroiseWorkingSlots src => Sys2Proof.Machine.execZeroiseWorkingSlots src s
  | .zeroiseAllKeys src => Sys2Proof.Machine.execZeroiseAllKeys src s
  | .floorWrite slot => Sys2Proof.Machine.execFloorWrite slot s
  | .vaultRemaskCycle => Sys2Proof.Machine.execVaultRemaskCycle s
  | .rootReconstruct => Sys2Proof.Machine.execRootReconstruct s
  | .healthTestWindow source => Sys2Proof.Machine.execHealthTestWindow source s
  | .reseed => Sys2Proof.Machine.execReseed s
  | .generateCall reserve => Sys2Proof.Machine.execGenerateCall reserve s
  | .captureSourceWrite src value => Sys2Proof.Machine.execCaptureSourceWrite src value s
  | .waitw core rd rs1 rs2 => Sys2Proof.Machine.execWaitw core rd rs1 rs2 s
  | .firmwareLinkHandover => Sys2Proof.Machine.execFirmwareLinkHandover s
  | .waite core rd rs1 rs2 => Sys2Proof.Machine.execWaite core rd rs1 rs2 s
  | .eventDelivery core => Sys2Proof.Machine.execEventDelivery core s
  | .waitTimeout core => Sys2Proof.Machine.execWaitTimeout core s
  | .allWaitingDetectorFire => Sys2Proof.Machine.execAllWaitingDetectorFire s
  | .lend core rs1 => Sys2Proof.Machine.execLend core rs1 s
  | .engreq core rd rs1 => Sys2Proof.Machine.execEngreq core rd rs1 s
  | .signal core rs1 => Sys2Proof.Machine.execSignal core rs1 s
  | .rndrd core rd => Sys2Proof.Machine.execRndrd core rd s
  | .csrr core rd csr => Sys2Proof.Machine.execCsrr core rd csr s
  | .csrw core rs1 csr => Sys2Proof.Machine.execCsrw core rs1 csr s
  | .firmwareTimerDue core timer => Sys2Proof.Machine.execFirmwareTimerDue core timer s
  | .tret core => Sys2Proof.Machine.execTret core s
  | .spill core => Sys2Proof.Machine.execSpill core s
  | .fill core => Sys2Proof.Machine.execFill core s
  | .call core target => Sys2Proof.Machine.execCall core target s
  | .ret core target => Sys2Proof.Machine.execRet core target s
  | .coreLoad core rd addr width => Sys2Proof.Machine.execCoreLoad core rd addr width s
  | .coreStore core addr width value => Sys2Proof.Machine.execCoreStore core addr width value s
  | .bitSetAliasStore core addr width value => Sys2Proof.Machine.execBitSetAliasStore core addr width value s
  | .bitClearAliasStore core addr width value => Sys2Proof.Machine.execBitClearAliasStore core addr width value s
  | .abortAckTimeout core => Sys2Proof.Machine.execAbortAckTimeout core s
  | .coreWatchdog core => Sys2Proof.Machine.execCoreWatchdog core s
  | .eccUncorrectable site => Sys2Proof.Machine.execEccUncorrectable site s
  | .knownAnswerTestEnd unit index passed => Sys2Proof.Machine.execKnownAnswerTestEnd unit index passed s
  | .testRegionStart engine => Sys2Proof.Machine.execTestRegionStart engine s
  | .testRegionEnd engine passed => Sys2Proof.Machine.execTestRegionEnd engine passed s
  | .testRegionOverdue engine => Sys2Proof.Machine.execTestRegionOverdue engine s
  | .pageWriteDurable readBack => Sys2Proof.Machine.execPageWriteDurable readBack s
  | .pwrfailAssert => Sys2Proof.Machine.execPwrfailAssert s
  | .pwrfailDeassert => Sys2Proof.Machine.execPwrfailDeassert s
  | .stageBeginDma src => Sys2Proof.Machine.execStageBeginDma src s
  | .stageBeginChunks src => Sys2Proof.Machine.execStageBeginChunks src s
  | .stageVerify src => Sys2Proof.Machine.execStageVerify src s
  | .stageAbandon src => Sys2Proof.Machine.execStageAbandon src s
  | .stageChunk src value => Sys2Proof.Machine.execStageChunk src value s
  | .stageDmaData ident answer => Sys2Proof.Machine.execStageDmaData ident answer s
  | .stagingTimeout => Sys2Proof.Machine.execStagingTimeout s
  | .stageVerificationEnd => Sys2Proof.Machine.execStageVerificationEnd s
  | .activate src => Sys2Proof.Machine.execActivate src s
  | .securityVersionAdvance readBack => Sys2Proof.Machine.execSecurityVersionAdvance readBack s
  | .locketExport src => Sys2Proof.Machine.execLocketExport src s
  | .locketClear src => Sys2Proof.Machine.execLocketClear src s
  | .tamperSource source asserted => Sys2Proof.Machine.execTamperSource source asserted s
  | .alarmLinesDisagree => Sys2Proof.Machine.execAlarmLinesDisagree s
  | .doubleDecisionSecond agrees => Sys2Proof.Machine.execDoubleDecisionSecond agrees s
  | .lightDetectorDisagreement detector => Sys2Proof.Machine.execLightDetectorDisagreement detector s
  | .externalFiligreeArm src value => Sys2Proof.Machine.execExternalFiligreeArm src value s
  | .sealLoopArm src value => Sys2Proof.Machine.execSealLoopArm src value s
  | .armingComplete correct => Sys2Proof.Machine.execArmingComplete correct s
  | .clearFlags src value => Sys2Proof.Machine.execClearFlags src value s
  | .lifeCycleTransition src value => Sys2Proof.Machine.execLifeCycleTransition src value s
  | .fuseBitBlown readBack => Sys2Proof.Machine.execFuseBitBlown readBack s
  | .debugReopen src => Sys2Proof.Machine.execDebugReopen src s
  | .debugClose src => Sys2Proof.Machine.execDebugClose src s
  | .postCeremonyReset => Sys2Proof.Machine.execPostCeremonyReset s
  | .faultRecordClear src => Sys2Proof.Machine.execFaultRecordClear src s
  | .fatalEscalation => Sys2Proof.Machine.execFatalEscalation s
  | .eventAppend => Sys2Proof.Machine.execEventAppend s
  | .eventLogExport src => Sys2Proof.Machine.execEventLogExport src s
  | .eventLogExportHold src => Sys2Proof.Machine.execEventLogExportHold src s
  | .holdTimeout => Sys2Proof.Machine.execHoldTimeout s
  | .eventLogClear src => Sys2Proof.Machine.execEventLogClear src s
  | .openReq frame => Sys2Proof.Machine.execOpenReq frame s
  | .openConf frame => Sys2Proof.Machine.execOpenConf frame s
  | .enrolReq frame => Sys2Proof.Machine.execEnrolReq frame s
  | .enrolConf frame => Sys2Proof.Machine.execEnrolConf frame s
  | .sessionOpenTimeout => Sys2Proof.Machine.execSessionOpenTimeout s
  | .request frame => Sys2Proof.Machine.execRequest frame s
  | .keepalive frame => Sys2Proof.Machine.execKeepalive frame s
  | .close frame => Sys2Proof.Machine.execClose frame s
  | .sessionIdleTimeout => Sys2Proof.Machine.execSessionIdleTimeout s
  | .custodyLinkDown => Sys2Proof.Machine.execCustodyLinkDown s
  | .announce => Sys2Proof.Machine.execAnnounce s
  | .presenceValidated input => Sys2Proof.Machine.execPresenceValidated input s
  | .presenceReleased input => Sys2Proof.Machine.execPresenceReleased input s
  | .ceremonyBegin src value => Sys2Proof.Machine.execCeremonyBegin src value s
  | .ceremonyAbandon src => Sys2Proof.Machine.execCeremonyAbandon src s
  | .consoleRemove src => Sys2Proof.Machine.execConsoleRemove src s
  | .loadComponent src value => Sys2Proof.Machine.execLoadComponent src value s
  | .vaultKeyLoad src => Sys2Proof.Machine.execVaultKeyLoad src s
  | .vaultSlotEmpty src => Sys2Proof.Machine.execVaultSlotEmpty src s
  | .componentsDiscard src => Sys2Proof.Machine.execComponentsDiscard src s
  | .certificateChunk src value => Sys2Proof.Machine.execCertificateChunk src value s
  | .certificateCommit src value => Sys2Proof.Machine.execCertificateCommit src value s
  | .boardDataWrite src value => Sys2Proof.Machine.execBoardDataWrite src value s
  | .claspLinkUp lanes => Sys2Proof.Machine.execClaspLinkUp lanes s
  | .claspLinkDown reason => Sys2Proof.Machine.execClaspLinkDown reason s
  | .linkTrainingRetry => Sys2Proof.Machine.execLinkTrainingRetry s
  | .claspIdleAck => Sys2Proof.Machine.execClaspIdleAck s
  | .hello frame => Sys2Proof.Machine.execHello frame s
  | .helloConf frame => Sys2Proof.Machine.execHelloConf frame s
  | .ack frame => Sys2Proof.Machine.execAck frame s
  | .renew frame => Sys2Proof.Machine.execRenew frame s
  | .renewAck frame => Sys2Proof.Machine.execRenewAck frame s
  | .release frame => Sys2Proof.Machine.execRelease frame s
  | .releaseAck frame => Sys2Proof.Machine.execReleaseAck frame s
  | .take frame => Sys2Proof.Machine.execTake frame s
  | .detach frame => Sys2Proof.Machine.execDetach frame s
  | .repl frame => Sys2Proof.Machine.execRepl frame s
  | .resyncReq frame => Sys2Proof.Machine.execResyncReq frame s
  | .resyncData frame => Sys2Proof.Machine.execResyncData frame s
  | .resyncEnd frame => Sys2Proof.Machine.execResyncEnd frame s
  | .bindReq frame => Sys2Proof.Machine.execBindReq frame s
  | .bindResp frame => Sys2Proof.Machine.execBindResp frame s
  | .bindConf frame => Sys2Proof.Machine.execBindConf frame s
  | .unbind frame => Sys2Proof.Machine.execUnbind frame s
  | .controlFrameRepeat => Sys2Proof.Machine.execControlFrameRepeat s
  | .bindAsSource src => Sys2Proof.Machine.execBindAsSource src s
  | .bindAsJoiner src => Sys2Proof.Machine.execBindAsJoiner src s
  | .bindTimeout => Sys2Proof.Machine.execBindTimeout s
  | .pairUnbind src => Sys2Proof.Machine.execPairUnbind src s
  | .plannedRelease src => Sys2Proof.Machine.execPlannedRelease src s
  | .releaseDrainEnd => Sys2Proof.Machine.execReleaseDrainEnd s
  | .renewTimer => Sys2Proof.Machine.execRenewTimer s
  | .leaseEnd => Sys2Proof.Machine.execLeaseEnd s
  | .takeoverByExpiry => Sys2Proof.Machine.execTakeoverByExpiry s
  | .eligible => Sys2Proof.Machine.execEligible s
  | .domainFound src => Sys2Proof.Machine.execDomainFound src s
  | .domainSponsor src => Sys2Proof.Machine.execDomainSponsor src s
  | .domainJoin src => Sys2Proof.Machine.execDomainJoin src s
  | .domainLeave src => Sys2Proof.Machine.execDomainLeave src s
  | .warmReset pulse taken => Sys2Proof.Machine.execWarmReset pulse taken s
  | .coldReset torn => Sys2Proof.Machine.execColdReset torn s
  | .batteryReset cells seed => Sys2Proof.Machine.execBatteryReset cells seed s
  | .powerSwitchover toMain => Sys2Proof.Machine.execPowerSwitchover toMain s
  | .computeWatchdog => Sys2Proof.Machine.execComputeWatchdog s
  | .resetRelease straps misread => Sys2Proof.Machine.execResetRelease straps misread s
  | .pllLock report => Sys2Proof.Machine.execPllLock report s
  | .drbgInstantiated => Sys2Proof.Machine.execDrbgInstantiated s
  | .imageVerificationEnd => Sys2Proof.Machine.execImageVerificationEnd s
  | .startUpComplete => Sys2Proof.Machine.execStartUpComplete s
  | .telemetryUpdate power => Sys2Proof.Machine.execTelemetryUpdate power s
  | .smbusTemperature => Sys2Proof.Machine.execSmbusTemperature s
  | .smbusPower => Sys2Proof.Machine.execSmbusPower s
  | .smbusStatus => Sys2Proof.Machine.execSmbusStatus s
  | .smbusAlertResponse => Sys2Proof.Machine.execSmbusAlertResponse s
  | .bypass tdi => Sys2Proof.Machine.execBypass tdi s
  | .idcode => Sys2Proof.Machine.execIdcode s
  | .samplePreload levels preload => Sys2Proof.Machine.execSamplePreload levels preload s
  | .extest => Sys2Proof.Machine.execExtest s
  | .clamp => Sys2Proof.Machine.execClamp s
  | .deviceTimeAdvance => Sys2Proof.Machine.execDeviceTimeAdvance s
  | .rawBitStrobe levels freqs => Sys2Proof.Machine.execRawBitStrobe levels freqs s
  | .singleBitError unit cause index => Sys2Proof.Machine.execSingleBitError unit cause index s
  | .parityError unit cause index => Sys2Proof.Machine.execParityError unit cause index s
  | .securityDieHeartbeatLoss => Sys2Proof.Machine.execSecurityDieHeartbeatLoss s
  | .instructionFetch core wrongPath fills missed fetched => Sys2Proof.Machine.execInstructionFetch core wrongPath fills missed fetched s
  | .brk core => Sys2Proof.Machine.execBrk core s
  | .deviceSpecificInstruction op => Sys2Proof.Machine.execDeviceSpecificInstruction op s
  | .spdmRequest stream first last keyed answer => Sys2Proof.Machine.execSpdmRequest stream first last keyed answer s
  | .pcieLinkUp rate width => Sys2Proof.Machine.execPcieLinkUp rate width s
  | .mailboxBodyWrite w => Sys2Proof.Machine.execMailboxBodyWrite w s
  | .custodyLinkUp => Sys2Proof.Machine.execCustodyLinkUp s
  | .jabber => Sys2Proof.Machine.execJabber s
  | .helloRetry => Sys2Proof.Machine.execHelloRetry s
  | .enrolConfTimeout => Sys2Proof.Machine.execEnrolConfTimeout s
  | .regionEraseEnd => Sys2Proof.Machine.execRegionEraseEnd s
  | .unlockReloadEnd => Sys2Proof.Machine.execUnlockReloadEnd s
  | .locketTailFound => Sys2Proof.Machine.execLocketTailFound s
  | .eventLogTailFound => Sys2Proof.Machine.execEventLogTailFound s
  | .settlingComplete => Sys2Proof.Machine.execSettlingComplete s

end Sys2Proof.Machine
end

