-- ==== Sys2Proof/Safety.lean ====
section
/-!
DEFINITION. The terms of the claims: what stays whatever follows a command of itself, the invariant of every run, and the mode
pairs that never stand together (R35, R42, R43, R338, R444, R471, R472, R605).
-/
namespace Sys2Proof.Machine

/-- The parts of the state that the end of a command leaves alone. The end of a command (`settle`) may answer held requests,
acknowledge records to the peer, report function resets that are complete, start a page write, end the counts that activity
breaks, close the debug port, update the Mode Word with its event and notifications, and drive the pins: what these write is
blanked here, so that two states with one `quiet` differ in nothing else. -/
def quiet (s : State) : State :=
  { s with
    modes := { s.modes with word := Modes.reset.word, updates := 0, updateTime := 0, idleFor := 0 }
    disp := { s.disp with allWaitingFor := 0 }
    host := { s.host with causes := 0, msix := [], posted := [], resetReports := [] }
    flow := { s.flow with postedHdr := 0, postedData := 0 }
    tenants := { s.tenants with mailboxes := [] }
    cores := { s.cores with deviceEvents := [] }
    rng := { s.rng with capture := 0 }
    mram := { s.mram with queue := [], current := none }
    log := { s.log with staged := [], total := 0, notRecorded := 0, sinceClear := 0, missed := 0, hold := none }
    custody := { s.custody with cached := [] }
    dict := { s.dict with held := [] }
    clasp := { s.clasp with txSeq := 0 }
    twin := { s.twin with applied := 0, sync := 0, inSyncAt := 0, renewSeen := false, holdStopped := false }
    pins := Pins.reset
    tap := { s.tap with instruction := 0, shift := [] }
    sent := []
    reply := (0, []) }

/-- The Mode Word is the one that the part's condition gives. -/
def modesTrue (s : State) : Bool := decide (s.modes.word = modeWordNow s)

/-- The pins are at the levels that modes, records, flags and boundary scan give. -/
def pinsTrue (s : State) : Bool := decide (s.pins = pinsNow s)

/-- While the debug port is closed, the test access port is in Test-Logic-Reset and no raw bits are captured. -/
def portTrue (s : State) : Bool :=
  portOpen s || (decide (s.tap.instruction = tapIdcode) && decide (s.tap.shift = []) && decide (s.rng.capture = 0xFF))

/-- The invariant of every run. -/
def Inv (s : State) : Prop := modesTrue s = true ∧ pinsTrue s = true ∧ portTrue s = true

/-- The command answers a next state, and `P` holds of it. -/
def Ends (c : Instr) (s : State) (P : State → Prop) : Prop := ∃ t, exec c s = .next t ∧ P t

/-- The write of an entry comes by a path, with its value, and passes every check that a write passes before its entry's own
rules (R277, R496, R512 to R515): brought to the dictionary with the value given, or as the message its mailbox executes next. -/
def reaches (src : Src) (given : Bytes) (s : State) (path : Path) (index sub : Nat) (value : Bytes) : Bool :=
  decide (writeRefused s path index sub value = none) &&
    match src with
    | .message fn slot =>
      let v := mailSlot s fn slot
      decide (path = .mailbox fn) && mailNext s fn slot && decide (v.command = 2) && decide (v.length ≥ 4) &&
        decide (bodyIndex v = index) && decide (bodySub v = sub) && bodyZero v && decide (bodyValue v = value)
    | .write p => decide (path = p) && decide (value = given)
    | .debugPort => false

/-- An event of a code is staged for the Event Log, with arguments that begin with the bytes given. -/
def Logged (t : State) (code : Nat) (args : Bytes) : Prop := ∃ e ∈ t.log.staged, e.code = code ∧ e.args = padTo 32 args

/-- The Event Log and its staging queue have room for the next event (R475, R479). -/
def logRoom (s : State) : Bool := !evlogFull s && decide (s.log.staged.length < 256)

/-- The record that a Chain keeps of a key output: where it starts, its length and its attribute word (R81). -/
def keyRecord (l : LinkWords) : Option (Nat × Nat) → List KeyRange
  | none => []
  | some (attr, len) => [{ start := refStart l.out + (keyFrom l.opcode l.param).getD 0, len := len, attr := attr }]

/-- Link `n` of Chain context `c`, which `x` shows as its engine sees it, is DONE: with its verify result, its output in OUT unless
its Chain has closed (R53, R61), the record of a key output (R81), and nothing changed beside its Chain, its engine and, for a
Link that firmware requested, the core that asked. -/
def LinkDone (s : State) (c n : Nat) (x : LinkCtx) (verify : Option Bool) (out : Bytes) (key : Option (Nat × Nat)) (t : State) :
    Prop :=
  (getChain t c).map (fun ch => (ch.stateOf n, (ch.link n).map (fun y => y.2.verify), ch.keys)) =
    some (.done, some verify, x.ch.keys ++ keyRecord x.l key) ∧
  t.chainMem = (if x.ch.closed then s else writeOut x.ch x.l out s).chainMem ∧
  quiet t = quiet { s with disp := t.disp, chainMem := t.chainMem, engines := t.engines, cores := t.cores }

/-- Link `n` of Chain context `c` is FAILED: it writes nothing, and its Chain, unless it has closed or the Link is a request's,
closes with the status and the Link's number, or with 0x0601 where its expiry has taken effect, its Links not yet issued SKIPPED
(R61, R200, R359). -/
def LinkFailed (s : State) (c n : Nat) (x : LinkCtx) (status : Nat) (t : State) : Prop :=
  (getChain t c).map (fun ch => ch.stateOf n) = some .failed ∧
  (n < 32 → x.ch.closed = false →
    (getChain t c).map (fun ch => (ch.closed, ch.status, ch.firstFail)) =
      some (if x.ch.expired then (true, 0x0601, 0xFF) else (true, status, n)) ∧
    ∀ ch, getChain t c = some ch → ∀ r ∈ ch.links, r.st ≠ .pending ∧ r.st ≠ .ready) ∧
  quiet t = quiet { s with disp := t.disp, engines := t.engines, cores := t.cores, energy := t.energy }

/-- A Link ends as its operation's result gives (R60, R61): a verify mismatch fails a Link that is not soft. -/
def LinkEnds (s : State) (c n : Nat) (x : LinkCtx) (res : OpResult) (key : Bytes → Option (Nat × Nat)) (t : State) : Prop :=
  match res with
  | .done out => LinkDone s c n x none out (key out) t
  | .verified true _ out => LinkDone s c n x (some true) out none t
  | .verified false mismatch _ => if x.l.soft then LinkDone s c n x (some false) [] none t else LinkFailed s c n x mismatch t
  | .failed status => LinkFailed s c n x status t

/-- The result of an operation that uses a private key: what it gives under the key that its pair holds from its issue, or the status
that refuses the key (R139, R145). -/
def withKey (x : LinkCtx) (f : Bytes → OpResult) : OpResult :=
  match x.priv with
  | .ok k => f k
  | .error status => .failed status

/-- The status with which an operation refuses. -/
def statusOf {α : Type} (r : Except Nat α) : Option Nat :=
  match r with
  | .error status => some status
  | .ok _ => none

/-- The attribute word and the key that a key-installing Link writes to its destination slot, or the status that refuses it: of its block
or of the fields of its request, of its destination, or of a key whose length is not its ALG's (R286, R290, R313 to R315). -/
def installs (s : State) (c op : Nat) (x : LinkCtx) : Except Nat (Nat × Bytes) :=
  let give := fun (a : Attr) (key : Bytes) =>
    let attr := destinationAttr s x.ch.fn x.p a
    match destinationRefused s c x.ch.fn (bits x.l.key1Ref 0 18) attr x.r with
    | some st => .error st
    | none => if key.length = algKeyLen (bits attr 0 5) then .ok (attr, key) else .error 0x020E
  if op = 0x101 then
    match x9Open x.key0 x.in0 with
    | .error st => .error st
    | .ok k =>
      match requestFields false (leNat x.in1) with
      | none => .error 0x020E
      | some q => give { q with alg := k.alg, usage := k.usage, mode := k.mode, exp := k.exp } k.key
  else if op = 0x103 then
    match domainOpen x.key0 (ownDomain s) x.ch.fn x.in0 with
    | .error st => .error st
    | .ok k => give (attrOfWord k.attr) k.key
  else
    match requestFields true (leNat x.in0) with
    | none => .error 0x020E
    | some a => give a (generatedKey a.alg x.r.draw)

/-- An operation whose output is no key. -/
def plainOut (_ : Bytes) : Option (Nat × Nat) := none

/-- An operation whose whole output is a key of the attribute word given (R81). -/
def keyOut (attr : Nat) (out : Bytes) : Option (Nat × Nat) := some (attr, out.length)

/-- `s` with what the settings and records that plain writes reach hold in `u` (R510, R511). -/
def takeSettings (u s : State) : State :=
  { s with
    modes := { s.modes with
      notifyMask := u.modes.notifyMask, dozeIdle1 := u.modes.dozeIdle1, dozeIdle2 := u.modes.dozeIdle2
      dozePermission := u.modes.dozePermission }
    disp := { s.disp with newAgeLimits := u.disp.newAgeLimits }
    epochs := { s.epochs with record := u.epochs.record }
    cores := { s.cores with watchdog := u.cores.watchdog }
    flow := { s.flow with
      ranks := u.flow.ranks, weights := u.flow.weights, keyWeights := u.flow.keyWeights, pcieWeights := u.flow.pcieWeights
      thresholds := u.flow.thresholds, hdrReserve := u.flow.hdrReserve, dataReserve := u.flow.dataReserve
      lockLease := u.flow.lockLease }
    keys := { s.keys with selects := u.keys.selects, granule := u.keys.granule }
    host := { s.host with record := u.host.record }
    tenants := { s.tenants with record := u.tenants.record, insts := u.tenants.insts }
    faults := { s.faults with threshold := u.faults.threshold, delay := u.faults.delay }
    custody := { s.custody with
      loadTarget := u.custody.loadTarget, loadAttr := u.custody.loadAttr, loadCount := u.custody.loadCount }
    twin := { s.twin with drain := u.twin.drain }
    domain := { s.domain with
      candKey := u.domain.candKey, candSerial := u.domain.candSerial, memberReq := u.domain.memberReq
      packageIn := u.domain.packageIn }
    memTest := { s.memTest with pace := u.memTest.pace, overdueTime := u.memTest.overdueTime }
    images := { s.images with stageAddr := u.images.stageAddr, stageLen := u.images.stageLen, timeout := u.images.timeout } }

/-- Core `k` executes an instruction: it runs, and its fetch passes (R349, R365, R392). -/
def executes (s : State) (k : Nat) : Bool := coreRuns s k && fetchOk s k

/-- Core `k` holds `c` and nothing else of the machine differs from `s`. -/
def CoreBecomes (s : State) (k : Nat) (c : Core) (t : State) : Prop :=
  getCore t k = c ∧ (∀ j, j ≠ k → getCore t j = getCore s j) ∧
    quiet t = quiet { s with cores := { s.cores with cores := t.cores.cores } }

/-- A core after a trap taken outside window 11 (R345). -/
def trapOf (c : Core) (cause tval : Nat) : Core :=
  { (c.count 6 1).count 2 1 with
    epc := c.pc, tcause := BitVec.ofNat 64 cause, tval := BitVec.ofNat 64 tval, pwp := c.cwp, cwp := 11, pc := 0x40 }

/-- A core whose wait has ended with a result code at a tick (R202, R204). -/
def waitEnded (c : Core) (code tick : Nat) : Core :=
  { c.setReg c.waitRd (BitVec.ofNat 64 code) with wait := .running, waitedAt := tick }.advance

/-- A core that has taken the events of a word, which WAITE returns in g8 (R204, R354). -/
def eventsTaken (c : Core) (word : Nat) : Core :=
  { c with events := c.events &&& ~~~(BitVec.ofNat 16 word) }.setReg 8 (BitVec.ofNat 64 word)

/-- `s` with the detector able to fire again, as the end of any wait leaves it (R208). -/
def armed (s : State) : State := { s with disp := { s.disp with detectorArmed := true } }

/-- A Fatal fault can open a record of its own: none is open to take it, and an entry for one is free (R462, R464). -/
def freshFatal (s : State) (code : Nat) : Bool :=
  !fatalOpen s && decide (mergeTarget s code = none) && (freeEntry s 56 64).isSome

/-- A Fatal fault of a code has opened its record with the arguments given, and the part is in the safe state: no SERVICE, no
Signet, no key in an engine or a session (R463, R468, R469). -/
def FatalTaken (code : Nat) (args : Bytes) (t : State) : Prop :=
  (∃ x ∈ t.faults.records, x.2.code = code ∧ x.2.args = padTo 32 args) ∧
    t.modes.word.service = false ∧ t.modes.word.active = false ∧ t.engines.lanes = [] ∧ t.engines.hashes = [] ∧
    t.engines.pke = [] ∧ t.engines.lattice = [] ∧ t.custody.kmac = [] ∧ t.custody.kwrap = []

/-- The Fatal faults of an uncorrectable error, by the memory in which it is found, with the record's arguments (R374). -/
def siteFatal : FaultSite → Option (Nat × Nat × Bytes)
  | .chainMemory a => some (0x02, 0x01, natLE 8 a)
  | .ringContext a => some (0x0A, 0x10, natLE 8 a)
  | .delayList => some (0x01, 0x02, [])
  | .keySlot _ | .pke _ | .lattice _ | .scratchData _ | .scratchFirmware _ | .lane _ => none

/-- The unit that an uncorrectable error withdraws, where it withdraws one that the part has (R374). -/
def siteUnit (s : State) : FaultSite → Option (Nat × Nat)
  | .pke p => if p < pkeCount s then some (6, p) else none
  | .lattice p => if p < latticeCount s then some (7, p) else none
  | .scratchData k | .scratchFirmware k => if k < coreCount s then some (9, k) else none
  | .lane i => if i < laneCount s then some (4, i) else none
  | .chainMemory _ | .ringContext _ | .keySlot _ | .delayList => none

/-- A tagged frame of a type is the next of the session in force (R487, R495). -/
def inTurn (s : State) (type lo hi : Nat) (f : Frame) : Bool :=
  frameFor s type lo hi false f && ofSession s f && tagGood s.custody.kmac f && decide (frameOrder s f = .next)

/-- `s` with the next frame of its session accepted (R495, R497). -/
def heard (s : State) (f : Frame) : State :=
  { s with custody := { s.custody with
      due := s.disp.tick + s.custody.idle * second, tagFails := 0, seq := frameSeq f, cached := [] } }

/-- No session is in force, and no session key, component or ceremony is held (R497, R498, R503). -/
def SessionClosed (t : State) : Prop :=
  t.custody.session = .none ∧ t.custody.kmac = [] ∧ t.custody.kwrap = [] ∧ t.custody.components = [] ∧
    t.custody.console = 0xFF ∧ t.custody.sessionId = 0

/-- A Clasp frame of a type is the next of a session, and its body opens (R535, R536). -/
def claspNext (s : State) (type : Nat) (frame body : Bytes) : Bool :=
  decide (3 ≤ s.clasp.link) && claspForm type frame && decide (claspOpen s s.clasp.link frame = some body) &&
    decide (claspFseq frame = s.clasp.rxSeq + 1)

/-- The part is in a bound session with its peer and the clocks run. -/
def inBound (s : State) : Bool := decide (s.clasp.link = 4) && bound s && !s.modes.word.doze

/-- The pairs of modes that R42 forbids, of those the model can tell from the Mode Word alone. -/
def modesLegal (w : ModeWord) : Bool :=
  !(w.service && w.locked) && !(w.doze && w.throttled) && !(w.doze && w.epochSwitch) && !(w.debugOpen && w.paired) &&
    (!w.active || w.paired) && (w.doze || decide (w.dozeDepth = 0)) && (w.locked || decide (w.lockCause = 0)) &&
    (w.auditHold || !(w.evlogFull || w.locketFull)) && !(w.locketFull && w.service)

end Sys2Proof.Machine
end

