-- ==== Sys2Proof/Certificates/Slice0/Obligations.lean ====
section
/-!
DEFINITION. The statements about the block, from the numbered rules of the spec: for each family of commands what a command
answers, what it changes and that it changes nothing else, and after them the rules of the whole machine.
-/
open Sys2Proof Sys2Proof.Machine

/-- From R234, R239 to R242, R252: a doorbell whose fields are in range is taken, a malformed one, and one that names no queue pair
of its function, is discarded and counted; so is a write to an unimplemented offset, and a read of one returns zeros and is
counted; a poisoned write is reported and does nothing more. Derived: where those rules leave an order, an encoding or a value
open, the clauses take the model's own choice, said in assumption 91. The clauses conclude that exec answers a next state of the
commands doorbell, barUnimplementedAccess, poisonedWrite. -/
def Obligations.BarAccessesTakenOrCounted : Prop :=
  (∀ (w : HostWrite) (s : State) (q : Nat) (x : QueuePair),
    requestAccepted s w = true → w.offset < doorbellEnd w.fn → w.data.length = 8 → w.offset % 8 = 0 →
    bits (leNat w.data) 34 30 = 0 → localQp (wake s) w.fn (w.offset / 8) = some (q, x) → getQp s q = x → x.state = .active →
    bitOf (leNat w.data) 32 = true → bitOf (leNat w.data) 33 = true →
    bits (leNat w.data) 0 16 < ringSize x.sqSize → bits (leNat w.data) 16 16 < ringSize x.cqSize →
    ringSteps (ringSize x.cqSize) x.cqHead (bits (leNat w.data) 16 16) ≤ ringSteps (ringSize x.cqSize) x.cqHead x.cqTail →
    ∃ t, exec (.doorbell w) s = .next t ∧
      (getQp t q).sqTail = bits (leNat w.data) 0 16 ∧ (getQp t q).cqHead = bits (leNat w.data) 16 16 ∧
      (∀ p, p ≠ q → getQp t p = getQp s p) ∧ quiet t = quiet { wake s with host := t.host }) ∧
  (∀ (w : HostWrite) (s : State),
    requestAccepted s w = true → w.offset < doorbellEnd w.fn →
    (w.data.length ≠ 8 ∨ w.offset % 8 ≠ 0 ∨ bits (leNat w.data) 34 30 ≠ 0 ∨ localQp (wake s) w.fn (w.offset / 8) = none) →
    ∃ t, exec (.doorbell w) s = .next t ∧
      quiet t = quiet { wake s with host := { (wake s).host with discarded := (wake s).host.discarded + 1 } }) ∧
  (∀ (len : Nat) (w : HostWrite) (s : State), requestAccepted s w = true → barImplemented s w.fn w.offset = false →
    ∃ t, exec (.barUnimplementedAccess false len w) s = .next t ∧
      quiet t = quiet { s with host := { s.host with discarded := s.host.discarded + 1 } }) ∧
  (∀ (len : Nat) (w : HostWrite) (s : State), requestAccepted s w = true →
    (w.offset < doorbellEnd w.fn ∨ barImplemented s w.fn w.offset = false) →
    ∃ t, exec (.barUnimplementedAccess true len w) s = .next t ∧
      Sent.barRead w.fn w.offset (zeros len) ∈ t.sent ∧
      quiet t = quiet { s with host := { s.host with discarded := s.host.discarded + 1 } }) ∧
  (∀ (w : HostWrite) (s : State), functionExists s w.fn = true → s.host.linkUp = true →
    ∃ t, exec (.poisonedWrite w) s = .next t ∧ Sent.aer w.fn aerPoisoned ∈ t.sent ∧ quiet t = quiet s)

/-- From R231, R250, R272, R274, R275: unmasking a pending vector lists it as unmasked and no longer pending, and sends its message
with the address and data that its entry is given; a write to W1 of a header clears causes and sets the mask; a body write is
stored; a message of correct form waits with RESULT zero, and the core is told; one that fails a check is rejected with its
RESULT and counted; a slot is freed, and the fields written read back from it. Derived: where those rules leave an order, an
encoding or a value open, the clauses take the model's own choice, said in assumption 10. The clauses conclude that exec answers
a next state of the commands msixUnmask, notifyCauseClear, mailboxBodyWrite, mailboxSubmit, mailboxSlotFree. -/
def Obligations.MailboxWritesStoredOrRejected : Prop :=
  (∀ (fn vector : Nat) (address : BitVec 64) (data : BitVec 32) (s : State), functionExists s fn = true →
    vector < vectorCount fn → vector ∈ (SMap.get Msix.reset s.host.msix fn).pending → s.host.linkUp = true →
    creditsAboveReserve s = true →
    ∃ t, exec (.msixUnmask fn vector address data) s = .next t ∧
      Sent.msix fn vector address data ∈ t.sent ∧ vector ∈ (SMap.get Msix.reset t.host.msix fn).unmasked ∧
      vector ∉ (SMap.get Msix.reset t.host.msix fn).pending ∧ quiet t = quiet s) ∧
  (∀ (w : HostWrite) (s : State), requestAccepted s w = true → hasMailbox s w.fn = true → w.fn ≠ 0 →
    w.offset = mailHeader w.fn + 8 → w.data.length = 8 →
    ∃ t, exec (.notifyCauseClear w) s = .next t ∧
      (mailbox t w.fn).mask = BitVec.ofNat 32 (leNat w.data / 2 ^ 32 % 64) ∧ quiet t = quiet (wake s)) ∧
  (∀ (w : HostWrite) (s : State) (slot off : Nat), slotTarget s w = some (slot, off) → 16 ≤ off →
    off + w.data.length ≤ 256 → (mailSlot s w.fn slot).busy = false → (∀ h ∈ s.dict.held, h.path ≠ .mailbox w.fn) →
    ∃ t, exec (.mailboxBodyWrite w) s = .next t ∧
      slice (off - 16) w.data.length (mailSlot t w.fn slot).body = w.data ∧
      (mailSlot t w.fn slot).w0 = (mailSlot s w.fn slot).w0 ∧ quiet t = quiet (wake s)) ∧
  (∀ (w : HostWrite) (s : State) (slot : Nat), slotTarget s w = some (slot, 0) → w.data.length = 8 →
    leNat w.data % 8 = 1 → (mailSlot s w.fn slot).busy = false → mailServed s = true →
    (∀ h ∈ s.dict.held, h.path ≠ .mailbox w.fn) → plainCommand (bits (leNat w.data) 16 8) = false →
    messageRejected (setMailSlot w.fn slot { mailSlot s w.fn slot with
      w0 := BitVec.ofNat 64 (leNat w.data - bits (leNat w.data) 24 8 * 2 ^ 24) } (wake s)) w.fn slot = none →
    ∃ t, exec (.mailboxSubmit w) s = .next t ∧
      (mailSlot t w.fn slot).state = 1 ∧ (mailSlot t w.fn slot).result = 0 ∧
      (mailSlot t w.fn slot).seq = bits (leNat w.data) 32 32 ∧ 4 ∈ t.cores.deviceEvents ∧ quiet t = quiet (wake s)) ∧
  (∀ (w : HostWrite) (s : State) (slot r : Nat), slotTarget s w = some (slot, 0) → w.data.length = 8 →
    leNat w.data % 8 = 1 → (mailSlot s w.fn slot).busy = false → mailServed s = true →
    (∀ h ∈ s.dict.held, h.path ≠ .mailbox w.fn) →
    messageRejected (setMailSlot w.fn slot { mailSlot s w.fn slot with
      w0 := BitVec.ofNat 64 (leNat w.data - bits (leNat w.data) 24 8 * 2 ^ 24) } (wake s)) w.fn slot = some r →
    ∃ t, exec (.mailboxSubmit w) s = .next t ∧
      (mailSlot t w.fn slot).state = 4 ∧ (mailSlot t w.fn slot).result = r % 256 ∧
      (mailbox t w.fn).rejected = (mailbox s w.fn).rejected + 1 ∧ quiet t = quiet (wake s)) ∧
  (∀ (w : HostWrite) (s : State) (slot : Nat), slotTarget s w = some (slot, 0) → w.data.length = 8 →
    leNat w.data % 8 = 0 → (mailSlot s w.fn slot).busy = false → (∀ h ∈ s.dict.held, h.path ≠ .mailbox w.fn) →
    ∃ t, exec (.mailboxSlotFree w) s = .next t ∧
      (mailSlot t w.fn slot).state = 0 ∧ (mailSlot t w.fn slot).result = 0 ∧
      (mailSlot t w.fn slot).length = bits (leNat w.data) 8 8 ∧ (mailSlot t w.fn slot).command = bits (leNat w.data) 16 8 ∧
      (mailSlot t w.fn slot).seq = bits (leNat w.data) 32 32 ∧ quiet t = quiet (wake s))

/-- From R46, R52, R242, R252: entries that land next in ring order join the entries held; a descriptor lands for its entry, or its
error does; an input block lands in the Chain's input region; a read that times out is reported and is a failed fetch, and puts
its queue pair into ERROR with ERR_CAUSE 3. Derived: where those rules leave an order, an encoding or a value open, the clauses
take the model's own choice, said in assumptions 38 and 90. The clauses conclude that exec answers a next state of the commands
submissionFetchCompletion, descriptorFetchCompletion, inputFetchCompletion, fetchTimeout. -/
def Obligations.FetchesLandOrFail : Prop :=
  (∀ (ident q first count fn addr len : Nat) (sent : Bool) (bytes : Bytes) (s : State),
    findRead s ident = some ⟨ident, .entries q first count, fn, addr, len, sent⟩ → (getQp s q).state = .active →
    (getQp s q).early = [] → first = ((getQp s q).sqHead + (getQp s q).fetched.length) % ringSize (getQp s q).sqSize →
    ∃ t, exec (.submissionFetchCompletion ident (.data bytes)) s = .next t ∧
      (getQp t q).fetched = (getQp s q).fetched ++ (List.range count).map (fun i => padTo 64 (slice (64 * i) 64 bytes)) ∧
      (∀ p, p ≠ q → (getQp t p).fetched = (getQp s p).fetched) ∧ quiet t = quiet { s with host := t.host }) ∧
  (∀ (ident q fn addr len : Nat) (sent : Bool) (bytes : Bytes) (s : State),
    findRead s ident = some ⟨ident, .descriptor q, fn, addr, len, sent⟩ → (getQp s q).state = .active →
    ∃ t, exec (.descriptorFetchCompletion ident (.data bytes)) s = .next t ∧
      (getQp t q).descriptor = some (some (padTo len bytes)) ∧ quiet t = quiet { s with host := t.host }) ∧
  (∀ (ident q fn addr len : Nat) (sent : Bool) (answer : ReadAnswer) (s : State),
    findRead s ident = some ⟨ident, .descriptor q, fn, addr, len, sent⟩ → (getQp s q).state = .active →
    (answer = .unsupported ∨ answer = .completerAbort ∨ answer = .poison) →
    ∃ t, exec (.descriptorFetchCompletion ident answer) s = .next t ∧
      (getQp t q).descriptor = some none ∧ Sent.aer fn aerUnexpected ∈ t.sent ∧ quiet t = quiet { s with host := t.host }) ∧
  (∀ (ident c fn addr len : Nat) (sent : Bool) (bytes : Bytes) (s : State) (ch : Chain),
    findRead s ident = some ⟨ident, .input c, fn, addr, len, sent⟩ → getChain s c = some ch → ch.inputLanded = false →
    (∀ r ∈ ch.links, r.st ≠ .pending) → refusedAt s hostMaster 1 (chainAddrs ch 0 (padTo ch.inputLen bytes).length) = [] →
    ∃ t, exec (.inputFetchCompletion ident (.data bytes)) s = .next t ∧
      (getChain t c).map (·.inputLanded) = some true ∧ t.chainMem = (writeChain ch 0 (padTo ch.inputLen bytes) s).chainMem ∧
      t.keys = s.keys) ∧
  (∀ (ident q fn addr len : Nat) (sent : Bool) (s : State),
    findRead s ident = some ⟨ident, .descriptor q, fn, addr, len, sent⟩ → (getQp s q).state = .active →
    ∃ t, exec (.fetchTimeout ident) s = .next t ∧
      (getQp t q).descriptor = some none ∧ Sent.aer fn aerTimeout ∈ t.sent ∧ quiet t = quiet { s with host := t.host }) ∧
  (∀ (ident q first count fn addr len : Nat) (sent : Bool) (s : State),
    findRead s ident = some ⟨ident, .entries q first count, fn, addr, len, sent⟩ → (getQp s q).state = .active →
    (∀ ch ∈ s.disp.chains, ch.2.qp ≠ q) →
    ∃ t, exec (.fetchTimeout ident) s = .next t ∧
      (getQp t q).state = .error ∧ (getQp t q).errCause = 3 ∧ Sent.aer (getQp s q).fn aerTimeout ∈ t.sent ∧
      quiet t = quiet { s with host := t.host })

/-- From R235, R238, R260: set-up writes a DISABLED context with the record's fields and every other field zero; an action that a
condition refuses shows its result and changes no context; release of a DISABLED context leaves its reset value. From R237,
R238, R253: the enable of a DISABLED context that is set up, and that IDE policy allows, makes it ACTIVE with its running fields
zero and PHASE 1; the disable drains an ACTIVE one whose reserved completions are still to be written, and makes a FROZEN or
ERROR one DISABLED. The manager's actions and the tenant's commands do the same. Derived: where those rules leave an order, an
encoding or a value open, the clauses take the model's own choice, said in assumptions 44 and 91. The clauses conclude that exec
answers a next state of the commands qpSetUp, qpRelease, qpEnable, qpDisable, queuePairEnable, queuePairDisable,
queuePairStatus. -/
def Obligations.QueuePairsSetUpEnabledDisabledReleased : Prop :=
  (∀ (src : Src) (path : Path) (s : State), reaches src [1] s path 0x4020 0x0B [1] = true → setUpResult s = 0 →
    ∃ t, exec (.qpSetUp src) s = .next t ∧
      getQp t s.host.record.qp = { QueuePair.reset with
        sqSize := bits s.host.record.sizes 0 4, cqSize := bits s.host.record.sizes 4 4, sqBase := s.host.record.sqBase / 4096,
        fn := s.host.record.fn, cqBase := s.host.record.cqBase / 4096, winSize := bits s.host.record.sizes 8 5,
        winBase := s.host.record.winBase / 4096, vector := s.host.record.vector, modCount := s.host.record.modCount,
        modTime := s.host.record.modTime, localNo := s.host.record.localNo, isSet := true } ∧
      t.host.record.result = 0 ∧ (∀ p, p ≠ s.host.record.qp → getQp t p = getQp s p) ∧
      quiet t = quiet { s with host := t.host, twin := t.twin }) ∧
  (∀ (src : Src) (path : Path) (s : State), reaches src [1] s path 0x4020 0x0B [1] = true → setUpResult s ≠ 0 →
    ∃ t, exec (.qpSetUp src) s = .next t ∧
      quiet t = quiet { s with host := { s.host with record := { s.host.record with
        result := setUpResult s, before := t.host.record.before, await := [] } } }) ∧
  (∀ (src : Src) (path : Path) (s : State), reaches src [4] s path 0x4020 0x0B [4] = true →
    (getQp s s.host.record.qp).state = .disabled → SMap.wf QueuePair.reset s.host.qps = true →
    ∃ t, exec (.qpRelease src) s = .next t ∧
      getQp t s.host.record.qp = QueuePair.reset ∧ t.host.record.result = 0 ∧
      (∀ p, p ≠ s.host.record.qp → getQp t p = getQp s p) ∧ quiet t = quiet { s with host := t.host, twin := t.twin }) ∧
  (∀ (src : Src) (path : Path) (s : State), reaches src [4] s path 0x4020 0x0B [4] = true →
    (getQp s s.host.record.qp).state ≠ .disabled →
    ∃ t, exec (.qpRelease src) s = .next t ∧
      quiet t = quiet { s with host := { s.host with record := { s.host.record with
        result := 3, before := t.host.record.before, await := [] } } }) ∧
  (∀ (src : Src) (path : Path) (s : State) (n : Nat), n = s.host.record.qp → reaches src [2] s path 0x4020 0x0B [2] = true →
    (getQp s n).isSet = true → (getQp s n).state = .disabled →
      (s.host.ideRequired = false ∨ ideCovered s (getQp s n).fn = true) →
    ∃ t, exec (.qpEnable src) s = .next t ∧
      (getQp t n).state = .active ∧ (getQp t n).sqHead = 0 ∧ (getQp t n).sqTail = 0 ∧ (getQp t n).cqHead = 0 ∧
      (getQp t n).cqTail = 0 ∧ (getQp t n).cqReserved = 0 ∧ (getQp t n).phase = true ∧ (getQp t n).irqPending = 0 ∧
      (∀ p, p ≠ n → getQp t p = getQp s p) ∧ quiet t = quiet { s with host := t.host, twin := t.twin }) ∧
  (∀ (src : Src) (path : Path) (s : State) (n : Nat), n = s.host.record.qp → reaches src [3] s path 0x4020 0x0B [3] = true →
    (getQp s n).state = .active → (getQp s n).cqReserved ≠ 0 →
    ∃ t, exec (.qpDisable src) s = .next t ∧
      (getQp t n).state = .draining ∧ (getQp t n).fetched = [] ∧ (∀ p, p ≠ n → getQp t p = getQp s p) ∧
      quiet t = quiet { s with host := t.host, twin := t.twin }) ∧
  (∀ (src : Src) (path : Path) (s : State) (n : Nat), n = s.host.record.qp → reaches src [3] s path 0x4020 0x0B [3] = true →
    ((getQp s n).state = .frozen ∨ (getQp s n).state = .error) → (getQp s n).isSet = true →
    ∃ t, exec (.qpDisable src) s = .next t ∧
      (getQp t n).state = .disabled ∧ (getQp t n).fetched = [] ∧ (∀ p, p ≠ n → getQp t p = getQp s p) ∧
      quiet t = quiet { s with host := t.host, twin := t.twin }) ∧
  (∀ (fn slot q : Nat) (x : QueuePair) (s : State), mailNext s fn slot = true → (mailSlot s fn slot).command = 3 →
    qpCommandRefused s fn true (mailSlot s fn slot) = none →
    localQp s fn (leNat ((mailSlot s fn slot).body.take 2)) = some (q, x) → (getQp s q).isSet = true →
    (getQp s q).state = .disabled → (s.host.ideRequired = false ∨ ideCovered s (getQp s q).fn = true) →
    ∃ t, exec (.queuePairEnable fn slot) s = .next t ∧
      (getQp t q).state = .active ∧ (getQp t q).sqTail = 0 ∧ (getQp t q).phase = true ∧
      (∀ p, p ≠ q → getQp t p = getQp s p) ∧ quiet t = quiet { s with host := t.host, twin := t.twin }) ∧
  (∀ (fn slot q : Nat) (x : QueuePair) (s : State), mailNext s fn slot = true → (mailSlot s fn slot).command = 4 →
    qpCommandRefused s fn true (mailSlot s fn slot) = none →
    localQp s fn (leNat ((mailSlot s fn slot).body.take 2)) = some (q, x) →
    (getQp s q).state = .active → (getQp s q).cqReserved ≠ 0 →
    ∃ t, exec (.queuePairDisable fn slot) s = .next t ∧
      (getQp t q).state = .draining ∧ (getQp t q).fetched = [] ∧ (∀ p, p ≠ q → getQp t p = getQp s p) ∧
      quiet t = quiet { s with host := t.host, twin := t.twin }) ∧
  (∀ (fn slot q : Nat) (x : QueuePair) (s : State), mailNext s fn slot = true → (mailSlot s fn slot).command = 5 →
    qpCommandRefused s fn false (mailSlot s fn slot) = none → s.dict.held = [] →
    localQp s fn (leNat ((mailSlot s fn slot).body.take 2)) = some (q, x) →
    ∃ t, exec (.queuePairStatus fn slot) s = .next t ∧
      (mailSlot t fn slot).state = 3 ∧ (mailSlot t fn slot).result = 0 ∧ (mailSlot t fn slot).body = qpContext (getQp s q) ∧
      quiet t = quiet s)

/-- From R252, R253: a write of OD 0x4030:02 waits for its configuration page and changes nothing before it is durable; an IDE check
failure is counted and reported, and takes its stream out of the Secure state; a stream that leaves Secure while IDE is required
puts an ACTIVE queue pair of the functions it covers into ERROR with ERR_CAUSE 4; keying makes a stream Secure. From R260: a
write of OD 0x4000:04 clears the notification causes it names (those that the command itself does not set anew). Derived: where
those rules leave an order, an encoding or a value open, the clauses take the model's own choice, said in assumptions 45, 54 and
56. The clauses conclude that exec answers a next state of the commands ideRequiredWrite, ideStreamNotSecure, ideCheckFailure,
spdmRequest, managerNotificationClear. -/
def Obligations.IdeStreamsPolicyAndNotifications : Prop :=
  (∀ (src : Src) (value : Bytes) (path : Path) (s : State), reaches src value s path 0x4030 0x02 value = true →
    ∃ t, exec (.ideRequiredWrite src value) s = .next t ∧ pageWaiting t .config configPage = true ∧ quiet t = quiet s) ∧
  (∀ (stream q : Nat) (i : IdeStream) (s : State), s.host.ide[stream]? = some i → i.secure = true → s.host.ideRequired = true →
    (getQp s q).state = .active → i.firstFn ≤ (getQp s q).fn → (getQp s q).fn ≤ i.lastFn →
    ∃ t, exec (.ideStreamNotSecure stream) s = .next t ∧
      (t.host.ide[stream]?).map (fun j => j.secure) = some false ∧ (getQp t q).state = .error ∧ (getQp t q).errCause = 4 ∧
      t.keys = s.keys) ∧
  (∀ (stream : Nat) (i : IdeStream) (s : State), s.host.ide[stream]? = some i → s.host.ideRequired = false →
    ∃ t, exec (.ideCheckFailure stream none) s = .next t ∧
      Sent.aer 0 aerIde ∈ t.sent ∧ (t.host.ide[stream]?).map (fun j => j.secure) = some false ∧
      t.host.ideFailures = s.host.ideFailures + 1 ∧ quiet t = quiet { s with host := t.host }) ∧
  (∀ (stream first last : Nat) (answer : Bytes) (s : State), s.host.linkUp = true → stream < 8 →
    ∃ t, exec (.spdmRequest stream first last true answer) s = .next t ∧
      Sent.doe answer ∈ t.sent ∧ t.host.ide[stream]? = some ⟨true, first, last⟩ ∧
      quiet t = quiet { s with host := { s.host with ide := t.host.ide } }) ∧
  (∀ (src : Src) (value : Bytes) (path : Path) (n : Nat) (s : State), reaches src value s path 0x4000 0x04 value = true →
    1 ≤ n → n ≤ 6 → (leNat value).testBit n = true →
    ∃ t, exec (.managerNotificationClear src value) s = .next t ∧ t.host.causes.getLsbD n = false ∧ quiet t = quiet s)

/-- From R254, R259: a host reset on a part that is no standby counts itself and the Chains it revokes, empties queue pairs and
reads, dissolves every instance that is not being destroyed, clears VF Enable, and takes the link down unless its cause keeps
it; deasserting PERST_N ends the reset as soon as no revoked Chain is left and the peer has acknowledged its record (R258);
training brings the link to its rate and width. From R38, R254, R256, R265, R269: a function reset counts itself, makes the
function's queue pairs DISABLED with running fields zero and leaves every other function's as they are; setting VF Enable gives
the number of VFs; clearing it dissolves every instance that is not being destroyed and removes the queue pairs of VFs. Derived:
where those rules leave an order, an encoding or a value open, the clauses take the model's own choice, said in assumptions 37
and 54. The clauses conclude that exec answers a next state of the commands hostReset, perstDeassert, pcieLinkUp, functionReset,
vfEnableSet, vfEnableClear. -/
def Obligations.HostAndFunctionResetsAndLink : Prop :=
  (∀ (cause : HostResetCause) (s : State), computeUp s = true → (s.host.linkUp = true ∨ cause = .perst) →
    standbyNow s = false → logRoom s = true →
    ∃ t, exec (.hostReset cause) s = .next t ∧
      t.host.hostResets = s.host.hostResets + 1 ∧
      t.host.chainsRevoked = s.host.chainsRevoked +
        BitVec.ofNat 64 (s.disp.chains.filter fun x => !x.2.revoked).length ∧
      t.host.qps = [] ∧ t.host.reads = [] ∧ t.host.ide = [] ∧ t.host.vfEnable = false ∧ t.host.numVfs = 0 ∧
      t.tenants.insts = s.tenants.insts.filter (fun x => x.2.state = .destroying) ∧
        t.host.linkUp = (s.host.linkUp && keepsLink cause) ∧
      (∃ args, Logged t 0x0106 args) ∧ t.sec = s.sec ∧ t.life = s.life ∧ t.fuses = s.fuses) ∧
  (∀ (s : State), ∃ t, exec .perstDeassert s = .next t ∧
    quiet t = quiet { s with host := { s.host with
      perst := false, resetBusy := decide (∃ x ∈ s.disp.chains, x.2.revoked = true) || !recordsDone s s.host.resetRecords } }) ∧
  (∀ (rate width : Nat) (s : State), decoded s = true → s.host.perst = false → s.host.linkUp = false →
    s.host.resetBusy = false →
    (rate = 16 ∨ rate = 32 ∨ rate = 64) → (width = 1 ∨ width = 2 ∨ width = 4 ∨ width = 8) →
    ∃ t, exec (.pcieLinkUp rate width) s = .next t ∧
      quiet t = quiet { s with host := { s.host with linkUp := true, resetBusy := false, rate := rate, width := width } }) ∧
  (∀ (vf n : Nat) (s : State), vf ≠ 0 → functionExists s vf = true → standbyNow s = false →
    (getQp s n).fn = vf → (getQp s n).isSet = true →
    ∃ t, exec (.functionReset vf) s = .next t ∧
      t.host.fnResets = s.host.fnResets + 1 ∧ (getQp t n).state = .disabled ∧ (getQp t n).sqHead = 0 ∧ (getQp t n).sqTail = 0 ∧
      (getQp t n).sqSize = (getQp s n).sqSize ∧ (getQp t n).localNo = (getQp s n).localNo ∧
      (∀ p, (getQp s p).fn ≠ vf → getQp t p = getQp s p) ∧ t.sec = s.sec ∧ t.life = s.life ∧
        t.tenants.insts = s.tenants.insts) ∧
  (∀ (numVfs : Nat) (s : State), s.host.linkUp = true → s.host.vfEnable = false → numVfs ≠ 0 → numVfs ≤ instCount s →
    ∃ t, exec (.vfEnableSet numVfs) s = .next t ∧
      quiet t = quiet { s with host := { s.host with vfEnable := true, numVfs := numVfs } }) ∧
  (∀ (s : State), s.host.vfEnable = true → standbyNow s = false →
    ∃ t, exec .vfEnableClear s = .next t ∧
      t.host.vfEnable = false ∧ t.host.numVfs = 0 ∧
      t.tenants.insts = s.tenants.insts.filter (fun x => x.2.state = .destroying) ∧
      t.host.qps = s.host.qps.filter (fun x => x.2.fn = 0) ∧ t.sec = s.sec ∧ t.life = s.life)

/-- From R261, R264 to R268, R270: create gives an instance its pools and rights; resize changes its counts and stages its rights; a
destroy in progress shows 0xFF and removes its queue pairs; it ends, with result 0 and the events of zeroisation and of
destroying, once no Chain of the instance and no key page is left and the standby of a pair has acknowledged it; purge zeroises
what a FREE instance's number still owns. Derived: where those rules leave an order, an encoding or a value open, the clauses
take the model's own choice, said in assumptions 44, 47 and 92. The clauses conclude that exec answers a next state of the
commands instanceCreate, instanceResize, instanceDestroy, instanceDestroyComplete, instancePurge. -/
def Obligations.InstanceLifeCycle : Prop :=
  (∀ (src : Src) (path : Path) (s : State), reaches src [1] s path 0x4100 0x09 [1] = true → createResult s = 0 →
    ∃ t, exec (.instanceCreate src) s = .next t ∧
      t.tenants.insts = SMap.put s.tenants.insts s.tenants.record.number { Inst.empty with
        state := .active, qpBase := s.tenants.record.qpBase, qpCount := s.tenants.record.qpCount,
        slotBase := s.tenants.record.slotBase, slotCount := s.tenants.record.slotCount, quota := s.tenants.record.quota,
        share := s.tenants.record.share, rights := s.tenants.record.rights, oldRights := s.tenants.record.rights,
        stagedRights := s.tenants.record.rights } ∧
      t.tenants.record = { s.tenants.record with
        result := 0, before := t.tenants.record.before, await := t.tenants.record.await } ∧
      quiet t = quiet { s with tenants := t.tenants, twin := t.twin }) ∧
  (∀ (src : Src) (path : Path) (s : State), reaches src [2] s path 0x4100 0x09 [2] = true → resizeResult s = 0 →
    ∃ t, exec (.instanceResize src) s = .next t ∧
      getInst t s.tenants.record.number = { getInst s s.tenants.record.number with
        qpCount := s.tenants.record.qpCount, slotCount := s.tenants.record.slotCount, quota := s.tenants.record.quota,
        share := s.tenants.record.share, stagedRights := s.tenants.record.rights } ∧
      (getInst t s.tenants.record.number).rights = (getInst s s.tenants.record.number).rights ∧
      quiet t = quiet { s with tenants := t.tenants, twin := t.twin }) ∧
  (∀ (src : Src) (path : Path) (s : State), reaches src [3] s path 0x4100 0x09 [3] = true → removeResult s .active = 0 →
    (getInst s s.tenants.record.number).state = .active →
    ∃ t, exec (.instanceDestroy src) s = .next t ∧
      (getInst t s.tenants.record.number).state = .destroying ∧ t.tenants.record.result = 0xFF ∧
      t.host.qps = s.host.qps.filter (fun x => x.2.fn ≠ s.tenants.record.number) ∧ t.sec = s.sec ∧ t.life = s.life) ∧
  (∀ (vf : Nat) (s : State), (getInst s vf).state = .destroying → (∀ x ∈ s.disp.chains, x.2.fn ≠ vf) →
    ownedSlots s vf = [] → ownedEntries s vf = [] → s.mram.queue = [] → s.mram.current = none → replicating s = false →
    logRoom s = true → s.log.staged.length < 255 → SMap.wf Inst.empty s.tenants.insts = true →
    ∃ t, exec (.instanceDestroyComplete vf) s = .next t ∧
      (getInst t vf).state = .free ∧ t.tenants.record.result = 0 ∧ Logged t 0x0404 ([3] ++ natLE 2 vf) ∧
      Logged t 0x0105 (natLE 2 vf ++ [3, 0]) ∧ quiet t = quiet { s with tenants := t.tenants, twin := t.twin }) ∧
  (∀ (vf : Nat) (s : State), (getInst s vf).state = .destroying → (∀ x ∈ s.disp.chains, x.2.fn ≠ vf) →
    ownedSlots s vf = [] → ownedEntries s vf = [] → s.mram.queue = [] → s.mram.current = none → replicating s = true →
    (getInst s vf).told = none → s.twin.ackedTo < s.twin.nextRecord →
    ∃ t, exec (.instanceDestroyComplete vf) s = .next t ∧
      (getInst t vf).state = .destroying ∧ (getInst t vf).told = some [s.twin.nextRecord] ∧
      quiet t = quiet { s with tenants := t.tenants, twin := t.twin }) ∧
  (∀ (src : Src) (path : Path) (s : State), reaches src [4] s path 0x4100 0x09 [4] = true → removeResult s .free = 0 →
    ownedSlots s s.tenants.record.number = [] → ownedEntries s s.tenants.record.number = [] → logRoom s = true →
      s.log.staged.length < 255 →
    ∃ t, exec (.instancePurge src) s = .next t ∧
      t.tenants.record.result = 0 ∧ Logged t 0x0404 ([3] ++ natLE 2 s.tenants.record.number) ∧
      Logged t 0x0105 (natLE 2 s.tenants.record.number ++ [4, 0]) ∧
      quiet t = quiet { s with tenants := { s.tenants with record := { s.tenants.record with
        result := 0, before := t.tenants.record.before, await := t.tenants.record.await } }, twin := t.twin })

/-- From R63, R130 to R132, R341: each Link of the control unit and of the format group ends as its operation gives: NOP with
nothing, MOVE with IN0, CONCAT with its inputs back to back, COMPARE with the equality of its inputs, RANDOM BYTES with its
draw, the padding and signature formats with what they build, remove or check; a row that names no Link ISSUED with its opcode
changes nothing. From R63, R199: the DELAY Link whose list entry is the next to be processed is DONE, and the entry is gone.
Derived: where those rules leave an order, an encoding or a value open, the clauses take the model's own choice, said in
assumptions 14, 33 and 41. The clauses conclude that exec answers a next state of the commands nop, move, concat, compare,
randomBytes, pad, unpad, pkcs1V15SignatureEncode, pssSignatureEncode, pkcs1V15SignatureCheck, pssSignatureCheck, delay. -/
def Obligations.ControlFormatAndDelayLinksEnd : Prop :=
  (∀ (c n : Nat) (s : State) (x : LinkCtx), ∀ y ∈ ([
      (.nop c n, 0x000, .done []),
      (.move c n, 0x001, .done x.in0),
      (.concat c n, 0x002, .done (x.in0 ++ x.in1 ++ x.in2)),
      (.compare c n, 0x003, .verified (x.in0 == x.in1) 0x0301 []),
      (.randomBytes c n, 0x901, .done x.r.draw),
      (.pad c n, 0xA01, pad x.p x.in0),
      (.unpad c n, 0xA02, unpad x.p x.in0),
      (.pkcs1V15SignatureEncode c n, 0xA10, .done (pkcs1Encode (formatHash x.p) (modBitsOf x.p) x.in0)),
      (.pssSignatureEncode c n, 0xA11, .done (pssEncode (formatHash x.p) (modBitsOf x.p) x.in0 x.r.draw)),
      (.pkcs1V15SignatureCheck c n, 0xA12,
        .verified (x.in0 == pkcs1Encode (formatHash x.p) (modBitsOf x.p) x.in1) 0x0331 []),
      (.pssSignatureCheck c n, 0xA13,
        .verified (pssVerify (formatHash x.p) (modBitsOf x.p) (saltLenOf x.p) x.in0 x.in1) 0x0331 [])] :
      List (Instr × Nat × OpResult)),
    linkCtx s c n y.2.1 = some x → ∃ t, exec y.1 s = .next t ∧ LinkEnds s c n x y.2.2 plainOut t) ∧
  (∀ (c n : Nat) (s : State), ∀ y ∈ ([
      (.nop c n, 0x000), (.move c n, 0x001), (.concat c n, 0x002), (.compare c n, 0x003), (.randomBytes c n, 0x901),
      (.pad c n, 0xA01), (.unpad c n, 0xA02), (.pkcs1V15SignatureEncode c n, 0xA10), (.pssSignatureEncode c n, 0xA11),
      (.pkcs1V15SignatureCheck c n, 0xA12), (.pssSignatureCheck c n, 0xA13)] : List (Instr × Nat)),
    linkCtx s c n y.2 = none → ∃ t, exec y.1 s = .next t ∧ quiet t = quiet s) ∧
  (∀ (c n : Nat) (s : State) (x : LinkCtx) (d : Due), nextDue s = some d → d.kind = .delayLink → d.a = c → d.b = n →
    linkCtx s c n 0x004 = some x →
    ∃ t, exec (.delay c n) s = .next t ∧ LinkDone (dropDue d s) c n x none [] none t ∧ d ∉ t.disp.due) ∧
  (∀ (c n : Nat) (s : State), (∀ d, nextDue s = some d → d.kind ≠ .delayLink ∨ d.a ≠ c ∨ d.b ≠ n) →
    ∃ t, exec (.delay c n) s = .next t ∧ quiet t = quiet s)

/-- From R101, R111, R122, R125: each Link of the lanes and hash units ends as its operation gives, a Link that got no nonce with
0x0410 (R118). From R87 to R108: each payment Link ends as its operation gives, the decimalisation table and the downgrade
permission being those of the Chain's own epoch; 0x501 and 0x1A0 put out a protected key with its role (R81). Derived: where
those rules leave an order, an encoding or a value open, the clauses take the model's own choice, said in assumptions 2, 3, 12,
34, 35 and 36. The clauses conclude that exec answers a next state of the commands encrypt, decrypt, reEncrypt, hash,
hmacGenerate, hmacVerify, macGenerate, macVerify, pinBlockDecode, pinBlockEncode, offsetGenerate, offsetVerify,
verificationValueGenerate, verificationValueVerify, arqcVerify, arpcGenerate, scriptMacGenerate, cardCodeGenerate,
cardCodeVerify, ff1Encrypt, ff1Decrypt, cardAndSessionKeyDerivation, dukptAesDerivation. -/
def Obligations.LaneHashAndPaymentLinksEnd : Prop :=
  (∀ (c n : Nat) (s : State) (x : LinkCtx), ∀ y ∈ ([
      (.encrypt c n, 0x201, encrypt (laneMode (bits x.p 0 3)) (bits x.p 4 5) x.key0 x.r.nonce x.in1 x.in0),
      (.decrypt c n, 0x202, decrypt (laneMode (bits x.p 0 3)) (bits x.p 4 5) x.key0 x.in1 x.in0),
      (.reEncrypt c n, 0x203, reEncrypt (laneMode (bits x.p 0 3)) (laneMode (bits x.p 4 3)) (bits x.p 8 5) (bits x.p 16 5)
        x.key0 x.key1 x.r.nonce x.in1 x.in0),
      (.hash c n, 0x301, hashMessage (bits x.p 0 4) (bits x.p 4 12) x.in0),
      (.hmacGenerate c n, 0x302, hmacGenerate (bits x.p 0 4) (bits x.p 4 7) x.key0 x.in0),
      (.hmacVerify c n, 0x303, hmacVerify (bits x.p 0 4) (bits x.p 4 7) x.key0 x.in0 x.in1),
      (.macGenerate c n, 0x310, macGenerate (bits x.p 0 2) (bits x.p 2 2) (bits x.p 4 5) x.key0 x.in0),
      (.macVerify c n, 0x311, macVerify (bits x.p 0 2) (bits x.p 2 2) (bits x.p 4 5) x.key0 x.in0 x.in1)] :
      List (Instr × Nat × OpResult)),
    linkCtx s c n y.2.1 = some x → ∃ t, exec y.1 s = .next t ∧ LinkEnds s c n x (nonceGate x y.2.2) plainOut t) ∧
  (∀ (c n : Nat) (s : State), ∀ y ∈ ([
      (.encrypt c n, 0x201), (.decrypt c n, 0x202), (.reEncrypt c n, 0x203), (.hash c n, 0x301), (.hmacGenerate c n, 0x302),
      (.hmacVerify c n, 0x303), (.macGenerate c n, 0x310), (.macVerify c n, 0x311)] : List (Instr × Nat)),
    linkCtx s c n y.2 = none → ∃ t, exec y.1 s = .next t ∧ quiet t = quiet s) ∧
  (∀ (c n : Nat) (s : State) (x : LinkCtx), ∀ y ∈ ([
      (.pinBlockDecode c n, 0x401, pinDecode x.p x.key0 x.in0 (if refKind x.l.in1 = 0 then none else some x.in1)),
      (.pinBlockEncode c n, 0x402, pinEncode x.p (chainConfig s x.ch).pinDowngrade x.key0 x.in0
        (if refKind x.l.in1 = 0 then none else some x.in1) x.r.draw),
      (.offsetGenerate c n, 0x410, offsetGenerate (bits x.p 0 4) (tableOf s x) x.key0 x.in0 x.in1),
      (.offsetVerify c n, 0x411, offsetVerify (bits x.p 0 4) (tableOf s x) x.key0 x.in0 x.in1 x.in2),
      (.verificationValueGenerate c n, 0x412, valueGenerate (bits x.p 0 4) x.key0 x.in0 x.in1),
      (.verificationValueVerify c n, 0x413, valueVerify (bits x.p 0 4) x.key0 x.in0 x.in1 x.in2),
      (.arqcVerify c n, 0x502, arqcVerify x.key0 x.in0 x.in1),
      (.arpcGenerate c n, 0x503, arpcGenerate (bits x.p 0 4) x.key0 x.in0 x.in1 x.in2),
      (.scriptMacGenerate c n, 0x504, scriptMac (bits x.p 0 4) x.key0 x.in0),
      (.cardCodeGenerate c n, 0x510, cardCodeGenerate (bits x.p 0 3) x.key0 x.in0 x.in1),
      (.cardCodeVerify c n, 0x511, cardCodeVerify (bits x.p 0 3) x.key0 x.in0 x.in1 x.in2),
      (.ff1Encrypt c n, 0x601, ff1Token true x.p x.key0 x.in0 x.in1),
      (.ff1Decrypt c n, 0x602, ff1Token false x.p x.key0 x.in0 x.in1)] : List (Instr × Nat × OpResult)),
    linkCtx s c n y.2.1 = some x → ∃ t, exec y.1 s = .next t ∧ LinkEnds s c n x y.2.2 plainOut t) ∧
  (∀ (c n : Nat) (s : State) (x : LinkCtx), ∀ y ∈ ([
      (.cardAndSessionKeyDerivation c n, 0x501,
        emvDerive (bits x.p 0 2) (bitOf x.p 4) (refLen x.l.out) x.key0 x.in0 x.in1, emvRole x),
      (.dukptAesDerivation c n, 0x1A0, dukptDerive (bits x.p 0 2) (bits x.p 4 4) (bits x.p 8 16) x.key0 x.in0, dukptRole x)] :
      List (Instr × Nat × OpResult × Nat)),
    linkCtx s c n y.2.1 = some x → ∃ t, exec y.1 s = .next t ∧ LinkEnds s c n x y.2.2.1 (keyOut y.2.2.2) t) ∧
  (∀ (c n : Nat) (s : State), ∀ y ∈ ([
      (.pinBlockDecode c n, 0x401), (.pinBlockEncode c n, 0x402), (.offsetGenerate c n, 0x410), (.offsetVerify c n, 0x411),
      (.verificationValueGenerate c n, 0x412), (.verificationValueVerify c n, 0x413), (.arqcVerify c n, 0x502),
      (.arpcGenerate c n, 0x503), (.scriptMacGenerate c n, 0x504), (.cardCodeGenerate c n, 0x510),
      (.cardCodeVerify c n, 0x511), (.ff1Encrypt c n, 0x601), (.ff1Decrypt c n, 0x602),
      (.cardAndSessionKeyDerivation c n, 0x501), (.dukptAesDerivation c n, 0x1A0)] : List (Instr × Nat)),
    linkCtx s c n y.2 = none → ∃ t, exec y.1 s = .next t ∧ quiet t = quiet s)

/-- From R140, R150 to R157: a Link of a PKE pair whose units agree ends as its operation gives, with the key read at issue or the
one its block holds (R145); an agreement secret is a protected key (R148). From R158 to R162: a Link of a lattice pair whose
units agree ends as its operation gives; an ML-DSA signature whose rejection loop has accepted no candidate yet leaves its Link
running. From R141: a Link of a pair whose units disagree ends FAILED with 0x0710, the disagreement is counted, the pair's
memories are cleared and the pair is withdrawn; nothing is written to chain memory. Derived: where those rules leave an order,
an encoding or a value open, the clauses take the model's own choice, said in assumptions 2, 16, 18, 35 and 40. The clauses
conclude that exec answers a next state of the commands rsaPrivateCrt, rsaPrivateNonCrt, rsaPublic, ecdsaSign, ecdsaVerify,
ecdh, ecKeyPairGenerate, ed25519Sign, ed25519Verify, x25519, curve25519KeyPairGenerate, modmul, modexp, modinv,
mlKemKeyPairGenerate, mlKemEncapsulate, mlKemDecapsulate, mlDsaKeyPairGenerate, mlDsaVerify, mlDsaSign. -/
def Obligations.PublicKeyAndLatticeLinksEnd : Prop :=
  (∀ (c n p : Nat) (b : Bool) (s : State) (x : LinkCtx), ∀ y ∈ ([
      (.rsaPrivateCrt c n true, 0x701, withKey x fun k => rsaCrt (8 * modWords x.p) k x.in0, rsaKey x),
      (.rsaPrivateNonCrt c n true, 0x702, withKey x fun k => rsaPlain (8 * modWords x.p) k x.in0, rsaKey x),
      (.rsaPublic c n true, 0x703, rsaPublic (modWords x.p) x.in0 x.in1 x.in2, plainOut),
      (.ecdsaSign c n true, 0x710, withKey x fun k => ecdsaSignOp (curveOf (bits x.p 0 4)) k x.in0 x.r.draw, plainOut),
      (.ecdsaVerify c n true, 0x711, ecdsaVerifyOp (curveOf (bits x.p 0 4)) x.in0 x.in1 x.in2, plainOut),
      (.ecdh c n true, 0x712, withKey x fun k => ecdhOp (curveOf (bits x.p 0 4)) k x.in0, secretKey x),
      (.ecKeyPairGenerate c n true, 0x713,
        keyPairOut s x (curveAlg (bits x.p 0 4)) (if bitOf x.p 5 then usageK3 else usageS0) (bits x.p 0 4)
          (ecKeyPair (curveOf (bits x.p 0 4)) x.r.draw), plainOut),
      (.ed25519Sign c n true, 0x720, withKey x fun k => ed25519SignOp k x.in0, plainOut),
      (.ed25519Verify c n true, 0x721, ed25519VerifyOp x.in0 x.in1 x.in2, plainOut),
      (.x25519 c n true, 0x722, withKey x fun k => x25519Op k x.in0, secretKey x),
      (.curve25519KeyPairGenerate c n true, 0x723,
        keyPairOut s x (if bitOf x.p 5 then 8 else 7) (if bitOf x.p 5 then usageK3 else usageS0) 0
          (curve25519KeyPair (bitOf x.p 5) x.r.draw), plainOut),
      (.modmul c n true, 0x7F0, modMul (modWords x.p) x.in0 x.in1 x.in2, plainOut),
      (.modexp c n true, 0x7F1, modExp (modWords x.p) x.in0 x.in1 x.in2, plainOut),
      (.modinv c n true, 0x7F2, modInverse (modWords x.p) x.in0 x.in2, plainOut)] :
      List (Instr × Nat × OpResult × (Bytes → Option (Nat × Nat)))),
    linkCtx s c n y.2.1 = some x → pairOf s false c n = some (p, b) → (getPair s false p).running = some b →
      x.r.stopping = false →
    ∃ t, exec y.1 s = .next t ∧ LinkEnds s c n x (nonceGate x y.2.2.1) y.2.2.2 t) ∧
  (∀ (c n : Nat) (agree : Bool) (s : State), ∀ y ∈ ([
      (.rsaPrivateCrt c n agree, 0x701), (.rsaPrivateNonCrt c n agree, 0x702), (.rsaPublic c n agree, 0x703),
      (.ecdsaSign c n agree, 0x710), (.ecdsaVerify c n agree, 0x711), (.ecdh c n agree, 0x712),
      (.ecKeyPairGenerate c n agree, 0x713), (.ed25519Sign c n agree, 0x720), (.ed25519Verify c n agree, 0x721),
      (.x25519 c n agree, 0x722), (.curve25519KeyPairGenerate c n agree, 0x723), (.modmul c n agree, 0x7F0),
      (.modexp c n agree, 0x7F1), (.modinv c n agree, 0x7F2)] : List (Instr × Nat)),
    (linkCtx s c n y.2 = none ∨ pairOf s false c n = none ∨
      (∃ x p b, linkCtx s c n y.2 = some x ∧ pairOf s false c n = some (p, b) ∧
        ((getPair s false p).running ≠ some b ∨ x.r.stopping = true))) →
    ∃ t, exec y.1 s = .next t ∧ quiet t = quiet s) ∧
  (∀ (c n p : Nat) (b : Bool) (s : State) (x : LinkCtx), ∀ y ∈ ([
      (.mlKemKeyPairGenerate c n true, 0x801,
        keyPairOut s x 0x0E usageK3 (bits x.p 0 2) (kemKeyPair (bits x.p 0 2) x.r.draw), plainOut),
      (.mlKemEncapsulate c n true, 0x802, kemEncapsOp (bits x.p 0 2) x.in0 x.r.draw,
        fun _ => some (roleWord 9 usageDerive modeX, 32)),
      (.mlKemDecapsulate c n true, 0x803, withKey x fun k => kemDecapsOp (bits x.p 0 2) k x.in0, secretKey x),
      (.mlDsaKeyPairGenerate c n true, 0x811,
        keyPairOut s x 0x0F usageS0 (bits x.p 0 2) (dsaKeyPair (bits x.p 0 2) x.r.draw), plainOut),
      (.mlDsaVerify c n true, 0x813, dsaVerifyOp (bits x.p 0 2) (bits x.p 8 8) x.in0 x.in1 x.in2, plainOut)] :
      List (Instr × Nat × OpResult × (Bytes → Option (Nat × Nat)))),
    linkCtx s c n y.2.1 = some x → pairOf s true c n = some (p, b) → (getPair s true p).running = some b →
      x.r.stopping = false →
    ∃ t, exec y.1 s = .next t ∧ LinkEnds s c n x (nonceGate x y.2.2.1) y.2.2.2 t) ∧
  (∀ (c n p : Nat) (b : Bool) (s : State) (x : LinkCtx),
    linkCtx s c n 0x812 = some x → pairOf s true c n = some (p, b) → (getPair s true p).running = some b →
      x.r.stopping = false →
    ∃ t, exec (.mlDsaSign c n true) s = .next t ∧ match x.priv with
      | .error st => LinkFailed s c n x st t
      | .ok k => match dsaSignOp (bits x.p 0 2) k x.in1 x.in0 x.r.draw with
        | some res => LinkEnds s c n x res plainOut t
        | none => quiet t = quiet s) ∧
  (∀ (c n : Nat) (agree : Bool) (s : State), ∀ y ∈ ([
      (.mlKemKeyPairGenerate c n agree, 0x801), (.mlKemEncapsulate c n agree, 0x802), (.mlKemDecapsulate c n agree, 0x803),
      (.mlDsaKeyPairGenerate c n agree, 0x811), (.mlDsaVerify c n agree, 0x813),
        (.mlDsaSign c n agree, 0x812)] : List (Instr × Nat)),
    (linkCtx s c n y.2 = none ∨ pairOf s true c n = none ∨
      (∃ x p b, linkCtx s c n y.2 = some x ∧ pairOf s true c n = some (p, b) ∧
        ((getPair s true p).running ≠ some b ∨ x.r.stopping = true))) →
    ∃ t, exec y.1 s = .next t ∧ quiet t = quiet s) ∧
  (∀ (c n p : Nat) (b lattice : Bool) (s : State) (x : LinkCtx), ∀ y ∈ ([
      (.rsaPublic c n false, 0x703, false), (.ecdsaVerify c n false, 0x711, false),
      (.ecKeyPairGenerate c n false, 0x713, false), (.ed25519Verify c n false, 0x721, false),
      (.curve25519KeyPairGenerate c n false, 0x723, false), (.modmul c n false, 0x7F0, false), (.modexp c n false, 0x7F1, false),
      (.modinv c n false, 0x7F2, false), (.mlKemKeyPairGenerate c n false, 0x801, true), (.mlKemEncapsulate c n false, 0x802, true),
      (.mlDsaKeyPairGenerate c n false, 0x811, true), (.mlDsaVerify c n false, 0x813, true),
        (.rsaPrivateCrt c n false, 0x701, false),
      (.rsaPrivateNonCrt c n false, 0x702, false), (.ecdsaSign c n false, 0x710, false), (.ecdh c n false, 0x712, false),
      (.ed25519Sign c n false, 0x720, false), (.x25519 c n false, 0x722, false), (.mlKemDecapsulate c n false, 0x803, true),
      (.mlDsaSign c n false, 0x812, true)] : List (Instr × Nat × Bool)),
    y.2.2 = lattice → linkCtx s c n y.2.1 = some x → pairOf s lattice c n = some (p, b) →
    (getPair s lattice p).running = some b → ((getPair s lattice p).region b).job = some (c, n) → x.r.stopping = false →
    ∃ t, exec y.1 s = .next t ∧
      (getChain t c).map (fun ch => ch.stateOf n) = some .failed ∧
      (n < 32 → x.ch.closed = false →
        (getChain t c).map (fun ch => ch.status) = some (if x.ch.expired then 0x0601 else 0x0710)) ∧
      t.engines.mismatches = s.engines.mismatches + 1 ∧ isWithdrawn (if lattice then 7 else 6) p t = true ∧
      quiet t = quiet { s with
        disp := t.disp, engines := t.engines, cores := t.cores, energy := t.energy, faults := t.faults })

/-- From R53, R73: a result is written to OUT from its first byte, zeros follow to OUT's end, and no other byte of chain memory
changes; the buffers of a Chain do not overlap. -/
def Obligations.OutBytesAndNoOthers : Prop :=
  (∀ (ch : Chain) (l : LinkWords) (data : Bytes) (s : State) (a : Nat),
    (∀ i, i < refLen l.out → a ≠ ch.addr (refStart l.out + i)) →
    Memory.read (writeOut ch l data s).chainMem a = Memory.read s.chainMem a) ∧
  (∀ (ch : Chain) (l : LinkWords) (data : Bytes) (s : State) (i : Nat), refKind l.out = 2 → i < refLen l.out →
    ch.buffers.Nodup → (refStart l.out + refLen l.out) ≤ 256 * ch.buffers.length →
    Memory.read (writeOut ch l data s).chainMem (ch.addr (refStart l.out + i)) = data.getD i 0)

/-- From R308, R311 to R315: a key Link that installs a key writes it into its EMPTY destination slot, VALID, with the attribute
word the rules give, and is DONE; one whose block, request or destination a condition refuses fails with that condition's
status. Derived: where those rules leave an order, an encoding or a value open, the clauses take the model's own choice, said in
assumptions 14, 17, 22, 28 and 35. The clauses conclude that exec answers a next state of the commands x9143Import,
domainImport, generate, delete, x9143Export, domainExport, unwrapToKeyBuffer, x9143ToDomainBlock, deriveFromAgreementSecret. -/
def Obligations.KeysInstalledInWorkingSlots : Prop :=
  (∀ (c n attr slot : Nat) (key : Bytes) (s : State) (x : LinkCtx), ∀ y ∈ ([
      (.x9143Import c n, 0x101), (.domainImport c n, 0x103), (.generate c n, 0x106)] : List (Instr × Nat)),
    linkCtx s c n y.2 = some x → (installs s c y.2 x).toOption = some (attr, key) → slot = bits x.l.key1Ref 0 18 →
    ∃ t, exec y.1 s = .next t ∧
      (getSlot t slot).state = .valid ∧ (getSlot t slot).key = key ∧ (getSlot t slot).attr = attr ∧
      (∀ m, m ≠ slot → getSlot t m = getSlot s m) ∧ (getChain t c).map (fun ch => ch.stateOf n) = some .done ∧
      (refKind x.l.out ≠ 2 → t.chainMem = s.chainMem) ∧
      quiet t = quiet { s with disp := t.disp, chainMem := t.chainMem, engines := t.engines, keys := t.keys, cores := t.cores,
                               clasp := t.clasp, twin := t.twin }) ∧
  (∀ (c n status : Nat) (s : State) (x : LinkCtx), ∀ y ∈ ([
      (.x9143Import c n, 0x101), (.domainImport c n, 0x103), (.generate c n, 0x106)] : List (Instr × Nat)),
    linkCtx s c n y.2 = some x → statusOf (installs s c y.2 x) = some status → ∃ t, exec y.1 s = .next t ∧
      LinkFailed s c n x status t) ∧
  (∀ (c n : Nat) (s : State), ∀ y ∈ ([
      (.x9143Import c n, 0x101), (.domainImport c n, 0x103), (.generate c n, 0x106), (.delete c n, 0x107),
      (.x9143Export c n, 0x102), (.domainExport c n, 0x104), (.unwrapToKeyBuffer c n, 0x105), (.x9143ToDomainBlock c n, 0x108),
      (.deriveFromAgreementSecret c n, 0x110)] : List (Instr × Nat)),
    linkCtx s c n y.2 = none → ∃ t, exec y.1 s = .next t ∧ quiet t = quiet s)

/-- From R308, R314, R316, R438: 0x107 unlists its slot and is DONE; 0x102 and 0x104 take the first decision on their permission and
wait for the second; 0x105 puts the key of a block that opens into OUT as a protected key; 0x108 and 0x110 end as their
operation gives; a block that does not open fails its Link with the status of the check it failed. Derived: where those rules
leave an order, an encoding or a value open, the clauses take the model's own choice, said in assumptions 13, 14 and 35. The
clauses conclude that exec answers a next state of the commands delete, x9143Export, domainExport, unwrapToKeyBuffer,
x9143ToDomainBlock, deriveFromAgreementSecret. -/
def Obligations.KeysDeletedExportedAndUnwrapped : Prop :=
  (∀ (c n slot : Nat) (s : State) (x : LinkCtx), linkCtx s c n 0x107 = some x → slot = bits x.l.key1Ref 0 18 →
    lockedByOther s (chainTag c) slot = false →
    ∃ t, exec (.delete c n) s = .next t ∧
      t.keys.slots = SMap.erase s.keys.slots slot ∧ (getChain t c).map (fun ch => ch.stateOf n) = some .done ∧
      (∀ e ∈ t.keys.entries, e.2.1 ≠ slot) ∧ (refKind x.l.out ≠ 2 → t.chainMem = s.chainMem) ∧
      quiet t = quiet { s with disp := t.disp, chainMem := t.chainMem, engines := t.engines, keys := t.keys, cores := t.cores,
                               clasp := t.clasp, twin := t.twin }) ∧
  (∀ (c n slot : Nat) (s : State) (x : LinkCtx), linkCtx s c n 0x107 = some x → slot = bits x.l.key1Ref 0 18 →
    lockedByOther s (chainTag c) slot = true → ∃ t, exec (.delete c n) s = .next t ∧ LinkFailed s c n x 0x020F t) ∧
  (∀ (c n : Nat) (s : State) (x : LinkCtx),
    ∀ y ∈ ([(.x9143Export c n, 0x102), (.domainExport c n, 0x104)] : List (Instr × Nat)),
    linkCtx s c n y.2 = some x → (∀ d ∈ s.tamper.decisions, d.1 ≠ .keyExport c n) →
    ∃ t, exec y.1 s = .next t ∧ quiet t = quiet { s with
      tamper := { s.tamper with decisions := s.tamper.decisions ++ [(.keyExport c n, exportPermitted y.2 x)] },
      rng := t.rng, freeUses := t.freeUses }) ∧
  (∀ (c n : Nat) (s : State) (x : LinkCtx) (k : OpenedBlock), linkCtx s c n 0x105 = some x →
    (domainOpen x.key0 (ownDomain s) x.ch.fn x.in0).toOption = some k →
    ∃ t, exec (.unwrapToKeyBuffer c n) s = .next t ∧
      if k.key.length ≤ refLen x.l.out then LinkDone s c n x none k.key (some (k.attr, k.key.length)) t
      else LinkFailed s c n x 0x0220 t) ∧
  (∀ (c n st : Nat) (s : State) (x : LinkCtx), linkCtx s c n 0x105 = some x →
    statusOf (domainOpen x.key0 (ownDomain s) x.ch.fn x.in0) = some st →
    ∃ t, exec (.unwrapToKeyBuffer c n) s = .next t ∧ LinkFailed s c n x st t) ∧
  (∀ (c n : Nat) (s : State) (x : LinkCtx) (k : X9Key) (block : Bytes), linkCtx s c n 0x108 = some x →
    (x9Open x.key0 x.in0).toOption = some k →
    block = domainSeal x.key1.bytes x.r.nonce (ownDomain s) (convertedAttr x k) 0 k.key →
    ∃ t, exec (.x9143ToDomainBlock c n) s = .next t ∧
      if k.exp = 0 then LinkFailed s c n x 0x020A t
      else if refLen x.l.out < block.length then LinkFailed s c n x 0x0220 t
      else if x.r.nonce = [] then LinkFailed s c n x 0x0410 t
      else LinkDone s c n x none block none t) ∧
  (∀ (c n st : Nat) (s : State) (x : LinkCtx), linkCtx s c n 0x108 = some x → statusOf (x9Open x.key0 x.in0) = some st →
    ∃ t, exec (.x9143ToDomainBlock c n) s = .next t ∧ LinkFailed s c n x st t) ∧
  (∀ (c n : Nat) (s : State) (x : LinkCtx), linkCtx s c n 0x110 = some x →
    ∃ t, exec (.deriveFromAgreementSecret c n) s = .next t ∧
      LinkDone s c n x none (agreementKey x.in0 x.key0.bytes x.in1 (algKeyLen (bits x.p 0 5)))
        (keyOut (x.p % 2 ^ 14) (agreementKey x.in0 x.key0.bytes x.in1 (algKeyLen (bits x.p 0 5)))) t)

/-- From R55, R64, R177, R214, R219, R245: a port whose entry passes every check and finds its reservations takes a context with the
entry's tag, class and deadline, its buffers and a completion slot, and consumes the entry; an entry with a fault, or one that
meets no SERVICE, is completed at once with its status when a completion slot is free; a port gives back the buffers of a wasted
grant; nothing is admitted while LOCKED is set or in DOZE. Derived: where those rules leave an order, an encoding or a value
open, the clauses take the model's own choice, said in assumptions 36 and 37. The clauses conclude that exec answers a next
state of the commands chainAdmission, grantReturn. -/
def Obligations.ChainsAdmittedOrRefused : Prop :=
  (∀ (ports port q c : Nat) (x : QueuePair) (e : Bytes) (es : List Bytes) (b : Body) (bs : List Nat) (s u : State),
    lockedNow s = false → s.modes.word.doze = false → port ∈ portsServed s ports → (∀ y ∈ s.host.qps, y.1 % 2 = port) →
    u = runHints port s → turnOf u port = some (q, x) → getQp u q = x → x.fetched = e :: es →
    s.modes.word.service = true → admissionFaults (turnTaken port q u) x e = (some b, []) →
      allocate s x.fn b.bufCount = some bs →
    freeContext s = some c → cqFree x = true → energyFits s b = true →
    ∃ t, exec (.chainAdmission ports) s = .next t ∧
      (getChain t c).map (fun ch => (ch.qp, ch.fn, ch.tag, ch.prio)) = some (q, x.fn, entryTag e, entryPrio e) ∧
      (getChain t c).map (fun ch => (ch.expiry, ch.buffers, ch.status, ch.closed)) =
        some (s.disp.tick + effectiveDeadline s e b, bs, 0, false) ∧ (∀ m, m ≠ c → getChain t m = getChain s m) ∧
      (∀ m ∈ bs, (SMap.find t.flow.buffers m) = some (chainTag c)) ∧
      (getQp t q).sqHead = ringNext (ringSize x.sqSize) x.sqHead ∧ (getQp t q).cqReserved = x.cqReserved + 1 ∧
      t.disp.admSeq = s.disp.admSeq + 1 ∧
      t.energy = { s.energy with smallPool := s.energy.smallPool + (estimate b).1,
                                 largePool := s.energy.largePool + (estimate b).2 } ∧
      quiet t = quiet { s with disp := t.disp, energy := t.energy, flow := t.flow, host := t.host, tenants := t.tenants,
                               freeUses := t.freeUses }) ∧
  (∀ (ports port q status : Nat) (x : QueuePair) (e : Bytes) (es : List Bytes) (s u : State),
    lockedNow s = false → s.modes.word.doze = false → port ∈ portsServed s ports → (∀ y ∈ s.host.qps, y.1 % 2 = port) →
    u = runHints port s → turnOf u port = some (q, x) → getQp u q = x → x.fetched = e :: es →
    (s.modes.word.service = false ∧ status = serviceRefusal s ∨
      s.modes.word.service = true ∧ lowest (admissionFaults (turnTaken port q u) x e).2 = some status) → cqFree x = true →
    ∃ t, exec (.chainAdmission ports) s = .next t ∧
      t.host.queued = s.host.queued ++
        [{ qp := q, tag := entryTag e, status := status, firstFail := 0xFE, flags := bit s.modes.word.debugOpen,
           finSeq := s.disp.finishSeq }] ∧
      (getQp t q).sqHead = ringNext (ringSize x.sqSize) x.sqHead ∧ (getQp t q).cqReserved = x.cqReserved + 1 ∧
      quiet t = quiet { s with disp := { s.disp with finishSeq := s.disp.finishSeq + 1 }, host := t.host, flow := t.flow,
                               freeUses := t.freeUses }) ∧
  (∀ (ports : Nat) (s : State), lockedNow s = true ∨ s.modes.word.doze = true →
    ∃ t, exec (.chainAdmission ports) s = .next t ∧ quiet t = quiet s) ∧
  (∀ (port : Nat) (g : WastedGrant) (s : State), s.flow.wasted.find? (fun h => h.port = port) = some g →
    ∃ t, exec (.grantReturn port) s = .next t ∧ quiet t = quiet { s with flow := { s.flow with
      buffers := g.buffers.foldl SMap.erase s.flow.buffers, granted := s.flow.granted - g.buffers.length,
      freeTwice := t.flow.freeTwice, wasted := s.flow.wasted.filter (fun h => h ≠ g),
      wastedGrants := s.flow.wastedGrants + 1 } }) ∧
  (∀ (port : Nat) (s : State), s.flow.wasted.find? (fun h => h.port = port) = none →
    ∃ t, exec (.grantReturn port) s = .next t ∧ quiet t = quiet s)

/-- From R28, R182, R186, R193: a READY Link that is the only candidate with a free engine is issued when its keys, its draw and the
bucket allow it, and its cost is charged; a Link of kind 3 is handed to the core that accepts it; one whose keys are refused is
FAILED with the refusal's status; when the bucket does not cover its cost nothing issues and the tick counts as held back. From
R140, R163 to R168: at a yield point a job whose digests agree goes on, or yields to the one waiting Link that may preempt it;
one that an expiry or abort stops ends SKIPPED without result; one whose digests disagree ends FAILED with 0x0710 and its pair
is withdrawn. Derived: where those rules leave an order, an encoding or a value open, the clauses take the model's own choice,
said in assumptions 39, 40, 82, 84, 86 and 87. The clauses conclude that exec answers a next state of the commands linkIssue,
yieldPoint. -/
def Obligations.LinksIssueAndYield : Prop :=
  (∀ (s u : State) (k : Cand) (e : Nat) (ch : Chain) (k0 k1 : Option KeyVal) (counted : List Nat),
    dispatching s = true → u = defer s → issuable u = [k] → engineFor u k [] = some e → getChain u k.c = some ch →
    ch.link k.n = some (k.l, k.r) → stillReady ch k = true → (k.l.opcode = 0x004 → delayEntries u < 3712) →
    engineKind k.l.opcode ≠ 3 → readKeys u ch k.l = .keys k0 k1 counted → bufferCovers u (drawBytes k.l) = true →
    covers u k = true → refusedAccesses u ch k.l e = [] →
    ∃ t, exec .linkIssue s = .next t ∧
      (getChain t k.c).map (fun ch => ch.stateOf k.n) = some .issued ∧
      t.energy.charged = s.energy.charged + BitVec.ofNat 64 (linkCost k.l) ∧
      t.rng.buffer = s.rng.buffer.drop (drawNeed k.l (.keys k0 k1 counted)) ∧
      quiet t = quiet { s with disp := t.disp, engines := t.engines, energy := t.energy, tenants := t.tenants, keys := t.keys,
                               rng := t.rng, clasp := t.clasp, twin := t.twin }) ∧
  (∀ (s u : State) (k : Cand) (e : Nat) (ch : Chain),
    dispatching s = true → u = defer s → issuable u = [k] → engineFor u k [] = some e → getChain u k.c = some ch →
    ch.link k.n = some (k.l, k.r) → stillReady ch k = true → engineKind k.l.opcode = 3 → e < 32 →
    bufferCovers u (drawBytes k.l) = true → covers u k = true → refusedAccesses u ch k.l e = [] →
    ∃ t, exec .linkIssue s = .next t ∧
      (getChain t k.c).map (fun ch => ch.stateOf k.n) = some .issued ∧ (getCore t e).link = some (k.c, k.n) ∧
      (getCore t e).stored = [] ∧ (getCore t e).lastOwner = some k.fn ∧ t.cores.handed = s.cores.handed + 1 ∧
      t.energy.charged = s.energy.charged + BitVec.ofNat 64 (linkCost k.l) ∧
      quiet t = quiet { s with disp := t.disp, energy := t.energy, tenants := t.tenants, cores := t.cores }) ∧
  (∀ (s u : State) (k : Cand) (e st : Nat) (ch : Chain) (counted : List Nat),
    dispatching s = true → u = defer s → issuable u = [k] → engineFor u k [] = some e → getChain u k.c = some ch →
    ch.link k.n = some (k.l, k.r) → stillReady ch k = true → (k.l.opcode = 0x004 → delayEntries u < 3712) →
    engineKind k.l.opcode ≠ 3 → readKeys u ch k.l = .failed st counted → bufferCovers u (drawBytes k.l) = true →
    covers u k = true → refusedAccesses u ch k.l e = [] → k.n < 32 →
    ∃ t, exec .linkIssue s = .next t ∧
      (getChain t k.c).map (fun ch => ch.stateOf k.n) = some .failed ∧
      (getChain t k.c).map (fun ch => (ch.status, ch.firstFail)) =
        some (if ch.expired then (0x0601, 0xFF) else (st, k.n)) ∧
      t.energy.charged = s.energy.charged + BitVec.ofNat 64 (linkCost k.l)) ∧
  (∀ (s u : State) (k : Cand) (e : Nat) (ch : Chain) (k0 k1 : Option KeyVal) (counted : List Nat),
    dispatching s = true → u = defer s → issuable u = [k] → engineFor u k [] = some e → getChain u k.c = some ch →
    stillReady ch k = true → (k.l.opcode = 0x004 → delayEntries u < 3712) → engineKind k.l.opcode ≠ 3 →
    readKeys u ch k.l = .keys k0 k1 counted → bufferCovers u (drawBytes k.l) = true → covers u k = false → k.r.agedAt = none →
    ∃ t, exec .linkIssue s = .next t ∧ quiet t = quiet { u with disp := { u.disp with heldNow := true } }) ∧
  (∀ (s : State), dispatching s = true → issuable (defer s) = [] → ∃ t, exec .linkIssue s = .next t ∧
    quiet t = quiet (defer s)) ∧
  (∀ (s : State), dispatching s = false → ∃ t, exec .linkIssue s = .next t ∧ quiet t = quiet s) ∧
  (∀ (p c n : Nat) (b lattice : Bool) (ch : Chain) (l : LinkWords) (r : LinkRun) (s : State),
    (getPair s lattice p).running = some b → ((getPair s lattice p).region b).job = some (c, n) → getChain s c = some ch →
    ch.link n = some (l, r) → r.stopping = false → (lattice = true ∨ candidates s [5] = []) →
    ∃ t, exec (.yieldPoint lattice p true) s = .next t ∧
      ((getPair t lattice p).region b).points = ((getPair s lattice p).region b).points + 1 ∧
      ((getPair t lattice p).region b).job = some (c, n) ∧ (getPair t lattice p).running = some b ∧
      quiet t = quiet { s with engines := t.engines }) ∧
  (∀ (p c n e : Nat) (b : Bool) (ch ch2 : Chain) (l : LinkWords) (r : LinkRun) (moved : Region) (k : Cand)
    (k0 k1 : Option KeyVal) (counted : List Nat) (s u : State),
    (getPair s false p).running = some b → ((getPair s false p).region b).job = some (c, n) → getChain s c = some ch →
    ch.link n = some (l, r) → r.stopping = false → (getPair s false p).suspended = none →
    (∀ i < pkeCount s, pairFree s false i = false) →
    moved = { (getPair s false p).region b with
      points := ((getPair s false p).region b).points + 1, eligible := true,
      ran := ((getPair s false p).region b).ran +
        Config.yieldInterval (yieldSeed r.draw) ((getPair s false p).region b).points } →
    moved.yields < yieldLimitOf s c → u = putPair false p ((getPair s false p).setRegion b moved) s →
    (candidates u [5]).filter (mayPreempt moved l ch.prio) = [k] → getChain u k.c = some ch2 →
    ch2.link k.n = some (k.l, k.r) → readKeys u ch2 k.l = .keys k0 k1 counted → covers u k = true →
    bufferCovers u (drawBytes k.l) = true → e = 2 * p + bit (!b) → refusedAccesses u ch2 k.l e = [] →
    ∃ t, exec (.yieldPoint false p true) s = .next t ∧
      (getPair t false p).suspended = some b ∧ (getPair t false p).running = some (!b) ∧
      ((getPair t false p).region b).yields = moved.yields + 1 ∧ ((getPair t false p).region (!b)).job = some (k.c, k.n) ∧
      (getChain t k.c).map (fun ch => ch.stateOf k.n) = some .issued ∧ t.engines.yields = s.engines.yields + 1) ∧
  (∀ (p c n : Nat) (b lattice : Bool) (ch : Chain) (l : LinkWords) (r : LinkRun) (s : State),
    (getPair s lattice p).running = some b → ((getPair s lattice p).region b).job = some (c, n) → getChain s c = some ch →
    ch.link n = some (l, r) → r.stopping = true →
    ∃ t, exec (.yieldPoint lattice p true) s = .next t ∧
      (getChain t c).map (fun ch => ch.stateOf n) = some .skipped ∧
      quiet t = quiet { s with disp := t.disp, engines := t.engines, cores := t.cores }) ∧
  (∀ (p c n : Nat) (b lattice : Bool) (ch : Chain) (l : LinkWords) (r : LinkRun) (s : State),
    (getPair s lattice p).running = some b → ((getPair s lattice p).region b).job = some (c, n) → getChain s c = some ch →
    ch.link n = some (l, r) →
    ∃ t, exec (.yieldPoint lattice p false) s = .next t ∧
      (getChain t c).map (fun ch => ch.stateOf n) = some .failed ∧
      (n < 32 → ch.closed = false → (getChain t c).map (fun ch => ch.status) = some (if ch.expired then 0x0601 else 0x0710)) ∧
      t.engines.mismatches = s.engines.mismatches + 1 ∧ isWithdrawn (if lattice then 7 else 6) p t = true ∧
      quiet t = quiet { s with
        disp := t.disp, engines := t.engines, cores := t.cores, energy := t.energy, faults := t.faults }) ∧
  (∀ (p : Nat) (lattice agree : Bool) (s : State), (getPair s lattice p).running = none →
    ∃ t, exec (.yieldPoint lattice p agree) s = .next t ∧ quiet t = quiet s)

/-- From R30, R73, R213, R248, R249, R250, R253: a finished Chain's items leave as far as the posted credits go; the completion that
is the next of its ring is written at CQ_TAIL and its context is free; so is the oldest refusal that waits; new credits let a
waiting message leave; a moderation time that has passed sends the vector of its queue pair. What may not leave yet, or is not
there, changes nothing. Derived: where those rules leave an order, an encoding or a value open, the clauses take the model's own
choice, said in assumptions 37, 38 and 85. The clauses conclude that exec answers a next state of the commands chainWriteBack,
completionWrite, postedCreditUpdate, moderationTimerExpiry. -/
def Obligations.ResultsAndCompletionsLeave : Prop :=
  (∀ (c n h d : Nat) (ch : Chain) (s : State), getChain s c = some ch → mayLeave s ch = true → owesData ch = true →
    maySend s ch.fn = true → refusedAt s hostMaster 0 (writeBackAddrs ch) = [] →
    affordable (packetsOf (ch.resultAddr + ch.wbSent) ((writeBackData s ch).drop ch.wbSent).length)
      s.flow.postedHdr s.flow.postedData = (n, h, d) → n ≠ 0 →
    ∃ t, exec (.chainWriteBack c) s = .next t ∧
      Sent.memWrite ch.fn (ch.resultAddr + ch.wbSent) (((writeBackData s ch).drop ch.wbSent).take n) ∈ t.sent ∧
      getChain t c = some { ch with wbSent := ch.wbSent + n,
                                    writtenBack := decide (ch.wbSent + n ≥ (writeBackData s ch).length) } ∧
      (∀ m, m ≠ c → getChain t m = getChain s m) ∧ quiet t = quiet { s with disp := t.disp }) ∧
  (∀ (c : Nat) (s : State), (∀ ch, getChain s c = some ch → mayLeave s ch = false ∨ owesData ch = false) →
    ∃ t, exec (.chainWriteBack c) s = .next t ∧ quiet t = quiet s) ∧
  (∀ (c : Nat) (ch : Chain) (x : QueuePair) (s : State), getChain s c = some ch → completionDue s ch = true →
    getQp s ch.qp = x → maySend s x.fn = true → 1 ≤ s.flow.postedHdr → 2 ≤ s.flow.postedData →
    ∃ t, exec (.completionWrite (some c)) s = .next t ∧
      Sent.memWrite x.fn (x.cqBase * 4096 + 32 * x.cqTail) (chainEntry x ch) ∈ t.sent ∧ getChain t c = none ∧
      (getQp t ch.qp).cqTail = ringNext (ringSize x.cqSize) x.cqTail ∧ (getQp t ch.qp).completed = x.completed + 1 ∧
      (getQp t ch.qp).cqReserved = x.cqReserved - 1 ∧ (∀ q, q ≠ ch.qp → getQp t q = getQp s q) ∧
      (∀ m, m ≠ c → getChain t m = getChain s m) ∧ t.keys.slots = s.keys.slots ∧
      t.energy = { s.energy with level := t.energy.level, smallPool := s.energy.smallPool - ch.small,
                                 largePool := s.energy.largePool - ch.large } ∧
      t.epochs.expiries = s.epochs.expiries + (if ch.status = 0x0601 then 1 else 0) ∧
      quiet t = quiet { s with
        disp := t.disp, chainMem := t.chainMem, epochs := { s.epochs with expiries := t.epochs.expiries }, engines := t.engines,
        energy := t.energy, flow := t.flow, host := t.host, keys := t.keys }) ∧
  (∀ (c : Nat) (s : State), (∀ ch, getChain s c = some ch → completionDue s ch = false) →
    ∃ t, exec (.completionWrite (some c)) s = .next t ∧ quiet t = quiet s) ∧
  (∀ (e : QueuedCompletion) (es : List QueuedCompletion) (x : QueuePair) (s : State), s.host.queued = e :: es →
    outOfTurn s e.qp e.finSeq = false → getQp s e.qp = x → maySend s x.fn = true → 1 ≤ s.flow.postedHdr →
    2 ≤ s.flow.postedData →
    ∃ t, exec (.completionWrite none) s = .next t ∧
      Sent.memWrite x.fn (x.cqBase * 4096 + 32 * x.cqTail)
        (completionEntry x e.tag e.status e.firstFail e.flags (zeros 12) 0 0) ∈ t.sent ∧
      t.host.queued = es ∧ (getQp t e.qp).cqTail = ringNext (ringSize x.cqSize) x.cqTail ∧
      (∀ q, q ≠ e.qp → getQp t q = getQp s q) ∧ quiet t = quiet { s with host := t.host }) ∧
  (∀ (s : State), s.host.queued = [] → ∃ t, exec (.completionWrite none) s = .next t ∧ quiet t = quiet s) ∧
  (∀ (headers data fn vector : Nat) (rest : List (Nat × Nat)) (s : State), s.host.posted = (fn, vector) :: rest →
    maySend s fn = true → s.flow.hdrReserve < s.flow.postedHdr + headers → s.flow.dataReserve < s.flow.postedData + data →
    ∃ t, exec (.postedCreditUpdate headers data) s = .next t ∧ msixMessage s fn vector ∈ t.sent ∧ quiet t = quiet s) ∧
  (∀ (headers data : Nat) (s : State), s.host.posted = [] →
    ∃ t, exec (.postedCreditUpdate headers data) s = .next t ∧ quiet t = quiet s) ∧
  (∀ (q due : Nat) (x : QueuePair) (s : State), getQp s q = x → x.modDue = some due → due ≤ s.disp.tick →
    maySend s x.fn = true → creditsAboveReserve s = true → x.vector ∈ (SMap.get Msix.reset s.host.msix x.fn).unmasked →
    ∃ t, exec (.moderationTimerExpiry q) s = .next t ∧
      msixMessage s x.fn x.vector ∈ t.sent ∧ getQp t q = { x with irqPending := 0, modDue := none } ∧
      (∀ p, p ≠ q → getQp t p = getQp s p) ∧ quiet t = quiet { s with host := t.host }) ∧
  (∀ (q : Nat) (s : State), (∀ due, (getQp s q).modDue = some due → s.disp.tick < due) →
    ∃ t, exec (.moderationTimerExpiry q) s = .next t ∧ quiet t = quiet s)

/-- From R181, R187, R188, R197, R199, R209, R229: at a tick edge the tick number, the limits written since the last edge, the
bucket and the ages of READY Links advance, whatever waits; energy accounts or an ownership table that are not sound are a Fatal
fault; no edge comes while the tick does not run. From R65, R199, R200, R228: a Chain that reaches its deadline with Links not
final is closed with 0x0601, and nothing of it waits any more; a working slot lock whose lease ends is released, counted and
logged; neither happens before its entry is the next of the delay list. Derived: where those rules leave an order, an encoding
or a value open, the clauses take the model's own choice, said in assumptions 33, 41, 84, 85 and 89. The clauses conclude that
exec answers a next state of the commands tick, chainExpiry, slotLockLeaseExpiry. -/
def Obligations.TicksAndDelayListTakeEffect : Prop :=
  (∀ (s : State), tickRuns s = true → energySound s = true → ownershipSound s = true →
    ∃ t, exec .tick s = .next t ∧
      t.disp.tick = s.disp.tick + 1 ∧ t.disp.ageLimits = s.disp.newAgeLimits ∧
      t.energy.limit = s.energy.newLimit.getD s.energy.limit ∧ t.energy.newLimit = none ∧ t.keys.slots = s.keys.slots ∧
      t.sec.deviceTime = s.sec.deviceTime ∧ t.life = s.life ∧ t.log.records = s.log.records ∧ t.faults = s.faults) ∧
  (∀ (s : State), tickRuns s = true → energySound s = true → ownershipSound s = true → s.disp.hold = none →
    (∀ x ∈ s.cores.cores, x.2.lending = none) →
    ∃ t, exec .tick s = .next t ∧
      t.energy.level = min (bucketCapacity (applyLimits s)) ((applyLimits s).energy.level + refillOf (applyLimits s)) ∧
      t.energy.heldTicks = s.energy.heldTicks + (if s.disp.heldNow || s.disp.holdAtEdge then 1 else 0) ∧
      (t.disp.due = [] → quiet t = quiet { s with
        modes := t.modes, boot := { s.boot with watchdogAt := s.sec.deviceTime.toNat }, disp := t.disp, energy := t.energy,
        host := t.host, tenants := t.tenants, cores := t.cores, tamper := { s.tamper with quietFor := t.tamper.quietFor } })) ∧
  (∀ (c n : Nat) (ch : Chain) (l : LinkWords) (r : LinkRun) (s : State), tickRuns s = true → energySound s = true →
    ownershipSound s = true → s.disp.hold = none → (∀ x ∈ s.cores.cores, x.2.lending = none) → getChain s c = some ch →
    ch.link n = some (l, r) → r.st = .ready →
    ∃ t, exec .tick s = .next t ∧ ((getChain t c).bind fun x => x.link n).map (fun y => (y.1, y.2.age)) = some (l, r.age + 1)) ∧
  (∀ (s : State), tickRuns s = true → energySound s = false → ownershipSound s = true →
    freshFatal s (faultCode 3 0x01 0x04) = true → ∃ t, exec .tick s = .next t ∧ FatalTaken (faultCode 3 0x01 0x04) [] t) ∧
  (∀ (s : State), tickRuns s = true → energySound s = true → ownershipSound s = false →
    freshFatal s (faultCode 3 0x01 0x05) = true → ∃ t, exec .tick s = .next t ∧ FatalTaken (faultCode 3 0x01 0x05) [] t) ∧
  (∀ (s : State), tickRuns s = false → ∃ t, exec .tick s = .next t ∧ quiet t = quiet s) ∧
  (∀ (c : Nat) (d : Due) (ch : Chain) (s : State), dueIs s .expiry c 0 = some d → getChain s c = some ch → ch.closed = false →
    ∃ t, exec (.chainExpiry c) s = .next t ∧
      (getChain t c).map (fun x => (x.closed, x.status, x.firstFail)) = some (true, 0x0601, 0xFF) ∧
      (∀ x, getChain t c = some x → ∀ r ∈ x.links, r.st ≠ .pending ∧ r.st ≠ .ready) ∧ d ∉ t.disp.due ∧
      quiet t = quiet { s with disp := t.disp, engines := t.engines, energy := t.energy, cores := t.cores }) ∧
  (∀ (c : Nat) (s : State), dueIs s .expiry c 0 = none → ∃ t, exec (.chainExpiry c) s = .next t ∧ quiet t = quiet s) ∧
  (∀ (slot : Nat) (d : Due) (l : SlotLock) (s : State), dueIs s .slotLock slot 0 = some d →
    SMap.find s.flow.locks slot = some l → logRoom s = true →
    ∃ t, exec (.slotLockLeaseExpiry slot) s = .next t ∧
      t.flow = { s.flow with
        locks := SMap.erase s.flow.locks slot, leaseExpiries := s.flow.leaseExpiries + 1, postedHdr := t.flow.postedHdr,
        postedData := t.flow.postedData } ∧ d ∉ t.disp.due ∧
      Logged t 0x0403 (natLE 2 l.holder ++ [0, 0] ++ natLE 4 slot) ∧
      quiet t = quiet { s with disp := { s.disp with due := t.disp.due }, flow := t.flow }) ∧
  (∀ (slot : Nat) (s : State), dueIs s .slotLock slot 0 = none →
    ∃ t, exec (.slotLockLeaseExpiry slot) s = .next t ∧ quiet t = quiet s)

/-- From R38, R188 to R193, R209: the draw correction follows the measured power, and a monitor out of range is withdrawn; a sample
sets the thermal factor, withdraws a sensor that differs, and is a Fatal fault at 115 °C; the warm-up ends; THROTTLED follows
the ticks held back; a power limit written takes effect later and is logged. Derived: where those rules leave an order, an
encoding or a value open, the clauses take the model's own choice, said in assumption 42. The clauses conclude that exec answers
a next state of the commands drawCorrectionUpdate, thermalSample, warmupEnd, throttledSet, throttledClear, powerLimitWrite. -/
def Obligations.EnergyGovernorFollowsDrawAndHeat : Prop :=
  (∀ (m : Nat) (s : State), tickRuns s = true → s.disp.tick % 1000 = 0 → s.energy.monitorOut = false →
    ∃ t, exec (.drawCorrectionUpdate (some m)) s = .next t ∧
      quiet t = quiet { s with energy := { s.energy with
        k := if m = 0 then 4096 else min 4096 (max 1024 (s.energy.k * s.energy.limit / m)) } }) ∧
  (∀ (s : State), tickRuns s = true → s.disp.tick % 1000 = 0 → s.energy.monitorOut = false →
    ∃ t, exec (.drawCorrectionUpdate none) s = .next t ∧
      t.energy = { s.energy with k := 2048, monitorOut := true } ∧ isWithdrawn 0x0F 8 t = true ∧ t.modes.word.degraded = true ∧
      quiet t = quiet { s with energy := t.energy, faults := t.faults, disp := t.disp }) ∧
  (∀ (measured : Option Nat) (s : State), tickRuns s = true → s.disp.tick % 1000 = 0 → s.energy.monitorOut = true →
    ∃ t, exec (.drawCorrectionUpdate measured) s = .next t ∧ quiet t = quiet { s with energy := { s.energy with k := 2048 } }) ∧
  (∀ (measured : Option Nat) (s : State), tickRuns s = false ∨ s.disp.tick % 1000 ≠ 0 →
    ∃ t, exec (.drawCorrectionUpdate measured) s = .next t ∧ quiet t = quiet s) ∧
  (∀ (temps : List Int) (s u : State), tickRuns s = true → temps.length = 8 →
    u = { s with energy := { s.energy with temps := temps, samples := min 100 (s.energy.samples + 1) } } →
    (sensorsUsed u).all (fun x => !sensorOff (sensorsUsed u) x) = true → junctionOf u < 230 →
    ∃ t, exec (.thermalSample temps) s = .next t ∧ quiet t = quiet { u with energy := { u.energy with
      junction := junctionOf u, d := if (sensorsUsed u).length < 4 then 2048 else thermalFactor (junctionOf u),
      level := if 4 ≤ (sensorsUsed u).length ∧ thermalFactor (junctionOf u) = 0 then 0 else u.energy.level } }) ∧
  (∀ (temps : List Int) (s u : State), tickRuns s = true → temps.length = 8 →
    u = { s with energy := { s.energy with temps := temps, samples := min 100 (s.energy.samples + 1) } } →
    (sensorsUsed u).all (fun x => !sensorOff (sensorsUsed u) x) = true → 230 ≤ junctionOf u →
    freshFatal s (faultCode 3 0x0F 0x01) = true →
    ∃ t, exec (.thermalSample temps) s = .next t ∧ FatalTaken (faultCode 3 0x0F 0x01) [] t ∧ t.energy.junction = junctionOf u) ∧
  (∀ (temps : List Int) (i : Nat) (v : Int) (s u : State), tickRuns s = true → temps.length = 8 →
    u = { s with energy := { s.energy with temps := temps, samples := min 100 (s.energy.samples + 1) } } →
    (sensorsUsed u).filter (sensorOff (sensorsUsed u)) = [(i, v)] →
    ∃ t, exec (.thermalSample temps) s = .next t ∧
      isWithdrawn 0x0F i t = true ∧ t.energy.sensorsOut = u.energy.sensorsOut ||| 2 ^ i ∧ t.modes.word.degraded = true) ∧
  (∀ (temps : List Int) (s : State), tickRuns s = false ∨ temps.length ≠ 8 →
    ∃ t, exec (.thermalSample temps) s = .next t ∧ quiet t = quiet s) ∧
  (∀ (s : State), 100 ≤ s.energy.samples →
    ∃ t, exec .warmupEnd s = .next t ∧ grantFactor t = min 4096 s.energy.d ∧ quiet t = quiet s) ∧
  (∀ (s : State), 1000 ≤ s.modes.heldRun → s.modes.word.doze = false →
    ∃ t, exec .throttledSet s = .next t ∧ t.modes.word.throttled = true ∧ quiet t = quiet s) ∧
  (∀ (s : State), s.modes.heldRun < 1000 ∨ s.modes.word.doze = true →
    ∃ t, exec .throttledSet s = .next t ∧ (s.modes.word.throttled = false → t.modes.word.throttled = false) ∧
      quiet t = quiet s) ∧
  (∀ (s : State), 1000 ≤ s.modes.quietRun →
    ∃ t, exec .throttledClear s = .next t ∧ t.modes.word.throttled = false ∧ quiet t = quiet s) ∧
  (∀ (s : State), s.modes.quietRun < 1000 →
    ∃ t, exec .throttledClear s = .next t ∧ (s.modes.word.doze = false → t.modes.word.throttled = s.modes.word.throttled) ∧
      quiet t = quiet s) ∧
  (∀ (src : Src) (given value : Bytes) (s : State) (p : Path), reaches src given s p 0x2000 0x02 value = true →
    logRoom s = true →
    ∃ t, exec (.powerLimitWrite src given) s = .next t ∧
      t.energy = { s.energy with newLimit := some (leNat value) } ∧
      Logged t 0x0103 (natLE 2 (s.energy.newLimit.getD s.energy.limit) ++ natLE 2 (leNat value)) ∧
      quiet t = quiet { s with energy := t.energy })

/-- From R43, R67, R68, R71, R300, R523: a commit that nothing refuses makes the shadow set the configuration of a new epoch and is
logged, and EPOCH-SWITCH is set while Chains are in flight; one that finds the settling before it still running waits for it; a
refused commit shows why and changes nothing else; when no Chain of the old epoch remains EPOCH-SWITCH clears and the old bodies
go; a commit that waited takes effect at the end of settling. From R69 to R71: action 1 fetches a body of legal length from host
memory, and shows why it fetches none; action 2 stages a clear; a fetched body without fault for which buffers are granted is
staged, one with faults is refused with the lowest of their statuses, one without buffers with 0x0401, and a failed read with
0x010A. Derived: where those rules leave an order, an encoding or a value open, the clauses take the model's own choice, said in
assumptions 44, 46 and 83. The clauses conclude that exec answers a next state of the commands commit, epochDrained,
settlingComplete, templateStageLoad, templateStageClear, templateBodyFetch. -/
def Obligations.EpochsCommitDrainAndTemplatesLoad : Prop :=
  (∀ (src : Src) (s : State) (p : Path), reaches src [1] s p 0x2100 0x05 [1] = true → commitRefused s = 0 →
    s.epochs.settling = false → evlogFull s = false →
    ∃ t, exec (.commit src) s = .next t ∧
      t.epochs.current = s.epochs.current + 1 ∧ t.epochs.old = s.epochs.current ∧ t.epochs.config = mergedConfig s ∧
      t.epochs.staged = Staged.none ∧ t.epochs.commitResult = 0 ∧ t.disp.chains = s.disp.chains ∧
      Logged t 0x0102 (natLE 2 s.epochs.current.toNat ++ natLE 2 (s.epochs.current + 1).toNat) ∧
      (s.disp.chains.isEmpty = false → t.modes.word.epochSwitch = true ∧ t.epochs.oldConfig = s.epochs.config ∧
        quiet t = quiet { s with epochs := t.epochs, tenants := t.tenants, clasp := t.clasp, twin := t.twin })) ∧
  (∀ (src : Src) (s : State) (p : Path), reaches src [1] s p 0x2100 0x05 [1] = true → commitRefused s = 0 →
    s.epochs.settling = true →
    ∃ t, exec (.commit src) s = .next t ∧ quiet t = quiet { s with epochs := { s.epochs with commitWaits := true } }) ∧
  (∀ (src : Src) (s : State) (p : Path), reaches src [1] s p 0x2100 0x05 [1] = true → commitRefused s ≠ 0 →
    ∃ t, exec (.commit src) s = .next t ∧
      quiet t = quiet { s with epochs := { s.epochs with commitResult := commitRefused s } }) ∧
  (∀ (s : State), s.modes.word.epochSwitch = true → (chainsWhere s fun ch => decide (ch.epoch = s.epochs.old.toNat)) = [] →
    s.modes.word.doze = false →
    ∃ t, exec .epochDrained s = .next t ∧
      t.modes.word.epochSwitch = false ∧ (∀ x ∈ t.epochs.templates, x.2.oldBody = none ∧ x.2.oldBuffers = []) ∧
      t.epochs.current = s.epochs.current ∧ t.epochs.oldConfig = s.epochs.config ∧
      (∀ n, n ∉ s.keys.staging → getSlot t n = getSlot s n) ∧
      quiet t = quiet { s with epochs := t.epochs, flow := t.flow, tenants := t.tenants, keys := t.keys, clasp := t.clasp,
                               twin := t.twin }) ∧
  (∀ (s : State), s.modes.word.epochSwitch = false ∨
      (chainsWhere s fun ch => decide (ch.epoch = s.epochs.old.toNat)).isEmpty = false →
    ∃ t, exec .epochDrained s = .next t ∧ t.modes.word.epochSwitch = s.modes.word.epochSwitch ∧ quiet t = quiet s) ∧
  (∀ (s : State), s.epochs.settling = true → s.epochs.commitWaits = false →
    ∃ t, exec .settlingComplete s = .next t ∧ quiet t = quiet { s with epochs := { s.epochs with settling := false } }) ∧
  (∀ (s : State), s.epochs.settling = true → s.epochs.commitWaits = true →
    ∃ t, exec .settlingComplete s = .next t ∧
      t.epochs.current = s.epochs.current + 1 ∧ t.epochs.old = s.epochs.current ∧ t.epochs.config = mergedConfig s ∧
      t.epochs.staged = Staged.none ∧ t.epochs.commitWaits = false ∧ t.disp.chains = s.disp.chains ∧
      (s.disp.chains.isEmpty = false → t.modes.word.epochSwitch = true ∧
        quiet t = quiet { s with epochs := t.epochs, tenants := t.tenants, clasp := t.clasp, twin := t.twin })) ∧
  (∀ (s : State), s.epochs.settling = false → ∃ t, exec .settlingComplete s = .next t ∧ quiet t = quiet s) ∧
  (∀ (src : Src) (s : State) (p : Path), reaches src [1] s p 0x2102 0x05 [1] = true → s.host.linkUp = true →
    96 ≤ s.epochs.record.len →
    ∃ t, exec (.templateStageLoad src) s = .next t ∧
      (s.host.reads = [] → maySend s 0 = true → s.epochs.record.len ≤ 4096 - s.epochs.record.addr % 4096 →
        Sent.memRead 0 s.epochs.record.addr s.epochs.record.len ∈ t.sent) ∧
      t.host.reads.map (fun r => (r.ident, r.kind, r.fn, r.addr, r.len)) =
        s.host.reads.map (fun r => (r.ident, r.kind, r.fn, r.addr, r.len)) ++
        [(s.host.readSeq, .template s.epochs.record.slot s.epochs.record.owner, 0, s.epochs.record.addr,
          s.epochs.record.len)] ∧
      quiet t = quiet { s with host := t.host }) ∧
  (∀ (src : Src) (s : State) (p : Path), reaches src [1] s p 0x2102 0x05 [1] = true →
    s.host.linkUp = false ∨ s.epochs.record.len < 96 →
    ∃ t, exec (.templateStageLoad src) s = .next t ∧
      t.epochs.record.result = (if s.host.linkUp then 0x0102 else 0x010A) ∧
      quiet t = quiet { s with epochs := { s.epochs with record := t.epochs.record } }) ∧
  (∀ (src : Src) (s : State) (p : Path), reaches src [2] s p 0x2102 0x05 [2] = true →
    ∃ t, exec (.templateStageClear src) s = .next t ∧
      (SMap.get Template.empty t.epochs.templates s.epochs.record.slot).staged = some none ∧ t.epochs.record.result = 0 ∧
      (∀ n, n ≠ s.epochs.record.slot →
        SMap.get Template.empty t.epochs.templates n = SMap.get Template.empty s.epochs.templates n) ∧
      quiet t = quiet { s with epochs := { s.epochs with templates := t.epochs.templates, record := t.epochs.record },
                               flow := t.flow, clasp := t.clasp, twin := t.twin }) ∧
  (∀ (ident slot owner fn addr len : Nat) (sent : Bool) (bytes : Bytes) (bs : List Nat) (s : State),
    findRead s ident = some ⟨ident, .template slot owner, fn, addr, len, sent⟩ → templateFaults s (padTo len bytes) = [] →
    quotaCovers s owner (ceilDiv len 256) = true → allocate s owner (ceilDiv len 256) = some bs →
    ∃ t, exec (.templateBodyFetch ident (.data bytes)) s = .next t ∧
      (SMap.get Template.empty t.epochs.templates slot).staged = some (some (owner, bodyOfBytes (padTo len bytes), bs)) ∧
      (∀ n, n ≠ slot → SMap.get Template.empty t.epochs.templates n = SMap.get Template.empty s.epochs.templates n) ∧
      t.epochs.record.result = 0 ∧
      quiet t = quiet { s with epochs := { s.epochs with templates := t.epochs.templates, record := t.epochs.record },
                               flow := t.flow, host := t.host, clasp := t.clasp, twin := t.twin, freeUses := t.freeUses }) ∧
  (∀ (ident slot owner fn addr len f : Nat) (sent : Bool) (fs : List Nat) (bytes : Bytes) (s : State),
    findRead s ident = some ⟨ident, .template slot owner, fn, addr, len, sent⟩ → templateFaults s (padTo len bytes) = f :: fs →
    ∃ t, exec (.templateBodyFetch ident (.data bytes)) s = .next t ∧
      t.epochs.record.result = fs.foldl min f ∧
      quiet t = quiet { s with host := t.host, epochs := { s.epochs with record := t.epochs.record } }) ∧
  (∀ (ident slot owner fn addr len : Nat) (sent : Bool) (bytes : Bytes) (s : State),
    findRead s ident = some ⟨ident, .template slot owner, fn, addr, len, sent⟩ → templateFaults s (padTo len bytes) = [] →
    quotaCovers s owner (ceilDiv len 256) = false ∨ allocate s owner (ceilDiv len 256) = none →
    ∃ t, exec (.templateBodyFetch ident (.data bytes)) s = .next t ∧
      t.epochs.record.result = 0x0401 ∧
      quiet t = quiet { s with host := t.host, flow := t.flow, epochs := { s.epochs with record := t.epochs.record } }) ∧
  (∀ (ident slot owner fn addr len : Nat) (sent : Bool) (answer : ReadAnswer) (s : State),
    findRead s ident = some ⟨ident, .template slot owner, fn, addr, len, sent⟩ →
    (answer = .unsupported ∨ answer = .completerAbort ∨ answer = .poison) →
    ∃ t, exec (.templateBodyFetch ident answer) s = .next t ∧
      t.epochs.record.result = 0x010A ∧
      quiet t = quiet { s with host := t.host, epochs := { s.epochs with record := t.epochs.record } })

/-- From R38, R39, R43, R380, R557, R583 to R585: the permission for SERVICE is taken; the part enters DOZE when it has been idle
long enough, goes to depth 2 with its engines cleared when nothing limits it to depth 1, and wakes with the banks powered down
cleared and nothing else lost; it enters neither depth while a condition fails. From R223, R226: a wait past its threshold sets
its flag, is logged and tells the manager, and a 1 written to a flag clears it; the contexts of revoked Chains of an owner with
no Link ISSUED are freed with their buffers, and no other Chain is touched. Derived: where those rules leave an order, an
encoding or a value open, the clauses take the model's own choice, said in assumptions 37, 77 and 88. The clauses conclude that
exec answers a next state of the commands serviceEnableWrite, dozeDepth1Entry, dozeDepth2Entry, dozeWake, starvationDetected,
starvationFlagClear, revocationComplete. -/
def Obligations.DozeStarvationAndRevocation : Prop :=
  (∀ (src : Src) (given value : Bytes) (s : State) (p : Path), reaches src given s p 0x1200 0x04 value = true →
    ∃ t, exec (.serviceEnableWrite src given) s = .next t ∧
      quiet t = quiet { s with modes := { s.modes with serviceEnable := decide (leNat value = 1) }, clasp := t.clasp,
                               twin := t.twin }) ∧
  (∀ (s : State), decoded s = true → s.modes.word.doze = false → s.modes.word.epochSwitch = false → s.modes.dozePermission ≠ 0 →
    partIdle s = true → s.modes.dozeIdle1 ≤ s.modes.idleFor → testsIdle s = true →
    ∃ t, exec .dozeDepth1Entry s = .next t ∧
      t.modes.word.doze = true ∧ t.modes.word.dozeDepth = 1 ∧ t.modes.word.throttled = false ∧ quiet t = quiet s) ∧
  (∀ (s : State), s.modes.word.doze = true ∨ s.modes.word.epochSwitch = true ∨ s.modes.dozePermission = 0 ∨ partIdle s = false ∨
      s.modes.idleFor < s.modes.dozeIdle1 ∨ testsIdle s = false →
    ∃ t, exec .dozeDepth1Entry s = .next t ∧ (s.modes.word.doze = false → t.modes.word.doze = false) ∧ quiet t = quiet s) ∧
  (∀ (s : State), s.modes.word.doze = true → s.modes.word.dozeDepth = 1 → s.modes.word.epochSwitch = false →
    s.modes.dozePermission = 2 → partIdle s = true →
    s.modes.dozeIdle2 ≤ s.modes.idleFor → testsIdle s = true → pairedNow s = false → updateNow s = false →
      nothingSoon s = true →
    ∃ t, exec .dozeDepth2Entry s = .next t ∧
      t.modes.word.doze = true ∧ t.modes.word.dozeDepth = 2 ∧ t.modes.dozeAt = s.sec.deviceTime.toNat ∧
      t.modes.wakeTimer = wakeTime s ∧ t.modes.banksOff = idleBanks s ∧
      t.engines.lanes = [] ∧ t.engines.hashes = [] ∧ t.engines.pke = [] ∧ t.engines.lattice = [] ∧
      quiet t = quiet { s with modes := { s.modes with dozeAt := t.modes.dozeAt, wakeTimer := t.modes.wakeTimer,
                                                       banksOff := t.modes.banksOff }, engines := t.engines }) ∧
  (∀ (s : State), s.modes.word.doze = false ∨ s.modes.dozePermission ≠ 2 ∨ partIdle s = false ∨
      s.modes.idleFor < s.modes.dozeIdle2 ∨ testsIdle s = false ∨ pairedNow s = true ∨ updateNow s = true ∨
      nothingSoon s = false →
    ∃ t, exec .dozeDepth2Entry s = .next t ∧ quiet t = quiet s) ∧
  (∀ (s : State), s.modes.word.doze = true →
    ∃ t, exec .dozeWake s = .next t ∧
      t.modes.word.doze = false ∧ t.modes.word.dozeDepth = 0 ∧ t.modes.wakeTimer = none ∧
      t.disp.tick = (if s.modes.word.dozeDepth = 2 then s.disp.tick + dozeElapsed s else s.disp.tick) ∧
      (s.modes.word.dozeDepth = 2 → t.energy.samples = 0 ∧ t.modes.banksOff = []) ∧
      (∀ a, s.modes.word.dozeDepth = 2 → Memory.read t.chainMem a =
        (if a / 0x40000 ∈ s.modes.banksOff then 0 else Memory.read s.chainMem a)) ∧
      (s.modes.word.dozeDepth ≠ 2 → t.chainMem = s.chainMem ∧ t.rng = s.rng) ∧
      quiet t = quiet { s with modes := t.modes, disp := t.disp, energy := t.energy, boot := t.boot, rng := t.rng,
                               chainMem := t.chainMem }) ∧
  (∀ (s : State), s.modes.word.doze = false → ∃ t, exec .dozeWake s = .next t ∧ quiet t = quiet s) ∧
  (∀ (arbiter requester bank wait flag : Nat) (s : State), arbiter < 4 → requester < [8, 3, 4, 4].getD arbiter 0 → bank < 32 →
    s.flow.thresholds.getD arbiter 0 < wait → flag = (if arbiter = 0 then 8 * (bank / 8) + requester else requester) →
    logRoom s = true →
    ∃ t, exec (.starvationDetected arbiter requester bank wait) s = .next t ∧
      t.flow.flags = setAt s.flow.flags arbiter (s.flow.flags.getD arbiter 0 ||| 2 ^ flag) ∧
      Logged t 0x0601 [byte arbiter, byte requester, byte bank] ∧ t.host.causes.getLsbD 1 = true ∧
      quiet t = quiet { s with flow := { s.flow with flags := t.flow.flags } }) ∧
  (∀ (arbiter requester bank wait : Nat) (s : State),
    4 ≤ arbiter ∨ [8, 3, 4, 4].getD arbiter 0 ≤ requester ∨ 32 ≤ bank ∨ wait ≤ s.flow.thresholds.getD arbiter 0 →
    ∃ t, exec (.starvationDetected arbiter requester bank wait) s = .next t ∧ quiet t = quiet s) ∧
  (∀ (src : Src) (arbiter : Nat) (given value : Bytes) (s : State) (p : Path), arbiter < 4 →
    reaches src given s p 0x2200 (0x14 + arbiter) value = true →
    ∃ t, exec (.starvationFlagClear src arbiter given) s = .next t ∧
      quiet t = quiet { s with flow := { s.flow with
        flags := setAt s.flow.flags arbiter
          (s.flow.flags.getD arbiter 0 - (s.flow.flags.getD arbiter 0 &&& leNat value)) } }) ∧
  (∀ (owner : Nat) (s : State),
    (∀ x ∈ s.disp.chains, (chainTag x.1 = owner ∨ functionTag x.2.fn = owner) → x.2.revoked = true →
      revocationDone x.2 = true) →
    ∃ t, exec (.revocationComplete owner) s = .next t ∧
      (∀ c ch, getChain s c = some ch → (chainTag c = owner ∨ functionTag ch.fn = owner) → ch.revoked = true →
        getChain t c = none ∧ ∀ b ∈ ch.buffers, SMap.find t.flow.buffers b = none) ∧
      (∀ c, (∀ x ∈ s.disp.chains, x.1 = c → (chainTag x.1 = owner ∨ functionTag x.2.fn = owner) → x.2.revoked = false) →
        getChain t c = getChain s c) ∧ t.keys.slots = s.keys.slots ∧
      quiet t = quiet { s with disp := t.disp, chainMem := t.chainMem, engines := t.engines, energy := t.energy, flow := t.flow,
                               host := t.host, keys := t.keys }) ∧
  (∀ (owner : Nat) (s : State),
    (∃ x ∈ s.disp.chains, (chainTag x.1 = owner ∨ functionTag x.2.fn = owner) ∧ x.2.revoked = true ∧
      revocationDone x.2 = false) →
    ∃ t, exec (.revocationComplete owner) s = .next t ∧ quiet t = quiet s)

/-- From R36, R273 to R277: the next message of a mailbox, when it is a read that nothing refuses, is answered with RESULT zero and
the value of the entry, DOZE as it stood when the read arrived; one of wrong form is answered 0x02 and one that the entry
refuses with its reason; while LOCKED is set a read of any entry but the Mode Word, and every write, is answered 0x07, and a
write to a standby 0x08, with no effect on what the message names; a message that is not next is not executed. From R276, R277,
R522, R524: a write that reaches an entry with no row of its own makes the entry hold the value, a staged entry in the shadow
set; a staging length of another path's staging is refused as in the wrong state. Derived: where those rules leave an order, an
encoding or a value open, the clauses take the model's own choice, said in assumptions 45 and 75. The clauses conclude that exec
answers a next state of the commands odRead, odWrite. -/
def Obligations.MailboxMessagesExecuteAndAreRefused : Prop :=
  (∀ (fn slot : Nat) (v : MailSlot) (value : Bytes) (s u : State), v = mailSlot s fn slot → mailNext s fn slot = true →
    v.command = 1 → u = wake s → readForm v = true → lockedNow u = false →
    asArrived v.depth (bodyIndex v) (bodySub v) (readEntry u (.mailbox fn) 240 (bodyIndex v) (bodySub v)) = (0, value) →
    (∀ h ∈ s.dict.held, h.path ≠ .mailbox fn) →
    ∃ t, exec (.odRead fn slot) s = .next t ∧
      (mailSlot t fn slot).state = 3 ∧ (mailSlot t fn slot).result = 0 ∧ (mailSlot t fn slot).seq = v.seq ∧
      (mailSlot t fn slot).body = value ∧ quiet t = quiet u) ∧
  (∀ (fn slot r : Nat) (v : MailSlot) (s u : State), v = mailSlot s fn slot → mailNext s fn slot = true → v.command = 1 →
    u = wake s → (∀ h ∈ s.dict.held, h.path ≠ .mailbox fn) →
    (lockedNow u = true ∧ ¬(bodyIndex v = 0x1200 ∧ bodySub v = 1) ∧ r = 7 ∨
      lockedNow u = false ∧ readForm v = false ∧ r = 2 ∨
      lockedNow u = false ∧ readForm v = true ∧
        readEntry u (.mailbox fn) 240 (bodyIndex v) (bodySub v) = (r, []) ∧ r ≠ 0) →
    ∃ t, exec (.odRead fn slot) s = .next t ∧
      (mailSlot t fn slot).state = 3 ∧ (mailSlot t fn slot).result = r % 256 ∧ (mailSlot t fn slot).body = [] ∧
      quiet t = quiet u) ∧
  (∀ (fn slot : Nat) (s : State), mailNext s fn slot = false ∨ (mailSlot s fn slot).command ≠ 1 →
    ∃ t, exec (.odRead fn slot) s = .next t ∧ quiet t = quiet s) ∧
  (∀ (fn slot r : Nat) (v : MailSlot) (s u : State), v = mailSlot s fn slot → mailNext s fn slot = true → v.command = 2 →
    u = wake s → hasRow (bodyIndex v) (bodySub v) (bodyValue v) = false → (∀ h ∈ s.dict.held, h.path ≠ .mailbox fn) →
    (lockedNow u = true ∧ r = 7 ∨ lockedNow u = false ∧ standbyNow u = true ∧ r = 8 ∨
      lockedNow u = false ∧ standbyNow u = false ∧ 4 ≤ v.length ∧ bodyZero v = true ∧
        writeRefused u (.mailbox fn) (bodyIndex v) (bodySub v) (bodyValue v) = some r) →
    ∃ t, exec (.odWrite fn slot) s = .next t ∧
      (mailSlot t fn slot).state = 3 ∧ (mailSlot t fn slot).result = r % 256 ∧
      quiet t = quiet (if bodyIndex v = 0x3000 ∧ bodySub v = 0xB ∧
        r = 5 then { u with keys := { u.keys with zeroiseResult := 2 } }
        else u)) ∧
  (∀ (fn slot : Nat) (s : State), mailNext s fn slot = false ∨ (mailSlot s fn slot).command ≠ 2 →
    ∃ t, exec (.odWrite fn slot) s = .next t ∧ quiet t = quiet s) ∧
  (∀ (fn slot index sub : Nat) (value : Bytes) (s u : State), u = wake s → mailNext s fn slot = true →
    reaches (.message fn slot) [] u (.mailbox fn) index sub value = true → hasRow index sub value = false →
    inConfigSet index sub = false → ¬(index = 0x9000 ∧ sub = 6 ∧ otherPath u (.mailbox fn) = true) →
    ∃ t, exec (.odWrite fn slot) s = .next t ∧ quiet t = quiet (storeValue (.mailbox fn) index sub value u)) ∧
  (∀ (fn slot index sub : Nat) (value : Bytes) (s u : State), u = wake s → mailNext s fn slot = true →
    reaches (.message fn slot) [] u (.mailbox fn) index sub value = true → hasRow index sub value = false →
    stagedEntry index sub = true →
    ∃ t, exec (.odWrite fn slot) s = .next t ∧ quiet t = quiet (writeStaged index sub value u)) ∧
  (∀ (fn slot : Nat) (value : Bytes) (s u : State), u = wake s → mailNext s fn slot = true →
    reaches (.message fn slot) [] u (.mailbox fn) 0x9000 6 value = true → otherPath u (.mailbox fn) = true →
    ∃ t, exec (.odWrite fn slot) s = .next t ∧ quiet t = quiet u)

/-- From R36, R70, R210, R230, R255, R283, R320, R504, R521, R522, R568: an entry that holds what is written reads back as the value
written, whatever the path, with every other part of the machine left as it is. Derived: where those rules leave an order, an
encoding or a value open, the clauses take the model's own choice, said in assumptions 5 and 72. -/
def Obligations.WrittenEntriesReadBack : Prop :=
  (∀ (p : Path) (s : State) (value : Bytes),
    ∀ e ∈ ([(0x1000, 0x11, 1), (0x1001, 2, 4), (0x1200, 5, 4), (0x1200, 6, 4), (0x1200, 7, 4), (0x1200, 8, 1), (0x2102, 1, 2),
      (0x2102, 2, 2), (0x2102, 3, 8), (0x2102, 4, 2),
      (0x2103, 3, 4), (0x2200, 1, 4), (0x2200, 2, 4), (0x2200, 3, 2), (0x2200, 4, 2), (0x2200, 0x20, 2), (0x2200, 0x21, 2),
        (0x2200, 0x22, 4), (0x3000, 6, 4), (0x3001, 1, 4),
      (0x3002, 1, 1), (0x3003, 1, 1), (0x3003, 2, 8), (0x3003, 3, 1), (0x4020, 1, 2), (0x4020, 2, 2), (0x4020, 3, 2),
      (0x4020, 4, 8), (0x4020, 5, 8), (0x4020, 6, 8), (0x4020, 7, 2), (0x4020, 8, 2), (0x4020, 9, 2), (0x4020, 0xA, 2),
      (0x4100, 1, 2), (0x4100, 2, 4), (0x4100, 3, 2), (0x4100, 4, 4), (0x4100, 5, 4), (0x4100, 6, 4), (0x4100, 7, 2),
      (0x4100, 8, 2), (0x6100, 3, 1), (0x6100, 8, 4), (0x6100, 0xA, 4), (0x6200, 3, 4), (0x6300, 3, 4), (0x7000, 0xB, 4),
      (0x7100, 5, 97), (0x7100, 6, 8), (0x7100, 7, 2), (0x7100, 9, 192), (0x7801, 1, 1), (0x8000, 2, 4), (0x8000, 3, 4),
      (0x8010, 1, 1), (0x9000, 5, 8), (0x9000, 6, 4), (0x9000, 9, 4)] : List (Nat × Nat × Nat)),
    value.length = e.2.2 → valueInRange s e.1 e.2.1 value = true →
    odValue (storeValue p e.1 e.2.1 value s) p e.1 e.2.1 = value) ∧
  (∀ (p : Path) (s : State) (n : Nat) (value : Bytes), n < 0x400 → value.length = 32 →
    odValue (storeValue p (0x5000 + n) 0x11 value s) p (0x5000 + n) 0x11 = value) ∧
  (∀ (p : Path) (s : State) (n : Nat) (value : Bytes), n < 4 → value.length = 4 →
    storeValue p 0x2101 (1 + n) value s =
      { s with disp := { s.disp with newAgeLimits := setAt s.disp.newAgeLimits n (leNat value) } } ∧
    storeValue p 0x2200 (0x10 + n) value s =
      { s with flow := { s.flow with thresholds := setAt s.flow.thresholds n (leNat value) } } ∧
    odValue s p 0x2101 (1 + n) = natLE 4 (s.disp.newAgeLimits.getD n 0) ∧
    odValue s p 0x2200 (0x10 + n) = natLE 4 (s.flow.thresholds.getD n 0)) ∧
  (∀ (p : Path) (s : State) (index sub : Nat) (value : Bytes), perPath index sub = false → stagedEntry index sub = false →
    storeValue p index sub value s = takeSettings (storeValue p index sub value s) s) ∧
  (∀ (p : Path) (s : State) (index sub : Nat) (value : Bytes), perPath index sub = true →
    ∃ paths, storeValue p index sub value s = { s with dict := { s.dict with paths := paths } })

/-- From R291, R300, R320: an action on the slot that a function has selected deletes it at once, marks it as leaving at the next
epoch, or clears a BAD slot; a refused action shows why and changes nothing else. Derived: where those rules leave an order, an
encoding or a value open, the clauses take the model's own choice, said in assumptions 44 and 47. The clauses conclude that exec
answers a next state of the commands slotDeleteNow, slotStageDelete, slotZeroiseBad. -/
def Obligations.SlotActionsChangeOneSlot : Prop :=
  (∀ (src : Src) (s : State) (p : Path) (n : Nat), reaches src [1] s p 0x3001 5 [1] = true → n = selectedSlot s (pathFn p) →
    slotActionResult s (pathFn p) n [.valid, .bad] false = 0 →
    ∃ t, exec (.slotDeleteNow src) s = .next t ∧
      (getSlot t n).state = .empty ∧ (∀ m, m ≠ n → getSlot t m = getSlot s m) ∧ n ∉ t.keys.staging ∧
      (∀ e ∈ t.keys.entries, e.2.1 ≠ n) ∧ (SMap.get { slot := 0, result := 0 } t.keys.selects (pathFn p)).result = 0 ∧
      quiet t = quiet { s with keys := t.keys, clasp := t.clasp, twin := t.twin }) ∧
  (∀ (src : Src) (s : State) (p : Path) (n : Nat), reaches src [2] s p 0x3001 5 [2] = true → n = selectedSlot s (pathFn p) →
    slotActionResult s (pathFn p) n [.valid] true = 0 →
    ∃ t, exec (.slotStageDelete src) s = .next t ∧
      (attrOfWord (getSlot t n).attr).mark = 2 ∧ (getSlot t n).key = (getSlot s n).key ∧
        (getSlot t n).state = (getSlot s n).state ∧
      t.keys.staging = s.keys.staging ++ [n] ∧ (∀ m, m ≠ n → getSlot t m = getSlot s m) ∧
      t.keys.entries = s.keys.entries ∧ quiet t = quiet { s with keys := t.keys, clasp := t.clasp, twin := t.twin }) ∧
  (∀ (src : Src) (s : State) (p : Path) (n : Nat), reaches src [3] s p 0x3001 5 [3] = true → n = selectedSlot s (pathFn p) →
    slotActionResult s (pathFn p) n [.bad] false = 0 →
    ∃ t, exec (.slotZeroiseBad src) s = .next t ∧
      (getSlot t n).state = .empty ∧ (∀ m, m ≠ n → getSlot t m = getSlot s m) ∧ n ∉ t.keys.staging ∧
      (∀ e ∈ t.keys.entries, e.2.1 ≠ n) ∧ quiet t = quiet { s with keys := t.keys, clasp := t.clasp, twin := t.twin }) ∧
  (∀ (src : Src) (s : State) (p : Path) (r : Nat), ∀ y ∈ ([
      (.slotDeleteNow src, 1, [.valid, .bad], false), (.slotStageDelete src, 2, [.valid], true),
      (.slotZeroiseBad src, 3, [.bad], false)] : List (Instr × Nat × List SlotState × Bool)),
    reaches src [byte y.2.1] s p 0x3001 5 [byte y.2.1] = true →
    slotActionResult s (pathFn p) (selectedSlot s (pathFn p)) y.2.2.1 y.2.2.2 = r → r ≠ 0 →
    ∃ t, exec y.1 s = .next t ∧ quiet t = quiet (slotResult (pathFn p) r s))

/-- From R296, R303, R304, R317: zeroisation is refused while SERVICE is set; value 1 clears every working slot, value 2 the vault
with them, and either is logged; a floor that is due is queued; re-masking, once at each second, leaves every vault key as it
was; the device root returns when no source has been live for 1 ms. Derived: where those rules leave an order, an encoding or a
value open, the clauses take the model's own choice, said in assumptions 23, 44 and 94. The clauses conclude that exec answers a
next state of the commands zeroiseWorkingSlots, zeroiseAllKeys, floorWrite, vaultRemaskCycle, rootReconstruct. -/
def Obligations.KeysZeroisedFlooredAndRemasked : Prop :=
  (∀ (src : Src) (s : State) (p : Path), reaches src [1] s p 0x3000 0xB [1] = true → s.modes.word.service = false →
    evlogFull s = false →
    ∃ t, exec (.zeroiseWorkingSlots src) s = .next t ∧
      t.keys.slots = [] ∧ t.keys.staging = [] ∧ t.keys.zeroiseResult = 0 ∧ t.keys.vault = s.keys.vault ∧
      t.keys.entries = s.keys.entries ∧ Logged t 0x0404 ([1] ++ natLE 2 0) ∧
      quiet t = quiet { s with keys := t.keys, custody := t.custody, clasp := t.clasp, twin := t.twin }) ∧
  (∀ (src : Src) (s : State) (p : Path), ∀ y ∈ ([(.zeroiseWorkingSlots src, 1), (.zeroiseAllKeys src, 2)] : List (Instr × Nat)),
    reaches src [byte y.2] s p 0x3000 0xB [byte y.2] = true → s.modes.word.service = true →
    ∃ t, exec y.1 s = .next t ∧ quiet t = quiet { s with keys := { s.keys with zeroiseResult := 1 } }) ∧
  (∀ (src : Src) (s : State) (p : Path), reaches src [2] s p 0x3000 0xB [2] = true → s.modes.word.service = false →
    evlogFull s = false →
    ∃ t, exec (.zeroiseAllKeys src) s = .next t ∧
      t.keys.slots = [] ∧ t.keys.vault = [] ∧ t.keys.entries = [] ∧ t.keys.zeroiseResult = 0 ∧ t.sec.pair = none ∧
      t.sec.domainId = 0 ∧ t.modes.word.paired = false ∧ Logged t 0x0404 ([2] ++ natLE 2 0)) ∧
  (∀ (n e f : Nat) (s : State), floorDue s n = true → entryOf s n = some (e, f) → noncesLeft s = true →
    ∃ t, exec (.floorWrite n) s = .next t ∧
      t.keys.floorWrites = s.keys.floorWrites ++ [⟨n, floorFor s (getSlot s n).attr, e / 4⟩] ∧
      pageWaiting t .keys (e / 4) = true ∧ entryOf t n = some (e, f) ∧
      quiet t = quiet { s with engines := { s.engines with invocation := t.engines.invocation },
                               keys := { s.keys with entries := t.keys.entries, floorWrites := t.keys.floorWrites } }) ∧
  (∀ (n : Nat) (s : State), floorDue s n = false → ∃ t, exec (.floorWrite n) s = .next t ∧ quiet t = quiet s) ∧
  (∀ (s : State), s.sec.deviceTime.toNat % 32768 = 0 → s.keys.remaskedAt ≠ some s.sec.deviceTime.toNat →
    ∃ t, exec .vaultRemaskCycle s = .next t ∧
      (∀ n, vaultSlot t n = none ↔ vaultSlot s n = none) ∧ (∀ n, vaultKey t n = vaultKey s n) ∧
      t.keys.remaskCycles = s.keys.remaskCycles + 1 ∧ t.keys.remaskedAt = some s.sec.deviceTime.toNat ∧
      t.keys.slots = s.keys.slots ∧ quiet t = quiet { s with keys := t.keys, rng := t.rng, freeUses := t.freeUses }) ∧
  (∀ (s : State), s.sec.deviceTime.toNat % 32768 ≠ 0 ∨ s.keys.remaskedAt = some s.sec.deviceTime.toNat →
    ∃ t, exec .vaultRemaskCycle s = .next t ∧ quiet t = quiet s) ∧
  (∀ (s : State), s.keys.rootPending = true → computeUp s = true → s.tamper.live = 0 → 1000 ≤ s.tamper.quietFor →
    ∃ t, exec .rootReconstruct s = .next t ∧
      quiet t = quiet { s with keys := { s.keys with rootHeld := true, rootPending := false } }) ∧
  (∀ (s : State), s.keys.rootPending = false ∨ computeUp s = false ∨ s.tamper.live ≠ 0 ∨ s.tamper.quietFor < 1000 →
    ∃ t, exec .rootReconstruct s = .next t ∧ quiet t = quiet s)

/-- From R321, R323 to R327, R338, R340: a strobe adds one raw bit, the XOR of the two levels sampled, to each source's window, and
the bit of a captured source leaves; the frequencies at the end of a window are shown; 81 equal bits, a frequency that is not
live or a full window that fails a test stops the generator for good, with its stores zeroised and a Fatal record that names
source and window; a full window that passes is released once its source has passed its first and none of its bits has left.
Derived: where those rules leave an order, an encoding or a value open, the clauses take the model's own choice, said in
assumptions 48 and 95. The clauses conclude that exec answers a next state of the commands rawBitStrobe, healthTestWindow. -/
def Obligations.NoiseSourcesSampledAndTested : Prop :=
  (∀ (levels : List (Bool × Bool)) (after : List Source) (s : State), sourcesRun s = true → levels.length = 4 →
    s.rng.capture = 0xFF → after = (s.rng.sources.zip (levels.map fun x => x.1 != x.2)).map (fun x => takeBit x.1 x.2) →
    ((List.range 4).all fun i => decide ((after.getD i Source.reset).run < 81)) = true →
    ∃ t, exec (.rawBitStrobe levels []) s = .next t ∧ quiet t = quiet { s with rng := { s.rng with sources := after } }) ∧
  (∀ (levels : List (Bool × Bool)) (n : Nat) (marked after : List Source) (s : State), sourcesRun s = true → portOpen s = true →
    levels.length = 4 → n < 4 → s.rng.capture = n →
    marked = setAt s.rng.sources n { getSource s n with streamed := true } →
    after = (marked.zip (levels.map fun x => x.1 != x.2)).map (fun x => takeBit x.1 x.2) →
    ((List.range 4).all fun i => decide ((after.getD i Source.reset).run < 81)) = true →
    ∃ t, exec (.rawBitStrobe levels []) s = .next t ∧
      Sent.tap [byte (bit ((levels.map fun x => x.1 != x.2).getD n false))] ∈ t.sent ∧ t.rng.capture = n ∧
      quiet t = quiet { s with rng := { s.rng with sources := after } }) ∧
  (∀ (levels : List (Bool × Bool)) (freqs : List (Nat × Nat)) (after : List Source) (s : State), sourcesRun s = true →
    levels.length = 4 → s.rng.capture = 0xFF → freqs.length = 4 → (∀ f ∈ freqs, notLive f = false) →
    after = (s.rng.sources.zip (levels.map fun x => x.1 != x.2)).map (fun x => takeBit x.1 x.2) →
    ((List.range 4).all fun i => decide ((after.getD i Source.reset).run < 81)) = true →
    ∃ t, exec (.rawBitStrobe levels freqs) s = .next t ∧ quiet t = quiet { s with rng := { s.rng with
      sources := (after.zip freqs).map fun x => { x.1 with freqA := x.2.1, freqB := x.2.2 } } }) ∧
  (∀ (levels : List (Bool × Bool)) (i : Nat) (x : Source) (after : List Source) (s : State), sourcesRun s = true →
    levels.length = 4 → s.rng.capture = 0xFF → s.rng.state ≠ 2 →
    after = (s.rng.sources.zip (levels.map fun x => x.1 != x.2)).map (fun x => takeBit x.1 x.2) →
    (List.range 4).find? (fun i => decide (81 ≤ (after.getD i Source.reset).run)) = some i → x = after.getD i Source.reset →
    freshFatal s (faultCode 3 0x08 (if x.started then 1 else 6)) = true →
    ∃ t, exec (.rawBitStrobe levels []) s = .next t ∧
      FatalTaken (faultCode 3 0x08 (if x.started then 1 else 6)) ([byte i, 0, 0, 0] ++ natLE 4 x.windows) t ∧
      t.rng.state = 2 ∧ t.rng.drbg = none ∧ t.rng.seed = none ∧ t.rng.reserve = [] ∧ t.rng.buffer = [] ∧
      (∀ y ∈ t.rng.sources, y.released = none)) ∧
  (∀ (levels : List (Bool × Bool)) (freqs : List (Nat × Nat)) (s : State), sourcesRun s = false ∨ levels.length ≠ 4 →
    ∃ t, exec (.rawBitStrobe levels freqs) s = .next t ∧ quiet t = quiet s) ∧
  (∀ (i : Nat) (x : Source) (s : State), i < 4 → i < s.rng.sources.length → x = getSource s i → 1024 ≤ x.window.length →
    s.rng.state ≠ 2 → sourcesRun s = true → windowCause s i = 0 →
    ∃ t, exec (.healthTestWindow i) s = .next t ∧
      getSource t i = { x with
        window := x.window.drop 1024, started := true, windows := x.windows + 1,
        streamed := x.streamed && !(x.window.drop 1024).isEmpty,
        released := if x.started = true ∧ x.streamed = false ∧ s.rng.capture ≠ i then some (x.window.take 1024)
          else x.released } ∧
      (∀ j, j ≠ i → getSource t j = getSource s j) ∧
      quiet t = quiet { s with rng := { s.rng with sources := t.rng.sources } }) ∧
  (∀ (i : Nat) (x : Source) (s : State), i < 4 → i < s.rng.sources.length → x = getSource s i → 1024 ≤ x.window.length →
    s.rng.state ≠ 2 → sourcesRun s = true → windowCause s i ≠ 0 →
    freshFatal s (faultCode 3 0x08 (if x.started then windowCause s i else 6)) = true →
    ∃ t, exec (.healthTestWindow i) s = .next t ∧
      FatalTaken (faultCode 3 0x08 (if x.started then windowCause s i else 6)) ([byte i, 0, 0, 0] ++ natLE 4 x.windows) t ∧
      t.rng.state = 2 ∧ t.rng.drbg = none ∧ t.rng.seed = none ∧ t.rng.reserve = [] ∧ t.rng.buffer = []) ∧
  (∀ (i : Nat) (s : State), 4 ≤ i ∨ (getSource s i).window.length < 1024 ∨ s.rng.state = 2 ∨ sourcesRun s = false →
    ∃ t, exec (.healthTestWindow i) s = .next t ∧ quiet t = quiet s)

/-- From R328 to R331, R334, R335, R337, R338, R340: a seed of one released window of each source in use reseeds the DRBG; a
generate call fills the reserve first and the random buffer after it, within the calls a seed allows; a write of a source starts
its capture while the debug port is open, and is refused outside DEBUG-OPEN. Derived: where those rules leave an order, an
encoding or a value open, the clauses take the model's own choice, said in assumptions 14 and 48. The clauses conclude that exec
answers a next state of the commands reseed, generateCall, captureSourceWrite. -/
def Obligations.DrbgReseededAndStoresFilled : Prop :=
  (∀ (d : Drbg) (s : State), seedReady s = true → s.rng.drbg = some d →
    ∃ t, exec .reseed s = .next t ∧ quiet t = quiet { s with rng := { s.rng with
      drbg := some (drbgReseed d (conditionSeed (releasedWindows s))
        (natLE 8 s.disp.tick ++ natLE 8 s.sec.deviceTime.toNat ++ zeros 32)),
      sources := s.rng.sources.map fun x => { x with released := none },
      calls := 0, reseeds := s.rng.reseeds + 1, seedTime := s.sec.deviceTime.toNat } }) ∧
  (∀ (s : State), seedReady s = true → s.rng.drbg = none → s.rng.state = 3 →
    ∃ t, exec .reseed s = .next t ∧ quiet t = quiet { s with rng := { s.rng with
      drbg := some (drbgInstantiate (conditionSeed (releasedWindows s)) (personalisation s)), state := 1,
      sources := s.rng.sources.map fun x => { x with released := none },
      calls := 0, reseeds := s.rng.reseeds + 1, seedTime := s.sec.deviceTime.toNat } }) ∧
  (∀ (s : State), seedReady s = false → ∃ t, exec .reseed s = .next t ∧ quiet t = quiet s) ∧
  (∀ (d : Drbg) (s : State), s.rng.drbg = some d → s.rng.reserve.length < 256 → s.rng.calls < hardLimit →
    sourcesRun s = true →
    ∃ t, exec (.generateCall true) s = .next t ∧
      t.rng.drbg = some (drbgGenerate d).2 ∧ t.rng.calls = s.rng.calls + 1 ∧
      t.rng.reserve = s.rng.reserve ++ (drbgGenerate d).1.take (256 - s.rng.reserve.length) ∧ t.rng.buffer = s.rng.buffer ∧
      quiet t = quiet { s with rng := { s.rng with
        drbg := t.rng.drbg, calls := t.rng.calls, reserve := t.rng.reserve, filled := t.rng.filled,
        stretched := t.rng.stretched, hardLimited := t.rng.hardLimited } }) ∧
  (∀ (d : Drbg) (s : State), s.rng.drbg = some d → 256 ≤ s.rng.reserve.length → s.rng.buffer.length + 256 ≤ 4096 →
    s.rng.calls < hardLimit → sourcesRun s = true →
    ∃ t, exec (.generateCall false) s = .next t ∧
      t.rng.drbg = some (drbgGenerate d).2 ∧ t.rng.calls = s.rng.calls + 1 ∧ t.rng.reserve = s.rng.reserve ∧
      t.rng.buffer = s.rng.buffer ++ (drbgGenerate d).1 ∧
      quiet t = quiet { s with rng := { s.rng with
        drbg := t.rng.drbg, calls := t.rng.calls, buffer := t.rng.buffer, filled := t.rng.filled,
        stretched := t.rng.stretched, hardLimited := t.rng.hardLimited } }) ∧
  (∀ (reserve : Bool) (s : State), s.rng.drbg = none ∨ hardLimit ≤ s.rng.calls ∨ sourcesRun s = false ∨
      (reserve = true ∧ 256 ≤ s.rng.reserve.length) ∨
      (reserve = false ∧ (s.rng.reserve.length < 256 ∨ 4096 < s.rng.buffer.length + 256)) →
    ∃ t, exec (.generateCall reserve) s = .next t ∧ quiet t = quiet s) ∧
  (∀ (src : Src) (given value : Bytes) (s : State) (p : Path), reaches src given s p 0x3100 0xB value = true →
    leNat value < 4 → leNat value < s.rng.sources.length → s.modes.word.debugOpen = true → portOpen s = true →
    leNat value ≠ s.rng.capture →
    ∃ t, exec (.captureSourceWrite src given) s = .next t ∧
      t.rng.capture = leNat value ∧ quiet t = quiet { s with rng := { s.rng with
        sources := setAt s.rng.sources (leNat value) { getSource s (leNat value) with released := none } } }) ∧
  (∀ (src : Src) (given : Bytes) (s : State) (p : Path), reaches src given s p 0x3100 0xB [0xFF] = true →
    s.modes.word.debugOpen = true →
    ∃ t, exec (.captureSourceWrite src given) s = .next t ∧ t.rng.capture = 0xFF ∧ quiet t = quiet s) ∧
  (∀ (src : Src) (given value : Bytes) (s : State) (p : Path), reaches src given s p 0x3100 0xB value = true →
    s.modes.word.debugOpen = false →
    ∃ t, exec (.captureSourceWrite src given) s = .next t ∧ quiet t = quiet s)

/-- From R343 to R346, R353, R366 to R369: an ordinary word retires to the next word or to its target and trains the predictors
where it is a branch; a word of the wait group has the effect of the instruction it names, and an illegal one traps; calls and
returns move through the ring of 11 windows; a trap saves PC, cause, value and window and goes on at 0x40 in window 11, and TRET
restores PC and window; each of these changes its core alone, and a core that does not run, nothing. From R346, R347: in the
trap window, SPILL stores the oldest window of the ring below SSP, w0 first, and FILL loads the 128 B at SSP into the window
below the current one; where the stack limit or the address map refuses it, either takes its fault, which in the trap window is
a double trap. Derived: where those rules leave an order, an encoding or a value open, the clauses take the model's own choice,
said in assumptions 51 and 96. The clauses conclude that exec answers a next state of the commands instructionFetch, call, ret,
tret, spill, fill, brk, waitw, waite, engreq, signal, rndrd, csrr, csrw, coreLoad, coreStore. -/
def Obligations.InstructionsWindowsAndTraps : Prop :=
  (∀ (core wrongPath fills : Nat) (missed : Bool) (fetched : Fetched) (c : Core) (s : State),
    executes s core = true → wrongPath ≤ 16 → fetched ≠ .ownRow → bits (fetchedWord s core) 26 6 ≠ 0x3D →
    c = (getCore s core).speculate wrongPath fills missed →
    ∃ t, exec (.instructionFetch core wrongPath fills missed fetched) s = .next t ∧
      CoreBecomes s core ((c.train fetched).retire (match fetched with | .branch (some a) => a | _ => c.pc + 4)) t) ∧
  (∀ (core wrongPath fills : Nat) (missed : Bool) (fetched : Fetched) (s : State), executes s core = true →
    wrongPath ≤ 16 → fetched ≠ .ownRow → bits (fetchedWord s core) 26 6 = 0x3D → waitGroupOk (fetchedWord s core) = false →
    (getCore s core).cwp ≠ 11 →
    ∃ t, exec (.instructionFetch core wrongPath fills missed fetched) s = .next t ∧
      CoreBecomes s core (trapOf ((getCore s core).speculate wrongPath fills missed) 3 (fetchedWord s core)) t) ∧
  (∀ (core wrongPath fills : Nat) (missed : Bool) (fetched : Fetched) (i : Instr) (s : State),
    executes s core = true → wrongPath ≤ 16 → fetched ≠ .ownRow → waitGroupOf core (fetchedWord s core) = some i →
    exec (.instructionFetch core wrongPath fills missed fetched) s =
      exec i (modifyCore core (Core.speculate wrongPath fills missed) s)) ∧
  (∀ (core wrongPath fills : Nat) (missed : Bool) (s : State), coreRuns s core = true →
    wrongPath ≤ 16 →
    ∃ t, exec (.instructionFetch core wrongPath fills missed .ownRow) s = .next t ∧
      CoreBecomes s core ((getCore s core).speculate wrongPath fills missed) t) ∧
  (∀ (core : Nat) (target : BitVec 64) (c : Core) (s : State), executes s core = true → c = getCore s core → c.cwp < 11 →
    c.winuse < 11 →
    ∃ t, exec (.call core target) s = .next t ∧
      CoreBecomes s core { c.retire target with
        cwp := (c.cwp + 1) % 11, winuse := c.winuse + 1, predictors := c.predictors.call c.pc.toNat target.toNat } t) ∧
  (∀ (core : Nat) (target : BitVec 64) (c : Core) (s : State), executes s core = true → c = getCore s core → c.cwp < 11 →
    11 ≤ c.winuse →
    ∃ t, exec (.call core target) s = .next t ∧ CoreBecomes s core (trapOf c 1 (fetchedWord s core)) t) ∧
  (∀ (core : Nat) (target : BitVec 64) (c : Core) (s : State), executes s core = true → c = getCore s core → 1 < c.winuse →
    ∃ t, exec (.ret core target) s = .next t ∧
      CoreBecomes s core { c.retire target with
        cwp := (c.cwp + 10) % 11, winuse := c.winuse - 1,
        predictors := { c.predictors with returns := c.predictors.returns.tail } } t) ∧
  (∀ (core : Nat) (target : BitVec 64) (s : State), executes s core = true → (getCore s core).winuse ≤ 1 →
    (getCore s core).cwp ≠ 11 →
    ∃ t, exec (.ret core target) s = .next t ∧ CoreBecomes s core (trapOf (getCore s core) 2 (fetchedWord s core)) t) ∧
  (∀ (core : Nat) (s : State), executes s core = true → (getCore s core).cwp = 11 →
    ∃ t, exec (.tret core) s = .next t ∧
      CoreBecomes s core { (getCore s core).retire (getCore s core).epc with cwp := (getCore s core).pwp } t) ∧
  (∀ (core : Nat) (s : State), ∀ i ∈ ([.tret core, .spill core, .fill core] : List Instr), executes s core = true →
    (getCore s core).cwp ≠ 11 →
    ∃ t, exec i s = .next t ∧ CoreBecomes s core (trapOf (getCore s core) 3 (fetchedWord s core)) t) ∧
  (∀ (core cause : Nat) (s : State), executes s core = true → (getCore s core).cwp ≠ 11 →
    (s.modes.word.debugOpen = true ∧ cause = 9 ∨ s.modes.word.debugOpen = false ∧ cause = 3) →
    ∃ t, exec (.brk core) s = .next t ∧ CoreBecomes s core (trapOf (getCore s core) cause (fetchedWord s core)) t) ∧
  (∀ (core : Nat) (target : BitVec 64) (s : State), ∀ i ∈ ([.brk core, .call core target] : List Instr),
    executes s core = true →
    (getCore s core).cwp = 11 →
    ∃ t, exec i s = .next t ∧
      isWithdrawn 9 core t = true ∧ t.cores.doubleTraps = s.cores.doubleTraps + 1 ∧ t.modes.word.degraded = true ∧
      getCore t core = { Core.reset with waitedAt := s.disp.tick, halted := true }) ∧
  (∀ (core a b d width : Nat) (v w : BitVec 64) (s : State),
    ∀ i ∈ ([.call core v, .ret core v, .tret core, .brk core, .spill core,
      .fill core, .waitw core a b d, .waite core a b d, .engreq core a b, .signal core a, .rndrd core a, .csrr core a b,
      .csrw core a b, .coreLoad core a v width, .coreStore core v width w] : List Instr),
    coreRuns s core = false → ∃ t, exec i s = .next t ∧ quiet t = quiet s) ∧
  (∀ (core a b d width : Nat) (v w : BitVec 64) (s : State),
    ∀ i ∈ ([.call core v, .ret core v, .tret core, .brk core, .spill core,
      .fill core, .waitw core a b d, .waite core a b d, .engreq core a b, .signal core a, .rndrd core a, .csrr core a b,
      .csrw core a b, .coreLoad core a v width, .coreStore core v width w] : List Instr),
    coreRuns s core = true → 0x20000 ≤ (getCore s core).pc.toNat → (getCore s core).cwp ≠ 11 →
    ∃ t, exec i s = .next t ∧ CoreBecomes s core (trapOf (getCore s core) 4 (getCore s core).pc.toNat) t) ∧
  (∀ (core p : Nat) (s : State), executes s core = true → (getCore s core).cwp = 11 → p = (getCore s core).ssp.toNat →
    128 + (getCore s core).ssl.toNat ≤ p → spillOk s core (p - 128) 1 = true →
    ∃ t, exec (.spill core) s = .next t ∧
      t.scratch = Memory.writeN s.scratch (0x40000 * core + (p - 128)) ((List.range 16).flatMap fun i =>
        natLE 8 ((getCore s core).window (((getCore s core).pwp + 12 - (getCore s core).winuse) % 11) i).toNat) ∧
      CoreBecomes { s with scratch := t.scratch } core
        { (getCore s core).count 7 1 with
          ssp := BitVec.ofNat 64 (p - 128), spilln := (getCore s core).spilln + 1,
          winuse := (getCore s core).winuse - 1 }.advance t) ∧
  (∀ (core p : Nat) (s : State), executes s core = true → (getCore s core).cwp = 11 → p = (getCore s core).ssp.toNat →
    (getCore s core).spilln ≠ 0 → spillOk s core p 0 = true →
    ∃ t, exec (.fill core) s = .next t ∧
      (∀ w i, i < 16 → (getCore t core).window w i =
        if w = ((getCore s core).pwp + 10) % 11 then BitVec.ofNat 64 (leNat (Memory.readN s.scratch (0x40000 * core + p + 8 * i) 8))
        else (getCore s core).window w i) ∧
      CoreBecomes s core
        { (getCore s core).count 8 1 with
          windows := (getCore t core).windows, ssp := BitVec.ofNat 64 (p + 128), spilln := (getCore s core).spilln - 1,
          winuse := (getCore s core).winuse + 1 }.advance t) ∧
  (∀ (core p : Nat) (s : State), executes s core = true → (getCore s core).cwp = 11 → p = (getCore s core).ssp.toNat →
    (p < 128 + (getCore s core).ssl.toNat ∨ spillOk s core (p - 128) 1 = false) →
    ∃ t, exec (.spill core) s = .next t ∧
      isWithdrawn 9 core t = true ∧ t.cores.doubleTraps = s.cores.doubleTraps + 1 ∧ t.modes.word.degraded = true) ∧
  (∀ (core p : Nat) (s : State), executes s core = true → (getCore s core).cwp = 11 → p = (getCore s core).ssp.toNat →
    ((getCore s core).spilln = 0 ∨ spillOk s core p 0 = false) →
    ∃ t, exec (.fill core) s = .next t ∧
      isWithdrawn 9 core t = true ∧ t.cores.doubleTraps = s.cores.doubleTraps + 1 ∧ t.modes.word.degraded = true)

/-- From R360 to R362, R369: a CSR is read into and written from a register, RNDRD takes 8 B of the system reserve or 0 when there
are none, SIGNAL posts an event to another core, and a firmware timer that falls due sets its flag and posts TIMER. Derived:
where those rules leave an order, an encoding or a value open, the clauses take the model's own choice, said in assumptions 33,
51 and 52. The clauses conclude that exec answers a next state of the commands csrr, csrw, rndrd, signal, firmwareTimerDue. -/
def Obligations.SpecialRegistersSignalsAndTimers : Prop :=
  (∀ (core rd csr : Nat) (v : BitVec 64) (s : State), executes s core = true → csrValue s core csr = some v →
    ∃ t, exec (.csrr core rd csr) s = .next t ∧
      CoreBecomes { s with freeUses := s.freeUses + 1 } core
        (({ getCore s core with tmrf := if csr = 0x00B then 0 else (getCore s core).tmrf }.setReg rd v).advance) t) ∧
  (∀ (core rs1 csr : Nat) (s : State), executes s core = true → (csrValue s core csr).isSome = true →
    ∃ t, exec (.csrw core rs1 csr) s = .next t ∧
      CoreBecomes { s with disp := { s.disp with insertSeq := s.disp.insertSeq + 1 } } core
        (csrWrite s.disp.tick s.disp.insertSeq csr ((getCore s core).reg rs1) (getCore s core)).advance t) ∧
  (∀ (core csr r : Nat) (s : State), ∀ i ∈ ([.csrr core r csr, .csrw core r csr] : List Instr), executes s core = true →
    csrValue s core csr = none → (getCore s core).cwp ≠ 11 →
    ∃ t, exec i s = .next t ∧ CoreBecomes s core (trapOf (getCore s core) 3 (fetchedWord s core)) t) ∧
  (∀ (core rd : Nat) (s : State), executes s core = true → s.rng.state = 1 → s.rng.filled = true → 8 ≤ s.rng.reserve.length →
    ∃ t, exec (.rndrd core rd) s = .next t ∧
      CoreBecomes { s with rng := { s.rng with reserve := s.rng.reserve.drop 8, drawn := s.rng.drawn + 8 } } core
        (({ getCore s core with rndst := 1 }.setReg rd (BitVec.ofNat 64 (leNat (s.rng.reserve.take 8)))).advance) t) ∧
  (∀ (core rd : Nat) (s : State), executes s core = true →
    ¬(s.rng.state = 1 ∧ s.rng.filled = true ∧ 8 ≤ s.rng.reserve.length) →
    ∃ t, exec (.rndrd core rd) s = .next t ∧
      CoreBecomes s core (({ getCore s core with rndst := 0 }.setReg rd 0).advance) t) ∧
  (∀ (core rs1 k : Nat) (s : State), executes s core = true → k = ((getCore s core).reg rs1).toNat → k < coreCount s →
    isWithdrawn 9 k s = false → k ≠ core →
    ∃ t, exec (.signal core rs1) s = .next t ∧
      getCore t core = (getCore s core).advance ∧
      getCore t k = { getCore s k with events := (getCore s k).events ||| 1 } ∧
      (∀ j, j ≠ core → j ≠ k → getCore t j = getCore s j) ∧
      quiet t = quiet { s with cores := { s.cores with cores := t.cores.cores } }) ∧
  (∀ (core rs1 : Nat) (s : State), executes s core = true → ((getCore s core).reg rs1).toNat = core →
    ∃ t, exec (.signal core rs1) s = .next t ∧
      CoreBecomes s core { (getCore s core).advance with events := (getCore s core).events ||| 1 } t) ∧
  (∀ (core rs1 k : Nat) (s : State), executes s core = true → k = ((getCore s core).reg rs1).toNat →
    coreCount s ≤ k ∨ isWithdrawn 9 k s = true →
    ∃ t, exec (.signal core rs1) s = .next t ∧ CoreBecomes s core (getCore s core).advance t) ∧
  (∀ (core timer : Nat) (d : Due) (s : State), dueIs s .firmwareTimer core timer = some d →
    ∃ t, exec (.firmwareTimerDue core timer) s = .next t ∧
      CoreBecomes (dropDue d s) core
        { getCore s core with
          timers := setAt (getCore s core).timers timer none, events := (getCore s core).events ||| 4,
          tmrf := (getCore s core).tmrf ||| BitVec.ofNat 64 (2 ^ timer) } t) ∧
  (∀ (core timer : Nat) (s : State), dueIs s .firmwareTimer core timer = none →
    ∃ t, exec (.firmwareTimerDue core timer) s = .next t ∧ quiet t = quiet s)

/-- From R13, R342, R345, R349 to R352: a load takes its bytes, the first in the low byte, from wherever its address leads, and a
store or an alias store changes the bytes it names and no others; a misaligned access traps before anything is read or stored,
and an address that leads nowhere, or that the region tables refuse, takes the access fault of its direction. Derived: where
those rules leave an order, an encoding or a value open, the clauses take the model's own choice, said in assumptions 23 and 51.
The clauses conclude that exec answers a next state of the commands coreLoad, coreStore, bitSetAliasStore, bitClearAliasStore. -/
def Obligations.LoadsAndStores : Prop :=
  (∀ (core rd width : Nat) (addr : BitVec 64) (p : Place) (data : Bytes) (s : State), executes s core = true →
    widthOk width = true → addr.toNat % width = 0 → p = placeOf s core addr.toNat → p ≠ .nowhere →
    (∀ z, placeTarget s core p addr.toNat = some z → accessPasses s 5 z.1 z.2 0 = true) →
    loadBytes s core p width = some data →
    ∃ t, exec (.coreLoad core rd addr width) s = .next t ∧
      CoreBecomes { s with freeUses := s.freeUses + 1 } core (((getCore s core).setReg rd (loadValue s data)).advance) t ∧
        (loadValue s data).toNat % 2 ^ (8 * width) = leNat data % 2 ^ (8 * width)) ∧
  (∀ (core c off width : Nat) (s : State), loadBytes s core (.scratch c off 0) width =
    some (Memory.readN s.scratch (0x40000 * c + off) width)) ∧
  (∀ (core width : Nat) (addr v : BitVec 64) (c off : Nat) (s : State), executes s core = true → widthOk width = true →
    addr.toNat % width = 0 → placeOf s core addr.toNat = .scratch c off 0 →
    accessPasses s 5 4 (0x30000000 + 0x40000 * c + off) 1 = true →
    ∃ t, exec (.coreStore core addr width v) s = .next t ∧
      t.scratch = Memory.writeN s.scratch (0x40000 * c + off) (natLE width v.toNat) ∧
      CoreBecomes { s with scratch := t.scratch } core (getCore s core).advance t) ∧
  (∀ (core width : Nat) (addr v : BitVec 64) (c off : Nat) (s : State), executes s core = true → (width = 4 ∨ width = 8) →
    addr.toNat % width = 0 → placeOf s core addr.toNat = .scratch c off 1 →
    accessPasses s 5 4 (0x30000000 + 0x40000 * c + off) 1 = true →
    ∃ t, exec (.bitSetAliasStore core addr width v) s = .next t ∧
      t.scratch = Memory.writeN s.scratch (0x40000 * c + off) (natLE width
        (leNat (Memory.readN s.scratch (0x40000 * c + off) width) ||| leNat (natLE width v.toNat))) ∧
      CoreBecomes { s with scratch := t.scratch } core (getCore s core).advance t) ∧
  (∀ (core width : Nat) (addr v : BitVec 64) (c off old : Nat) (s : State), executes s core = true → (width = 4 ∨ width = 8) →
    addr.toNat % width = 0 → placeOf s core addr.toNat = .scratch c off 2 →
    accessPasses s 5 4 (0x30000000 + 0x40000 * c + off) 1 = true →
      old = leNat (Memory.readN s.scratch (0x40000 * c + off) width) →
    ∃ t, exec (.bitClearAliasStore core addr width v) s = .next t ∧
      t.scratch = Memory.writeN s.scratch (0x40000 * c + off) (natLE width (old - (old &&& leNat (natLE width v.toNat)))) ∧
      CoreBecomes { s with scratch := t.scratch } core (getCore s core).advance t) ∧
  (∀ (core width : Nat) (addr v : BitVec 64) (s : State), ∀ y ∈ ([
      (.bitSetAliasStore core addr width v, 1), (.bitClearAliasStore core addr width v, 2)] : List (Instr × Nat)),
    aliasOf s core addr.toNat ≠ y.2 → ∃ t, exec y.1 s = .next t ∧ quiet t = quiet s) ∧
  (∀ (core width off : Nat) (addr v : BitVec 64) (c n : Nat) (ch : Chain) (l : LinkWords) (r : LinkRun) (s : State),
    executes s core = true → widthOk width = true → addr.toNat % width = 0 → placeOf s core addr.toNat = .window off →
    heldLink s core = some (c, n, ch, l, r) → accessPasses s 5 0 (ch.addr off) 1 = true →
    (∀ i < width, refCovers l.out (off + i) = true) →
    ∃ t, exec (.coreStore core addr width v) s = .next t ∧
      t.chainMem = (writeChain ch off (natLE width v.toNat) s).chainMem ∧
      CoreBecomes { s with chainMem := t.chainMem } core
        ({ getCore s core with stored := (getCore s core).stored ++ ((List.range width).map fun i => off + i).filter fun o =>
            !(getCore s core).stored.contains o }.advance) t) ∧
  (∀ (core width n off attr : Nat) (addr v : BitVec 64) (s : State), executes s core = true → widthOk width = true →
    addr.toNat % width = 0 → placeOf s core addr.toNat = .slot n off → 32 ≤ off → off < 40 →
    accessPasses s 5 1 addr.toNat 1 = true →
      attr = leNat (overlay (off - 32) (natLE width v.toNat) (natLE 8 (getSlot s n).attr)) →
    attrRefused attr = false → (getSlot s n).state ≠ .bad → lockedByOther s (unitTag 9 core) n = false →
    ∃ t, exec (.coreStore core addr width v) s = .next t ∧
      (getSlot t n).attr = attr ∧ (getSlot t n).state = .valid ∧ (∀ m, m ≠ n → getSlot t m = getSlot s m) ∧
      CoreBecomes { s with engines := { s.engines with invocation := t.engines.invocation }, keys := t.keys, clasp := t.clasp,
                           twin := t.twin } core (getCore s core).advance t) ∧
  (∀ (core width n off : Nat) (addr v : BitVec 64) (s : State), executes s core = true → widthOk width = true →
    addr.toNat % width = 0 →
    (placeOf s core addr.toNat = .slot n off ∧ 40 ≤ off ∧ accessPasses s 5 1 addr.toNat 1 = true ∨
      placeOf s core addr.toNat = .device n ∧ accessPasses s 5 n addr.toNat 1 = true) →
    ∃ t, exec (.coreStore core addr width v) s = .next t ∧ CoreBecomes s core (getCore s core).advance t) ∧
  (∀ (core rd width cause : Nat) (addr v : BitVec 64) (s : State), ∀ y ∈ ([
      (.coreLoad core rd addr width, 5), (.coreStore core addr width v, 6)] : List (Instr × Nat)),
    executes s core = true → widthOk width = true → (getCore s core).cwp ≠ 11 →
    (addr.toNat % width ≠ 0 ∧ cause = 7 ∨
      addr.toNat % width = 0 ∧ placeOf s core addr.toNat = .nowhere ∧ cause = y.2 ∧ addr.toNat < 0x40000000) →
    ∃ t, exec y.1 s = .next t ∧ CoreBecomes s core (trapOf (getCore s core) cause addr.toNat) t) ∧
  (∀ (core rd width tgt a : Nat) (addr v : BitVec 64) (s : State), ∀ y ∈ ([
      (.coreLoad core rd addr width, 5), (.coreStore core addr width v, 6)] : List (Instr × Nat)),
    executes s core = true → widthOk width = true → (getCore s core).cwp ≠ 11 → addr.toNat % width = 0 →
    placeOf s core addr.toNat ≠ .nowhere → placeTarget s core (placeOf s core addr.toNat) addr.toNat = some (tgt, a) →
    accessPasses s 5 tgt a (y.2 - 5) = false →
    ∃ t, exec y.1 s = .next t ∧
      t.access.refusals = setAt s.access.refusals 5 (s.access.refusals.getD 5 0 + 1) ∧
      CoreBecomes { s with access := { s.access with refusals := t.access.refusals, last := t.access.last } } core
        (trapOf (getCore s core) y.2 addr.toNat) t)

/-- From R199, R202, R204 to R206, R208: WAITW and WAITE block their core; an event that the mask covers ends a WAITE with result 0
and the event word in g8, ahead of a timeout, which ends a wait with result 1; the all-waiting detector ends the lowest-numbered
wait with result 2 under a Contained fault that withdraws nothing. Derived: where those rules leave an order, an encoding or a
value open, the clauses take the model's own choice, said in assumptions 33, 43 and 52. The clauses conclude that exec answers a
next state of the commands waitw, waite, eventDelivery, waitTimeout, allWaitingDetectorFire. -/
def Obligations.CoreWaitsStartAndEnd : Prop :=
  (∀ (core rd rs1 rs2 : Nat) (s : State), executes s core = true → (getCore s core).holds = false →
    ∃ t, exec (.waitw core rd rs1 rs2) s = .next t ∧
      CoreBecomes { s with disp := { s.disp with insertSeq := s.disp.insertSeq + 1 } } core
        { getCore s core with
          wait := .waitw (((getCore s core).reg rs1).toNat % 2 ^ 16) (timeoutDue s (((getCore s core).reg rs2).toNat % 2 ^ 32)),
          waitRd := rd % 32, waitedAt := s.disp.tick, waitSeq := s.disp.insertSeq } t) ∧
  (∀ (core rd rs1 rs2 : Nat) (s : State), executes s core = true → (getCore s core).holds = true → (getCore s core).cwp ≠ 11 →
    ∃ t, exec (.waitw core rd rs1 rs2) s = .next t ∧ CoreBecomes s core (trapOf (getCore s core) 0xA (fetchedWord s core)) t) ∧
  (∀ (core rd rs1 rs2 mask : Nat) (s : State), executes s core = true → mask = ((getCore s core).reg rs1).toNat % 2 ^ 16 →
    eventWord s core (maskFor s core mask) = 0 →
    ∃ t, exec (.waite core rd rs1 rs2) s = .next t ∧
      CoreBecomes { s with disp := { s.disp with insertSeq := s.disp.insertSeq + 1 } } core
        { getCore s core with
          wait := .waite mask (timeoutDue s (((getCore s core).reg rs2).toNat % 2 ^ 32)), waitRd := rd % 32,
          waitedAt := s.disp.tick, waitSeq := s.disp.insertSeq } t) ∧
  (∀ (core rd rs1 rs2 w : Nat) (s : State), executes s core = true →
    w = eventWord s core (maskFor s core (((getCore s core).reg rs1).toNat % 2 ^ 16)) → w ≠ 0 →
    ∃ t, exec (.waite core rd rs1 rs2) s = .next t ∧
      CoreBecomes (armed { s with disp := { s.disp with insertSeq := s.disp.insertSeq + 1 } }) core
        (waitEnded (eventsTaken { getCore s core with waitRd := rd % 32, waitSeq := s.disp.insertSeq } w) 0 s.disp.tick) t) ∧
  (∀ (core mask w : Nat) (due : Option Nat) (s : State), (getCore s core).wait = .waite mask due → firmwareRuns s = true →
    core < coreCount s → w = eventWord s core (maskFor s core mask) → w ≠ 0 →
    ∃ t, exec (.eventDelivery core) s = .next t ∧
      CoreBecomes (armed s) core (waitEnded (eventsTaken (getCore s core) w) 0 s.disp.tick) t) ∧
  (∀ (core : Nat) (s : State),
    (∀ mask due, (getCore s core).wait = .waite mask due → eventWord s core (maskFor s core mask) = 0) →
    ∃ t, exec (.eventDelivery core) s = .next t ∧ quiet t = quiet s) ∧
  (∀ (core mask : Nat) (due : Option Nat) (d : Due) (s : State), dueIs s .waitTimeout core 0 = some d →
    ((getCore s core).wait = .waitw mask due ∨
      (getCore s core).wait = .waite mask due ∧ eventWord s core (maskFor s core mask) = 0) →
    ∃ t, exec (.waitTimeout core) s = .next t ∧
      CoreBecomes (armed (dropDue d s)) core (waitEnded (getCore s core) 1 s.disp.tick) t) ∧
  (∀ (core mask w : Nat) (due : Option Nat) (d : Due) (s : State), dueIs s .waitTimeout core 0 = some d →
    (getCore s core).wait = .waite mask due → w = eventWord s core (maskFor s core mask) → w ≠ 0 →
    ∃ t, exec (.waitTimeout core) s = .next t ∧
      CoreBecomes (armed (dropDue d s)) core (waitEnded (eventsTaken (getCore s core) w) 0 s.disp.tick) t) ∧
  (∀ (core : Nat) (s : State), dueIs s .waitTimeout core 0 = none → ∃ t, exec (.waitTimeout core) s = .next t ∧
    quiet t = quiet s) ∧
  (∀ (j : Nat) (s : State), 100 ≤ s.disp.allWaitingFor → s.disp.detectorArmed = true → firmwareRuns s = true →
    allWaiting s = true → j < coreCount s → (getCore s j).wait ≠ .running → (∀ i < j, (getCore s i).wait = .running) →
    ∃ t, exec .allWaitingDetectorFire s = .next t ∧
      getCore t j = waitEnded (getCore s j) 2 s.disp.tick ∧ (∀ i, i ≠ j → getCore t i = getCore s i) ∧
      t.faults.withdrawn = s.faults.withdrawn ∧ t.disp.allWaitingFor = 0 ∧ t.disp.waitCycles = s.disp.waitCycles + 1 ∧
      quiet t = quiet { s with disp := { s.disp with waitCycles := t.disp.waitCycles, detectorArmed := t.disp.detectorArmed },
                               cores := { s.cores with cores := t.cores.cores }, faults := t.faults }) ∧
  (∀ (s : State), s.disp.allWaitingFor < 100 ∨ s.disp.detectorArmed = false ∨ firmwareRuns s = false ∨ allWaiting s = false →
    ∃ t, exec .allWaitingDetectorFire s = .next t ∧ quiet t = quiet s)

/-- From R182, R203, R207, R352, R354, R356 to R359, R363 to R365, R368: the first-ranked firmware Link goes to the lowest-numbered
core that accepts it, which then holds it; LEND ends the held Link with its status; ENGREQ accepts, refuses or answers NONE; a
core that does not acknowledge ABORT within 500 µs, or that does not wait within its watchdog's time, is reset and withdrawn.
Derived: where those rules leave an order, an encoding or a value open, the clauses take the model's own choice, said in
assumptions 52 and 97. The clauses conclude that exec answers a next state of the commands firmwareLinkHandover, lend, engreq,
abortAckTimeout, coreWatchdog. -/
def Obligations.FirmwareLinksAndWatchdogs : Prop :=
  (∀ (s u : State) (k : Cand) (e : Nat) (ch : Chain) (c : Core),
    dispatching s = true → u = defer s → issuable u = [k] → engineFor u k [] = some e → getChain u k.c = some ch →
    ch.link k.n = some (k.l, k.r) → stillReady ch k = true → engineKind k.l.opcode = 3 → e < 32 → c = getCore s e →
    bufferCovers u (drawBytes k.l) = true → covers u k = true → refusedAccesses u ch k.l e = [] →
    ∃ t, exec .firmwareLinkHandover s = .next t ∧
      (getChain t k.c).map (fun ch => ch.stateOf k.n) = some .issued ∧ (getCore t e).link = some (k.c, k.n) ∧
      (getCore t e).stored = [] ∧ (getCore t e).lastOwner = some k.fn ∧ (getCore t e).wait = .running ∧
      (getCore t e).predictors = (if c.lastOwner = some k.fn then c.predictors else Predictors.cold) ∧
      (∀ i, i ≠ e → getCore t i = getCore s i) ∧ t.cores.handed = s.cores.handed + 1 ∧
      t.energy.charged = s.energy.charged + BitVec.ofNat 64 (linkCost k.l) ∧
      quiet t = quiet { s with disp := t.disp, energy := t.energy, tenants := t.tenants, cores := t.cores }) ∧
  (∀ (s : State), dispatching s = false ∨ issuable (defer s) = [] → ∃ t, exec .firmwareLinkHandover s = .next t ∧
    quiet t = quiet s) ∧
  (∀ (core rs1 c n : Nat) (ch : Chain) (l : LinkWords) (r : LinkRun) (s : State), executes s core = true →
    (∀ i < coreCount s, (getCore s i).lending = none) → ((getCore s core).reg rs1).toNat % 2 ^ 16 = 0 →
    (getCore s core).engBusy.any id = false → heldLink s core = some (c, n, ch, l, r) → r.st = .issued → r.stopping = false →
    ∃ t, exec (.lend core rs1) s = .next t ∧
      (getCore t core).link = none ∧ (getCore t core).stored = [] ∧ (getCore t core).pc = (getCore s core).pc + 4 ∧
      (getChain t c).map (fun ch => (ch.stateOf n, (ch.link n).map fun x => x.2.verify)) =
        some (.done, some (if isVerify s.images.firmwareOps l.opcode l.param then some true else none)) ∧
      t.chainMem = (if ch.closed then s else writeOut ch l (outBytes s (getCore s core) ch l) s).chainMem ∧
      quiet t = quiet { s with disp := t.disp, chainMem := t.chainMem, engines := t.engines, cores := t.cores }) ∧
  (∀ (core rs1 c n st : Nat) (ch : Chain) (l : LinkWords) (r : LinkRun) (s : State), executes s core = true →
    (∀ i < coreCount s, (getCore s i).lending = none) → st = ((getCore s core).reg rs1).toNat % 2 ^ 16 →
    lendCodes.contains st = true → isVerify s.images.firmwareOps l.opcode l.param = false →
    (getCore s core).engBusy.any id = false → heldLink s core = some (c, n, ch, l, r) → r.st = .issued → r.stopping = false →
    ∃ t, exec (.lend core rs1) s = .next t ∧
      (getCore t core).link = none ∧ (getChain t c).map (fun ch => ch.stateOf n) = some .failed ∧
      (n < 32 → ch.closed = false → ch.expired = false →
        (getChain t c).map (fun ch => (ch.closed, ch.status, ch.firstFail)) = some (true, st, n)) ∧
      quiet t = quiet { s with disp := t.disp, engines := t.engines, cores := t.cores, energy := t.energy }) ∧
  (∀ (core rs1 : Nat) (s : State), executes s core = true → (∀ i < coreCount s, (getCore s i).lending = none) →
    (getCore s core).link.isSome = true → (getCore s core).engBusy.any id = true →
    ∃ t, exec (.lend core rs1) s = .next t ∧
      CoreBecomes s core { getCore s core with lending := some (((getCore s core).reg rs1).toNat % 2 ^ 16) } t) ∧
  (∀ (core rs1 : Nat) (s : State), executes s core = true → (∀ i < coreCount s, (getCore s i).lending = none) →
    (getCore s core).holds = false → (getCore s core).cwp ≠ 11 →
    ∃ t, exec (.lend core rs1) s = .next t ∧ CoreBecomes s core (trapOf (getCore s core) 0xA (fetchedWord s core)) t) ∧
  (∀ (core rd rs1 a c n e : Nat) (ch : Chain) (l : LinkWords) (r : LinkRun) (s : State), executes s core = true →
    heldLink s core = some (c, n, ch, l, r) → a = ((getCore s core).reg rs1).toNat → a % 8 = 0 → 0x20000 ≤ a →
      a + 32 ≤ 0x40000 →
    requestRefused s ch n l (linkOfBytes (Memory.readN s.scratch (0x40000 * core + a) 32)) = some e →
    ∃ t, exec (.engreq core rd rs1) s = .next t ∧
      CoreBecomes s core ({ getCore s core with erej := BitVec.ofNat 64 e }.setReg rd 0xFE).advance t) ∧
  (∀ (core rd rs1 a c n tag : Nat) (ch : Chain) (l q : LinkWords) (r : LinkRun) (s : State), executes s core = true →
    heldLink s core = some (c, n, ch, l, r) → a = ((getCore s core).reg rs1).toNat → a % 8 = 0 → 0x20000 ≤ a →
      a + 32 ≤ 0x40000 →
    q = linkOfBytes (Memory.readN s.scratch (0x40000 * core + a) 32) → requestRefused s ch n l q = none →
    requestQueue s < Config.requestQueueDepth → tag < (getCore s core).engBusy.length →
    (List.range 4).find? (fun t => !((getCore s core).engBusy.getD t false)) = some tag → ch.closed = false →
    ∃ t, exec (.engreq core rd rs1) s = .next t ∧
      (getCore t core).engBusy = setAt (getCore s core).engBusy tag true ∧ (getCore t core).pc = (getCore s core).pc + 4 ∧
      (rd % 32 ≠ 0 → (rd % 32 < 16 → rd % 32 < (getCore s core).globals.length) →
        (getCore t core).reg rd = BitVec.ofNat 64 tag) ∧
      (getChain t c).bind (fun ch => (ch.link (32 + 4 * core + tag)).map fun x => (x.1, x.2.st)) = some (q, .ready) ∧
      t.cores.engineReqs = s.cores.engineReqs + 1 ∧
      quiet t = quiet { s with disp := t.disp, chainMem := t.chainMem, flow := t.flow, cores := t.cores,
                               freeUses := t.freeUses }) ∧
  (∀ (core rd rs1 a c n : Nat) (ch : Chain) (l : LinkWords) (r : LinkRun) (s : State), executes s core = true →
    heldLink s core = some (c, n, ch, l, r) → a = ((getCore s core).reg rs1).toNat → a % 8 = 0 → 0x20000 ≤ a →
      a + 32 ≤ 0x40000 →
    requestRefused s ch n l (linkOfBytes (Memory.readN s.scratch (0x40000 * core + a) 32)) = none →
    ((∀ tag < 4, (getCore s core).engBusy.getD tag false = true) ∨ Config.requestQueueDepth ≤ requestQueue s) →
    ∃ t, exec (.engreq core rd rs1) s = .next t ∧
      CoreBecomes s core ({ getCore s core with hint := requestHint s core }.setReg rd 0xFF).advance t) ∧
  (∀ (core at_ : Nat) (s : State), (getCore s core).abortAt = some at_ → at_ + 500 ≤ s.disp.tick → firmwareRuns s = true →
    core < coreCount s →
    ∃ t, exec (.abortAckTimeout core) s = .next t ∧
      isWithdrawn 9 core t = true ∧ t.cores.abortTimeouts = s.cores.abortTimeouts + 1 ∧ t.modes.word.degraded = true ∧
      getCore t core = { Core.reset with waitedAt := s.disp.tick, halted := true } ∧
      quiet t = quiet { s with disp := t.disp, scratch := Memory.clear s.scratch (0x40000 * core + 0x20000) 0x20000,
                               engines := t.engines, energy := t.energy, flow := t.flow, cores := t.cores,
                                 faults := t.faults }) ∧
  (∀ (core : Nat) (s : State), (∀ at_, (getCore s core).abortAt = some at_ → s.disp.tick < at_ + 500) →
    ∃ t, exec (.abortAckTimeout core) s = .next t ∧ quiet t = quiet s) ∧
  (∀ (core : Nat) (s : State), firmwareRuns s = true → core < coreCount s → isWithdrawn 9 core s = false →
    (getCore s core).halted = false → (getCore s core).wait = .running →
      (getCore s core).waitedAt + s.cores.watchdog < s.disp.tick →
    ∃ t, exec (.coreWatchdog core) s = .next t ∧
      isWithdrawn 9 core t = true ∧ t.modes.word.degraded = true ∧
      getCore t core = { Core.reset with waitedAt := s.disp.tick, halted := true } ∧
      quiet t = quiet { s with disp := t.disp, scratch := Memory.clear s.scratch (0x40000 * core + 0x20000) 0x20000,
                               engines := t.engines, energy := t.energy, flow := t.flow, cores := t.cores,
                                 faults := t.faults }) ∧
  (∀ (core : Nat) (s : State), coreCount s ≤ core ∨ isWithdrawn 9 core s = true ∨ (getCore s core).halted = true ∨
      (getCore s core).wait ≠ .running ∨ s.disp.tick ≤ (getCore s core).waitedAt + s.cores.watchdog →
    ∃ t, exec (.coreWatchdog core) s = .next t ∧ quiet t = quiet s)

/-- From R209, R319, R373, R374, R429, R457, R461, R463 to R468, R505, R565: an uncorrectable error or a parity error is the fault
its memory or unit defines, Fatal ones with the safe state and Contained ones with the unit withdrawn; a corrected error is
counted and withdraws nothing; an error of a site or an index that the part does not have, or of a unit withdrawn already,
changes nothing. Derived: where those rules leave an order, an encoding or a value open, the clauses take the model's own
choice, said in assumption 50. The clauses conclude that exec answers a next state of the commands eccUncorrectable,
parityError, singleBitError, securityDieHeartbeatLoss. -/
def Obligations.ErrorsRaiseTheirFaults : Prop :=
  (∀ (site : FaultSite) (unit cause : Nat) (args : Bytes) (s : State), powered s = true →
    siteFatal site = some (unit, cause, args) →
    freshFatal s (faultCode 3 unit cause) = true →
    ∃ t, exec (.eccUncorrectable site) s = .next t ∧ FatalTaken (faultCode 3 unit cause) args t) ∧
  (∀ (site : FaultSite) (u : Nat × Nat) (s : State), powered s = true → siteUnit s site = some u →
    isWithdrawn u.1 u.2 s = false →
    ∃ t, exec (.eccUncorrectable site) s = .next t ∧
      isWithdrawn u.1 u.2 t = true ∧ (∀ v, v ≠ u → isWithdrawn v.1 v.2 t = isWithdrawn v.1 v.2 s) ∧
      t.modes.word.degraded = true ∧
      quiet t = quiet { s with disp := t.disp, scratch := t.scratch, engines := t.engines, energy := t.energy, flow := t.flow,
                               cores := t.cores, faults := t.faults }) ∧
  (∀ (k base : Nat) (s : State), powered s = true → k < coreCount s → isWithdrawn 9 k s = false → base = 0x40000 * k →
    refusedAt s mramMaster 1 ((transfers (0x30000000 + base) 0x20000).map (·.1)) = [] →
    ∃ t, exec (.eccUncorrectable (.scratchFirmware k)) s = .next t ∧
      t.scratch = Memory.writeN (Memory.clear (Memory.clear s.scratch (base + 0x20000) 0x20000) base 0x20000) base
        (sectionBytes (slotImage s s.mram.active) 1)) ∧
  (∀ (site : FaultSite) (s : State), siteFatal site = none →
    (match site with
      | .keySlot n => decide (slotCount s ≤ n)
      | _ => (siteUnit s site).all fun u => isWithdrawn u.1 u.2 s) = true →
    ∃ t, exec (.eccUncorrectable site) s = .next t ∧ quiet t = quiet s) ∧
  (∀ (n : Nat) (s : State), powered s = true → n < slotCount s →
    ∃ t, exec (.eccUncorrectable (.keySlot n)) s = .next t ∧
      (getSlot t n).state = .bad ∧ (∀ m, m ≠ n → getSlot t m = getSlot s m) ∧ t.faults.withdrawn = s.faults.withdrawn ∧
      quiet t = quiet { s with faults := t.faults, keys := { s.keys with slots := t.keys.slots } }) ∧
  (∀ (unit cause : Nat) (s : State), powered s = true →
    (unit, cause) ∈ [(1, 1), (3, 4), (0xA, 1), (0xC, 4), (0xD, 6)] → freshFatal s (faultCode 3 unit cause) = true →
    ∃ t, exec (.parityError unit cause 0) s = .next t ∧ FatalTaken (faultCode 3 unit cause) [] t) ∧
  (∀ (unit cause index : Nat) (s : State), powered s = true →
    (unit = 4 ∧ cause = 2 ∧ index < laneCount s ∨ unit = 5 ∧ cause = 1 ∧ index < hashCount s ∨ unit = 0xB ∧ cause = 5 ∧
      index = 0) →
    isWithdrawn unit index s = false →
    ∃ t, exec (.parityError unit cause index) s = .next t ∧
      isWithdrawn unit index t = true ∧ t.modes.word.degraded = true ∧
      (∀ u, u ≠ (unit, index) → isWithdrawn u.1 u.2 t = isWithdrawn u.1 u.2 s) ∧
      quiet t = quiet { s with disp := t.disp, engines := t.engines, energy := t.energy, flow := t.flow, faults := t.faults,
                               clasp := t.clasp, twin := t.twin }) ∧
  (∀ (unit cause index : Nat) (s : State), powered s = true →
    ((unit, cause) ∉ [(1, 1), (3, 4), (0xA, 1), (0xC, 4), (0xD, 6), (4, 2), (5, 1), (0xB, 5)] ∨
      unit = 4 ∧ laneCount s ≤ index ∨ unit = 5 ∧ hashCount s ≤ index ∨ unit = 0xB ∧ isWithdrawn 0xB 0 s = true) →
    ∃ t, exec (.parityError unit cause index) s = .next t ∧ quiet t = quiet s) ∧
  (∀ (unit cause index : Nat) (s : State), powered s = true → correctedCauses.contains (unit, cause) = true →
    ∃ t, exec (.singleBitError unit cause index) s = .next t ∧
      t.faults.corrected = setAt s.faults.corrected (unit - 1) (s.faults.corrected.getD (unit - 1) 0 + 1) ∧
      t.faults.withdrawn = s.faults.withdrawn ∧ t.faults.records = s.faults.records ∧
      (∀ m, memoryOf unit cause = some m →
        t.memTest.corrected = setAt s.memTest.corrected m (s.memTest.corrected.getD m 0 + 1)) ∧
      quiet t = quiet { s with faults := t.faults, memTest := t.memTest,
                               mram := { s.mram with corrected := t.mram.corrected } }) ∧
  (∀ (unit cause index : Nat) (s : State), correctedCauses.contains (unit, cause) = false →
    ∃ t, exec (.singleBitError unit cause index) s = .next t ∧ quiet t = quiet s) ∧
  (∀ (site : FaultSite) (unit cause index : Nat) (s : State), ∀ i ∈ ([.eccUncorrectable site, .parityError unit cause index,
      .singleBitError unit cause index] : List Instr), powered s = false → ∃ t, exec i s = .next t ∧ quiet t = quiet s) ∧
  (∀ (s : State), s.boot.phase = .inReset → ∃ t, exec .securityDieHeartbeatLoss s = .next t ∧ quiet t = quiet s) ∧
  (∀ (s : State), s.boot.phase ≠ .inReset → freshFatal s (faultCode 3 0x10 1) = true →
    ∃ t, exec .securityDieHeartbeatLoss s = .next t ∧ FatalTaken (faultCode 3 0x10 1) [] t)

/-- From R142, R383 to R387, R470, R473: a unit of a record in clearing returns to service when it passes its test and stays
withdrawn when it fails; the background test goes region by region; clearing a latched record tests its units; a Fatal record
that has stood for its delay stages the escalation event and then resets the part. Derived: where those rules leave an order, an
encoding or a value open, the clauses take the model's own choice, said in assumptions 50 and 99. The clauses conclude that exec
answers a next state of the commands knownAnswerTestEnd, testRegionStart, testRegionEnd, testRegionOverdue, faultRecordClear,
fatalEscalation. -/
def Obligations.TestsAndClears : Prop :=
  (∀ (unit index e : Nat) (r : FaultRecord) (s : State),
    s.faults.records.find? (fun r => decide (r.2.state = recClearing) && r.2.testing.contains (unit, index)) = some (e, r) →
    ∃ t, exec (.knownAnswerTestEnd unit index true) s = .next t ∧
      isWithdrawn unit index t = false ∧ (∀ u, u ≠ (unit, index) → isWithdrawn u.1 u.2 t = isWithdrawn u.1 u.2 s) ∧
      (∀ n, n ≠ e → SMap.find t.faults.records n = SMap.find s.faults.records n) ∧
      SMap.find t.faults.records e =
        (if r.testing.all (fun u => decide (u = (unit, index))) then none
         else some { r with testing := r.testing.filter fun u => decide (u ≠ (unit, index)) }) ∧
      (unit = 9 → getCore t index = { getCore s index with halted := false, waitedAt := s.disp.tick }) ∧
      quiet t = quiet { s with faults := t.faults, cores := t.cores, energy := t.energy }) ∧
  (∀ (unit index e : Nat) (r : FaultRecord) (s : State),
    s.faults.records.find? (fun r => decide (r.2.state = recClearing) && r.2.testing.contains (unit, index)) = some (e, r) →
    ∃ t, exec (.knownAnswerTestEnd unit index false) s = .next t ∧
      isWithdrawn unit index t = true ∧ (∀ u, u ≠ (unit, index) → isWithdrawn u.1 u.2 t = isWithdrawn u.1 u.2 s) ∧
      quiet t = quiet { s with faults := t.faults }) ∧
  (∀ (unit index : Nat) (passed : Bool) (s : State),
    (∀ x ∈ s.faults.records, x.2.state = recClearing → x.2.testing.contains (unit, index) = false) →
    ∃ t, exec (.knownAnswerTestEnd unit index passed) s = .next t ∧ quiet t = quiet s) ∧
  (∀ (engine r : Nat) (s : State), powered s = true → s.modes.word.doze = false → s.memTest.enable = true → engine < 8 →
    (testEngine s engine).active = none → (testEngine s engine).ended + s.memTest.pace ≤ s.disp.tick →
    nextRegion s engine 128 (testEngine s engine).next = some r → regionReady s engine r = true →
    ∃ t, exec (.testRegionStart engine) s = .next t ∧
      (testEngine t engine).active = some (r, s.disp.tick) ∧ (∀ e, e ≠ engine → testEngine t e = testEngine s e) ∧
      quiet t = quiet { s with memTest := { s.memTest with engines := t.memTest.engines } }) ∧
  (∀ (engine : Nat) (s : State),
    (powered s = false ∨ s.modes.word.doze = true ∨ s.memTest.enable = false ∨ 8 ≤ engine ∨
      (testEngine s engine).active.isSome = true ∨ s.disp.tick < (testEngine s engine).ended + s.memTest.pace ∨
      (nextRegion s engine 128 (testEngine s engine).next).all (fun r => !regionReady s engine r) = true) →
    ∃ t, exec (.testRegionStart engine) s = .next t ∧ quiet t = quiet s) ∧
  (∀ (engine : Nat) (passed : Bool) (s : State),
    ∀ i ∈ ([.testRegionEnd engine passed, .testRegionOverdue engine] : List Instr), (testEngine s engine).active = none →
    ∃ t, exec i s = .next t ∧ quiet t = quiet s) ∧
  (∀ (engine r at_ : Nat) (s : State), (testEngine s engine).active = some (r, at_) →
    ((testEngine s engine).overdue = true ∨ s.disp.tick < at_ + s.memTest.overdueTime) →
    ∃ t, exec (.testRegionOverdue engine) s = .next t ∧ quiet t = quiet s) ∧
  (∀ (engine r at_ : Nat) (s : State), (testEngine s engine).active = some (r, at_) →
    ∃ t, exec (.testRegionEnd engine true) s = .next t ∧
      (testEngine t engine).active = none ∧ (testEngine t engine).next = (if r + 1 < regionCount s engine then r + 1 else 0) ∧
      t.memTest.tested = setAt s.memTest.tested (memoryOfEngine engine) (s.memTest.tested.getD (memoryOfEngine engine) 0 + 1) ∧
      (∀ e, e ≠ engine → testEngine t e = testEngine s e) ∧ quiet t = quiet { s with memTest := t.memTest }) ∧
  (∀ (engine r at_ region : Nat) (s : State), (testEngine s engine).active = some (r, at_) → engine < 4 →
    region = engine * (poolSpan s / 16) + r → holdsReserve s region = false → s.memTest.retired.length < 64 →
    s.memTest.retired.contains region = false →
    ∃ t, exec (.testRegionEnd engine false) s = .next t ∧
      t.memTest.retired = s.memTest.retired ++ [region] ∧ isWithdrawn 2 region t = true ∧
      t.memTest.failures = setAt s.memTest.failures 0 (s.memTest.failures.getD 0 0 + 1)) ∧
  (∀ (r at_ : Nat) (s : State), (testEngine s 5).active = some (r, at_) → freshFatal s (faultCode 3 0xA 0x12) = true →
    ∃ t, exec (.testRegionEnd 5 false) s = .next t ∧ FatalTaken (faultCode 3 0xA 0x12) (natLE 4 r) t) ∧
  (∀ (engine r at_ : Nat) (p : Bool × Nat) (s : State), (testEngine s engine).active = some (r, at_) → p = pairOfRegion s r →
    (engine = 6 ∨ 7 ≤ engine) →
    ∃ t, exec (.testRegionEnd engine false) s = .next t ∧
      (if engine = 6 then isWithdrawn (if p.1 then 7 else 6) p.2 t else isWithdrawn 9 (r / 64) t) = true ∧
      t.modes.word.degraded = true) ∧
  (∀ (engine r at_ : Nat) (s : State), (testEngine s engine).active = some (r, at_) → (testEngine s engine).overdue = false →
    at_ + s.memTest.overdueTime ≤ s.disp.tick →
    ∃ t, exec (.testRegionOverdue engine) s = .next t ∧
      t.memTest.overdueCount = s.memTest.overdueCount + 1 ∧
      (logRoom s = true → Logged t 0x0602 ([byte (memoryOfEngine engine)] ++
        natLE 4 (if engine < 4 then engine * (poolSpan s / 16) + r else r))) ∧ (testEngine t engine).overdue = true ∧
      (testEngine t engine).active = some (r, at_) ∧ quiet t = quiet { s with memTest := t.memTest }) ∧
  (∀ (src : Src) (s : State) (p : Path) (e : Nat) (r : FaultRecord), reaches src [1] s p 0x6100 5 [1] = true →
    e = (pathSel s p).faultSel → SMap.find s.faults.records e = some r → r.isFatal = false → r.state = recLatched →
    (r.units.all fun u => !isWithdrawn u.1 u.2 s) = true →
    ∃ t, exec (.faultRecordClear src) s = .next t ∧
      SMap.find t.faults.records e = none ∧ t.faults.clearResult = 0 ∧
      (∀ n, n ≠ e → SMap.find t.faults.records n = SMap.find s.faults.records n) ∧
      quiet t = quiet { s with faults := t.faults }) ∧
  (∀ (src : Src) (s : State) (p : Path) (e : Nat) (r : FaultRecord), reaches src [1] s p 0x6100 5 [1] = true →
    e = (pathSel s p).faultSel → SMap.find s.faults.records e = some r → r.isFatal = false → r.state = recLatched →
    (r.units.any fun u => isWithdrawn u.1 u.2 s) = true →
    ∃ t, exec (.faultRecordClear src) s = .next t ∧
      (SMap.find t.faults.records e).map (fun r => r.state) = some recClearing ∧ t.faults.withdrawn = s.faults.withdrawn ∧
      t.faults.clearResult = 0) ∧
  (∀ (src : Src) (s : State) (p : Path) (result : Nat), reaches src [1] s p 0x6100 5 [1] = true →
    (match SMap.find s.faults.records (pathSel s p).faultSel with
      | none => 1
      | some r => if r.isFatal then 3 else if r.state ≠ recLatched then 2 else 0) = result → result ≠ 0 →
    ∃ t, exec (.faultRecordClear src) s = .next t ∧
      t.faults.clearResult = result ∧ t.faults.records = s.faults.records ∧ t.faults.withdrawn = s.faults.withdrawn ∧
      quiet t = quiet { s with faults := { s.faults with clearResult := result } }) ∧
  (∀ (s : State),
    ((∀ x ∈ s.faults.records, x.2.isFatal = false) ∨ s.faults.escalating = false ∧ s.faults.delay = 0 ∨
      s.faults.escalating = false ∧ escalationWithheld s = true) →
    ∃ t, exec .fatalEscalation s = .next t ∧ quiet t = quiet s) ∧
  (∀ (e : Nat) (r : FaultRecord) (s : State), firstOpened (s.faults.records.filter fun r => r.2.isFatal) = some (e, r) →
    s.faults.escalating = false → s.faults.delay ≠ 0 → r.opened + s.faults.delay * 1000 ≤ s.disp.tick →
    escalationWithheld s = false → evlogFull s = false →
    ∃ t, exec .fatalEscalation s = .next t ∧
      t.faults.escalating = true ∧ t.faults.escalateBy = s.disp.tick + 100000 ∧
      (s.log.staged.length < 256 → Logged t 0x0205 [byte e]) ∧
      quiet t = quiet { s with faults := t.faults }) ∧
  (∀ (e : Nat) (r : FaultRecord) (s : State), firstOpened (s.faults.records.filter fun r => r.2.isFatal) = some (e, r) →
    s.faults.escalating = true → s.faults.escalateBy ≤ s.disp.tick →
    ∃ t, exec .fatalEscalation s = .next t ∧ t.boot.phase = .inReset ∧ t.disp.chains = [] ∧ t.sec.sticky = s.sec.sticky ∧
      t.sec.escalations = (if startedUp s then s.sec.escalations else s.sec.escalations + 1)) ∧
  (∀ (e : Nat) (r : FaultRecord) (s : State), firstOpened (s.faults.records.filter fun r => r.2.isFatal) = some (e, r) →
    s.faults.escalating = true → s.disp.tick < s.faults.escalateBy → eventDurable s s.faults.escalateEvent = false →
    ∃ t, exec .fatalEscalation s = .next t ∧ quiet t = quiet s)

/-- From R400, R403 to R407, R411: a page write that reads back goes to the copy not in use with SEQ one higher; one that does not
is tried again and then takes the lowest spare, and without one is given up under a Fatal fault, a Locket record staying
pending; the power-failure warning starts and ends; the end of an erase empties its pages, and is put off while a write is in
progress or the warning stands. Derived: where those rules leave an order, an encoding or a value open, the clauses take the
model's own choice, said in assumption 57. The clauses conclude that exec answers a next state of the commands pageWriteDurable,
pwrfailAssert, pwrfailDeassert, locketClear, regionEraseEnd. -/
def Obligations.PagesWrittenRetriedAndErased : Prop :=
  (∀ (w : PageWrite) (s : State), s.mram.current = some w →
    ∃ t, exec (.pageWriteDurable true) s = .next t ∧
      t.mram.pages = SMap.set Page.blank s.mram.pages (physical s (updateTarget s w).1)
        (writtenPage (physical s (updateTarget s w).1) (updateTarget s w).2 w.payload) ∧
      t.mram.writes = s.mram.writes + 1 ∧ t.mram.replaced = s.mram.replaced) ∧
  (∀ (readBack : Bool) (s : State), s.mram.current = none →
    ∃ t, exec (.pageWriteDurable readBack) s = .next t ∧ quiet t = quiet s) ∧
  (∀ (w : PageWrite) (s : State), s.mram.current = some w → w.store = .keys → s.custody.closing = false →
    ∃ t, exec (.pageWriteDurable true) s = .next t ∧
      t.keys = { s.keys with
        entries := (s.keys.floorWrites.filter fun x => decide (x.page = w.page)).foldl
          (fun m x => SMap.mapValues m fun _ e => if e.1 = x.slot then (e.1, x.floor) else e) s.keys.entries,
        floorWrites := s.keys.floorWrites.filter fun x => decide (x.page ≠ w.page) } ∧
      quiet t = quiet { s with mram := { s.mram with pages := t.mram.pages, writes := t.mram.writes }, keys := t.keys }) ∧
  (∀ (w : PageWrite) (s : State), s.mram.current = some w → w.store = .locket → s.boot.phase ≠ .inReset →
    s.custody.closing = false →
    ∃ t, exec (.pageWriteDurable true) s = .next t ∧
      t.locket = { s.locket with
        records := max s.locket.records (w.page + 1), covers := false,
        pendingRecord := if (w.payload.getD 1 0).toNat = 1 then none else s.locket.pendingRecord } ∧
      quiet t = quiet { s with mram := { s.mram with pages := t.mram.pages, writes := t.mram.writes }, locket := t.locket }) ∧
  (∀ (w : PageWrite) (s : State), s.mram.current = some w → (w.store = .imageA ∨ w.store = .imageB ∨ w.store = .log) →
    s.custody.closing = false →
    ∃ t, exec (.pageWriteDurable true) s = .next t ∧
      quiet t = quiet { s with mram := { s.mram with pages := t.mram.pages, writes := t.mram.writes } }) ∧
  (∀ (w : PageWrite) (s : State), s.mram.current = some w → w.retried = false →
    ∃ t, exec (.pageWriteDurable false) s = .next t ∧
      t.mram.current = some { w with retried := true } ∧ quiet t = quiet s) ∧
  (∀ (w : PageWrite) (s : State), s.mram.current = some w → w.retried = true → isMapPage w = false →
    s.mram.replaced.length < spareCount →
    ∃ t, exec (.pageWriteDurable false) s = .next t ∧
      t.mram.replaced = SMap.put s.mram.replaced (physical s (updateTarget s w).1) s.mram.replaced.length ∧
      t.mram.current = some { w with retried := false } ∧ t.mram.pages = s.mram.pages ∧
      pageWaiting t .config (1 + s.mram.replaced.length / 63) = true ∧
      quiet t = quiet { s with mram := { s.mram with replaced := t.mram.replaced }, faults := t.faults }) ∧
  (∀ (w : PageWrite) (s : State), s.mram.current = some w → w.retried = true → w.store = .locket →
    spareCount ≤ s.mram.replaced.length → freshFatal s (faultCode 3 0xD 4) = true →
    ∃ t, exec (.pageWriteDurable false) s = .next t ∧
      FatalTaken (faultCode 3 0xD 4) (natLE 1 w.store.number ++ natLE 4 w.page) t ∧ t.mram.pages = s.mram.pages ∧
      (w.payload.getD 1 0 = 1 → t.locket.pendingRecord = some (w.payload.take 160) ∧ t.locket.recordQueued = false)) ∧
  (∀ (w : PageWrite) (s : State), s.mram.current = some w → w.retried = true → w.store ≠ .locket →
    (isMapPage w = true ∨ spareCount ≤ s.mram.replaced.length) → freshFatal s (faultCode 3 0xD 4) = true →
    ∃ t, exec (.pageWriteDurable false) s = .next t ∧
      FatalTaken (faultCode 3 0xD 4) (natLE 1 w.store.number ++ natLE 4 w.page) t ∧ t.mram.pages = s.mram.pages) ∧
  (∀ (s : State),
    ∃ t, exec .pwrfailAssert s = .next t ∧
      t.mram.pwrfail = true ∧ t.mram.current = s.mram.current ∧
        quiet t = quiet { s with mram := { s.mram with pwrfail := true } }) ∧
  (∀ (s : State), s.life.transition = none →
    ∃ t, exec .pwrfailDeassert s = .next t ∧ t.mram.pwrfail = false ∧
      quiet t = quiet { s with mram := { s.mram with pwrfail := false } }) ∧
  (∀ (tr : Transition) (s : State), s.life.transition = some tr →
    ∃ t, exec .pwrfailDeassert s = .next t ∧
      t.mram.pwrfail = false ∧
      t.life.transition = some { tr with
        running := !tr.bits.isEmpty && !(s.mram.erases.any fun e => decide (e.purpose = .transition)) } ∧
      quiet t = quiet { s with mram := { s.mram with pwrfail := false },
                               life := { s.life with transition := t.life.transition } }) ∧
  (∀ (s : State),
    (s.mram.erases = [] ∨ s.mram.current.isSome = true ∨ s.mram.pwrfail = true ∨ s.boot.phase = .inReset ∨
      s.mram.erases.head?.map (fun e => e.purpose) = some .locketClear ∧ reserveCovers s 256 = false) →
    ∃ t, exec .regionEraseEnd s = .next t ∧ quiet t = quiet s) ∧
  (∀ (e : Erase) (rest : List Erase) (s : State), s.mram.erases = e :: rest → s.mram.current = none → s.mram.pwrfail = false →
    s.boot.phase ≠ .inReset → (e.purpose = .locketClear → reserveCovers s 256 = true) →
    ∃ t, exec .regionEraseEnd s = .next t ∧
      t.mram.pages = (erasePages e.store e.pages s).mram.pages ∧ t.mram.erases = rest) ∧
  (∀ (e : Erase) (rest : List Erase) (s : State), s.mram.erases = e :: rest → s.mram.current = none → s.mram.pwrfail = false →
    s.boot.phase ≠ .inReset → (e.purpose = .zeroise ∨ e.purpose = .peerStore ∨ e.purpose = .seed) →
    ∃ t, exec .regionEraseEnd s = .next t ∧
      quiet t = quiet { s with mram := { s.mram with pages := t.mram.pages, erases := rest } }) ∧
  (∀ (e : Erase) (rest : List Erase) (s : State), s.mram.erases = e :: rest → s.mram.current = none → s.mram.pwrfail = false →
    s.boot.phase ≠ .inReset → e.purpose = .logClear →
    ∃ t, exec .regionEraseEnd s = .next t ∧
      t.log.records = 2 ∧ t.log.hold = none ∧ pageWaiting t .log 0 = true ∧ quiet t = quiet
        { s with mram := { s.mram with pages := t.mram.pages, erases := rest }, log := t.log }) ∧
  (∀ (e : Erase) (rest : List Erase) (s : State), s.mram.erases = e :: rest → s.mram.current = none → s.mram.pwrfail = false →
    s.boot.phase ≠ .inReset → e.purpose = .locketClear → reserveCovers s 256 = true →
    ∃ t, exec .regionEraseEnd s = .next t ∧
      t.locket.records = 0 ∧ t.locket.covers = false ∧ pageWaiting t .locket 0 = true ∧
      (s.locket.pendingRecord.isSome = true → pageWaiting t .locket 1 = true) ∧
      (logRoom s = true → Logged t 0x0507 (natLE 4 s.locket.records)) ∧
      quiet t = quiet { s with mram := { s.mram with pages := t.mram.pages, erases := rest }, locket := t.locket, rng := t.rng,
                               freeUses := t.freeUses }) ∧
  (∀ (e : Erase) (rest : List Erase) (s : State), s.mram.erases = e :: rest → s.mram.current = none → s.mram.pwrfail = false →
    s.boot.phase ≠ .inReset → e.purpose = .latch →
    ∃ t, exec .regionEraseEnd s = .next t ∧
      t.sec.latch = (if latchOpen s then 0 else Config.openPattern) ∧ t.life.resetDue = some (s.disp.tick + 1000) ∧
      (logRoom s = true → Logged t 0x0309 [if latchOpen s then 2 else 1]) ∧
      quiet t = quiet { s with mram := { s.mram with pages := t.mram.pages, erases := rest },
                               sec := { s.sec with latch := t.sec.latch, reopenings := t.sec.reopenings },
                               life := { s.life with resetDue := t.life.resetDue }, custody := t.custody }) ∧
  (∀ (e : Erase) (rest : List Erase) (tr : Transition) (s : State), s.mram.erases = e :: rest → s.mram.current = none →
    s.mram.pwrfail = false → s.boot.phase ≠ .inReset → e.purpose = .transition → s.life.transition = some tr → tr.bits ≠ [] →
    ∃ t, exec .regionEraseEnd s = .next t ∧
      t.life.transition = some { tr with running := true } ∧
      quiet t = quiet { s with mram := { s.mram with pages := t.mram.pages, erases := rest },
                               life := { s.life with transition := t.life.transition } })

/-- From R409, R424 to R428, R475, R478, R481, R482: a staged event is appended as the next record, or counted on the last one when
it repeats it; an export builds the signed statement over every record, is logged, and with a hold keeps the log as it is until
the hold's time has run; a clear that a statement covers starts its erase and any other shows 1; each store is sought for its
tail. Derived: where those rules leave an order, an encoding or a value open, the clauses take the model's own choice, said in
assumptions 14, 49 and 57. The clauses conclude that exec answers a next state of the commands eventAppend, eventLogExport,
eventLogExportHold, holdTimeout, locketExport, eventLogClear, eventLogTailFound, locketTailFound, locketClear. -/
def Obligations.LogsAppendedExportedAndCleared : Prop :=
  (∀ (e : LogEvent) (s : State), canAppend s = true → s.log.staged = [e] → s.log.warn = false → repeatsLast s e = false →
    evlogFull s = false → s.log.records + 1 ≠ logWarning → s.custody.closing = false →
    ∃ t, exec .eventAppend s = .next t ∧
      t.log.records = s.log.records + 1 ∧ t.log.last = logRecord s.log.nextSeq.toNat e 1 ∧ t.log.covers = false ∧
      t.log.nextSeq = nextSeqOf s.log.nextSeq ∧ pageWaiting t .log (s.log.records / 7) = true ∧
      quiet t = quiet { s with log := t.log }) ∧
  (∀ (e : LogEvent) (s : State), canAppend s = true → s.log.staged = [e] → s.log.warn = false → repeatsLast s e = true →
    evlogFull s = false → s.custody.closing = false →
    ∃ t, exec .eventAppend s = .next t ∧
      t.log.records = s.log.records ∧ t.log.last = repeatRecord s.log.last ∧
      pageWaiting t .log ((s.log.records - 1) / 7) = true ∧ quiet t = quiet { s with log := t.log }) ∧
  (∀ (s : State), canAppend s = false → ∃ t, exec .eventAppend s = .next t ∧ quiet t = quiet s) ∧
  (∀ (s : State), canAppend s = true → evlogFull s = true → modesTrue s = true →
    s.custody.closing = false →
    ∃ t, exec .eventAppend s = .next t ∧
      t.log.records = s.log.records ∧ t.log.last = s.log.last ∧ t.log.staged = [] ∧
      t.log.notRecorded = s.log.notRecorded + BitVec.ofNat 64 s.log.staged.length ∧ quiet t = quiet s) ∧
  (∀ (src : Src) (s : State) (p : Path), reaches src [1] s p 0x6200 6 [1] = true → canSign s = true → logRoom s = true →
    ∃ t, exec (.eventLogExport src) s = .next t ∧
      slice 16 48 t.log.statement =
        padTo 48 (sha384 ((List.range s.log.records).map fun r => logRecordAt s r).flatten) ∧
      t.log.covers = true ∧ t.log.records = s.log.records ∧ (∃ args, Logged t 0x0704 args) ∧
      quiet t = quiet { s with log := t.log, rng := t.rng, freeUses := t.freeUses }) ∧
  (∀ (src : Src) (s : State) (p : Path), reaches src [2] s p 0x6200 6 [2] = true → canSign s = true →
    s.log.staged.length < 255 → evlogFull s = false →
    ∃ t, exec (.eventLogExportHold src) s = .next t ∧
      slice 16 48 t.log.statement =
        padTo 48 (sha384 ((List.range s.log.records).map fun r => logRecordAt s r).flatten) ∧
      t.log.covers = true ∧ t.log.hold = some (s.disp.tick + s.log.holdTime * 1000000) ∧ t.log.records = s.log.records ∧
      quiet t = quiet { s with log := t.log, rng := t.rng, freeUses := t.freeUses }) ∧
  (∀ (due : Nat) (s : State), s.log.hold = some due → due ≤ s.disp.tick →
    ∃ t, exec .holdTimeout s = .next t ∧ t.log.hold = none ∧ t.log.records = s.log.records ∧ quiet t = quiet s) ∧
  (∀ (s : State), s.log.hold.all (fun due => decide (s.disp.tick < due)) = true →
    ∃ t, exec .holdTimeout s = .next t ∧ quiet t = quiet s) ∧
  (∀ (src : Src) (s : State) (p : Path), reaches src [1] s p 0x6200 6 [1] = true → canSign s = false →
    ∃ t, exec (.eventLogExport src) s = .next t ∧ quiet t = quiet s) ∧
  (∀ (src : Src) (s : State) (p : Path), reaches src [2] s p 0x6200 6 [2] = true → canSign s = false →
    ∃ t, exec (.eventLogExportHold src) s = .next t ∧ quiet t = quiet s) ∧
  (∀ (src : Src) (s : State) (p : Path), reaches src [1] s p 0x6300 5 [1] = true → canSign s = false →
    ∃ t, exec (.locketExport src) s = .next t ∧ quiet t = quiet s) ∧
  (∀ (src : Src) (s : State) (p : Path), reaches src [1] s p 0x6200 9 [1] = true → s.log.hold.isSome = true →
    s.log.covers = true → evlogFull s = false →
    ∃ t, exec (.eventLogClear src) s = .next t ∧
      logErasing t = true ∧ t.log.clearResult = 0 ∧ t.log.records = s.log.records ∧
      t.mram.pages = s.mram.pages ∧
      quiet t = quiet { s with mram := { s.mram with erases := t.mram.erases }, log := t.log, custody := t.custody }) ∧
  (∀ (src : Src) (s : State) (p : Path), reaches src [1] s p 0x6200 9 [1] = true →
    (s.log.hold = none ∨ s.log.covers = false) →
    ∃ t, exec (.eventLogClear src) s = .next t ∧
      quiet t = quiet { s with log := { s.log with clearResult := 1 } }) ∧
  (∀ (s : State), tailsSought s = true → s.locket.tailFound = true → s.log.tailFound = false →
    ∃ t, exec .eventLogTailFound s = .next t ∧
      t.log.tailFound = true ∧ t.log.records = (findLogTail s).log.records ∧ t.log.nextSeq = (findLogTail s).log.nextSeq ∧
      t.mram.pages = (findLogTail s).mram.pages ∧
      (s.boot.phase = .loading → logRoom t = true → Logged t 0x0501
        (natLE 8 s.mram.bootCounter.toNat ++ [byte s.boot.slot] ++ natLE 2 (bootFlags (findLogTail s)))) ∧
      quiet t = quiet { s with mram := { s.mram with torn := t.mram.torn, lost := t.mram.lost }, log := t.log,
                               faults := t.faults }) ∧
  (∀ (s : State), tailsSought s = false ∨ s.locket.tailFound = false ∨ s.log.tailFound = true →
    ∃ t, exec .eventLogTailFound s = .next t ∧ quiet t = quiet s) ∧
  (∀ (s : State), tailsSought s = false ∨ s.locket.tailFound = true →
    ∃ t, exec .locketTailFound s = .next t ∧ quiet t = quiet s) ∧
  (∀ (s : State), tailsSought s = true → s.locket.tailFound = false → s.boot.phase ≠ .loading →
    ∃ t, exec .locketTailFound s = .next t ∧
      t.locket.tailFound = true ∧ t.locket.records = (locketTail (scanStore .locket s)) ∧
      t.log.records = s.log.records ∧
      quiet t = quiet { s with mram := { s.mram with torn := t.mram.torn, lost := t.mram.lost }, locket := t.locket,
                               faults := t.faults }) ∧
  (∀ (s : State), tailsSought s = true → s.locket.tailFound = false → s.boot.phase = .loading → canSign s = true →
    locketTail (scanStore .locket s) < locketCapacity →
    ∃ t, exec .locketTailFound s = .next t ∧
      t.locket.tailFound = true ∧ t.locket.recordQueued = true ∧
      pageWaiting t .locket (locketTail (scanStore .locket s)) = true) ∧
  (∀ (s : State), tailsSought s = true → s.locket.tailFound = false → s.boot.phase = .loading → canSign s = true →
    locketCapacity ≤ locketTail (scanStore .locket s) →
    ∃ t, exec .locketTailFound s = .next t ∧ t.locket.tailFound = true ∧ t.locket.pendingRecord.isSome = true) ∧
  (∀ (src : Src) (s : State) (p : Path), reaches src [1] s p 0x6300 5 [1] = true → canSign s = true →
    ∃ t, exec (.locketExport src) s = .next t ∧
      slice 16 48 t.locket.statement = padTo 48 (sha384 ((List.range s.locket.records).flatMap fun r => locketRecord s r)) ∧
      t.locket.covers = true ∧ t.locket.records = s.locket.records ∧
      quiet t = quiet { s with locket := t.locket, rng := t.rng, freeUses := t.freeUses }) ∧
  (∀ (src : Src) (s : State) (p : Path), reaches src [1] s p 0x6300 8 [1] = true → s.locket.covers = true →
    ∃ t, exec (.locketClear src) s = .next t ∧
      (t.mram.erases.any fun e => decide (e.purpose = .locketClear)) = true ∧ t.locket.clearResult = 0 ∧
      t.mram.pages = s.mram.pages ∧
      quiet t = quiet { s with mram := { s.mram with erases := t.mram.erases }, locket := { s.locket with clearResult := 0 },
                               custody := t.custody }) ∧
  (∀ (src : Src) (s : State) (p : Path), reaches src [1] s p 0x6300 8 [1] = true → s.locket.covers = false →
    ∃ t, exec (.locketClear src) s = .next t ∧ quiet t = quiet { s with locket := { s.locket with clearResult := 1 } })

/-- From R415, R421 to R423, R522: a staging begins, takes its bytes by DMA or in chunks, is verified, abandoned or timed out, and
an image that is VERIFIED is activated, each as the slot's state and the path of the staging permit; whatever is refused shows
its result and changes nothing else. Derived: where those rules leave an order, an encoding or a value open, the clauses take
the model's own choice, said in assumption 58. The clauses conclude that exec answers a next state of the commands
stageBeginChunks, stageBeginDma, stageDmaData, stageChunk, stageVerify, stageVerificationEnd, stageAbandon, stagingTimeout,
activate. -/
def Obligations.ImagesStagedVerifiedAndActivated : Prop :=
  (∀ (src : Src) (s : State) (p : Path), reaches src [2] s p 0x9000 7 [2] = true → otherPath s p = false → beginResult s = 0 →
    ∃ t, exec (.stageBeginChunks src) s = .next t ∧
      imageState t (inactiveSlot s) = slotStaging ∧ t.images.byPath = pathKey p ∧ t.images.dma = false ∧ t.images.chunks = [] ∧
      t.images.stageDue = some (s.disp.tick + s.images.timeout) ∧ t.mram.pendingSlot ≠ inactiveSlot s ∧
      quiet t = quiet { s with images := t.images, mram := t.mram }) ∧
  (∀ (src : Src) (s : State) (p : Path), reaches src [1] s p 0x9000 7 [1] = true → otherPath s p = false → beginResult s = 0 →
    ∃ t, exec (.stageBeginDma src) s = .next t ∧
      imageState t (inactiveSlot s) = slotStaging ∧ t.images.byPath = pathKey p ∧ t.images.dma = true ∧ t.images.chunks = [] ∧
      t.images.stageDue = some (s.disp.tick + s.images.timeout) ∧
      t.host.reads.map (fun r => (r.ident, r.kind, r.fn, r.addr, r.len)) =
        s.host.reads.map (fun r => (r.ident, r.kind, r.fn, r.addr, r.len)) ++
          [(s.host.readSeq, .image 0, 0, s.images.stageAddr, min dmaChunk s.images.stageLen)] ∧
      quiet t = quiet { s with images := t.images, mram := t.mram, host := t.host }) ∧
  (∀ (src : Src) (s : State) (p : Path), reaches src [2] s p 0x9000 7 [2] = true → otherPath s p = false → beginResult s ≠ 0 →
    ∃ t, exec (.stageBeginChunks src) s = .next t ∧ quiet t = quiet (stageResult (beginResult s) s)) ∧
  (∀ (ident off : Nat) (bytes : Bytes) (r : HostRead) (s : State), findRead s ident = some r → r.kind = .image off →
    inactiveState s = slotStaging → bytes.length = r.len → off + r.len < s.images.imageLen →
    ∃ t, exec (.stageDmaData ident (.data bytes)) s = .next t ∧
      t.images.chunks = (off, bytes) :: s.images.chunks ∧ t.images.stageDue = some (s.disp.tick + s.images.timeout) ∧
      t.host.reads.map (fun r => (r.ident, r.kind, r.fn, r.addr, r.len)) =
        (s.host.reads.filter fun r => decide (r.ident ≠ ident)).map (fun r => (r.ident, r.kind, r.fn, r.addr, r.len)) ++
          [(s.host.readSeq, .image (off + r.len), 0, s.images.imageAddr + (off + r.len),
            min dmaChunk (s.images.imageLen - (off + r.len)))] ∧
      quiet t = quiet { s with images := t.images,
                               host := { s.host with reads := t.host.reads, readSeq := s.host.readSeq + 1 } }) ∧
  (∀ (ident off : Nat) (r : HostRead) (s : State), findRead s ident = some r → r.kind = .image off →
    inactiveState s = slotStaging →
    ∃ t, exec (.stageDmaData ident .unsupported) s = .next t ∧
      imageState t (inactiveSlot s) = slotEmpty ∧ t.images.stageResult = 0x13 ∧ t.images.chunks = [] ∧
      t.host.reads.all (fun r => match r.kind with | .image _ => false | _ => true) = true ∧
      quiet t = quiet (endStaging slotEmpty 0x13 (dropRead ident s))) ∧
  (∀ (src : Src) (value : Bytes) (s : State) (p : Path), reaches src value s p 0x9000 8 value = true → otherPath s p = false →
    inactiveState s = slotStaging → s.images.dma = false → leNat (value.take 4) + (value.drop 4).length ≤ s.images.imageLen →
    ∃ t, exec (.stageChunk src value) s = .next t ∧
      t.images.chunks = (leNat (value.take 4), value.drop 4) :: s.images.chunks ∧
      t.images.stageDue = some (s.disp.tick + s.images.timeout) ∧ quiet t = quiet { s with images := t.images }) ∧
  (∀ (src : Src) (value : Bytes) (s : State) (p : Path), reaches src value s p 0x9000 8 value = true →
    (otherPath s p = true ∨ inactiveState s ≠ slotStaging ∨ s.images.dma = true ∨
      s.images.imageLen < leNat (value.take 4) + (value.drop 4).length) →
    ∃ t, exec (.stageChunk src value) s = .next t ∧ quiet t = quiet s) ∧
  (∀ (src : Src) (s : State) (p : Path), reaches src [3] s p 0x9000 7 [3] = true → otherPath s p = false → lockedNow s = false →
    (inactiveState s = slotStaging ∧ stageWritten s = true ∨ inactiveState s = slotWritten) →
    ∃ t, exec (.stageVerify src) s = .next t ∧
      imageState t (inactiveSlot s) = slotVerifying ∧ t.images.byPath = pathKey p ∧
      t.images.stageDue = some (s.images.stageDue.getD (s.disp.tick + s.images.timeout)) ∧
      quiet t = quiet { s with images := t.images }) ∧
  (∀ (code : Nat) (s : State), inactiveState s = slotVerifying → signaturesOpen s true = false →
    slotCheckCode s (inactiveSlot s) = code → 0 < code → code < 5 →
    ∃ t, exec .stageVerificationEnd s = .next t ∧
      imageState t (inactiveSlot s) = slotRejected ∧ t.images.stageResult = code ∧ t.mram.pages = s.mram.pages ∧
      quiet t = quiet (endStaging slotRejected code s)) ∧
  (∀ (code : Nat) (s : State), inactiveState s = slotVerifying → signaturesOpen s true = false →
    slotCheckCode s (inactiveSlot s) = code → (code = 0 ∨ 5 ≤ code) →
    ∃ t, exec .stageVerificationEnd s = .next t ∧
      t.tamper.decisions = s.tamper.decisions ++ signatureDecisions true code ∧ signaturesOpen t true = true ∧
      quiet t = quiet { s with tamper := t.tamper, rng := t.rng }) ∧
  (∀ (src : Src) (s : State) (p : Path), reaches src [4] s p 0x9000 7 [4] = true → otherPath s p = false →
    stagingRuns s = true →
    ∃ t, exec (.stageAbandon src) s = .next t ∧
      imageState t (inactiveSlot s) = slotEmpty ∧ t.images.stageResult = 0 ∧
      quiet t = quiet (endStaging slotEmpty 0 s)) ∧
  (∀ (src : Src) (s : State) (p : Path), reaches src [4] s p 0x9000 7 [4] = true → otherPath s p = true →
    ∃ t, exec (.stageAbandon src) s = .next t ∧ quiet t = quiet s) ∧
  (∀ (due : Nat) (s : State), s.images.stageDue = some due → stagingRuns s = true → due ≤ s.disp.tick →
    ∃ t, exec .stagingTimeout s = .next t ∧
      imageState t (inactiveSlot s) = slotEmpty ∧ t.images.stageResult = 0x12 ∧ quiet t = quiet (endStaging slotEmpty 0x12 s)) ∧
  (∀ (src : Src) (s : State) (p : Path), reaches src [1] s p 0x9000 0xF [1] = true → activationResult s = 0 →
    ∃ t, exec (.activate src) s = .next t ∧
      t.mram.pendingSlot = inactiveSlot s ∧ pageWaiting t .config 0 = true ∧ t.images.activationResult = 0 ∧
      t.mram.pages = s.mram.pages ∧
      quiet t = quiet { s with images := { s.images with activationResult := 0 },
                               mram := { s.mram with pendingSlot := inactiveSlot s }, custody := t.custody }) ∧
  (∀ (src : Src) (s : State) (p : Path) (r : Nat), reaches src [1] s p 0x9000 0xF [1] = true → activationResult s = r → r ≠ 0 →
    ∃ t, exec (.activate src) s = .next t ∧ quiet t = quiet { s with images := { s.images with activationResult := r } }) ∧
  (∀ (src : Src) (s : State) (p : Path), reaches src [1] s p 0x9000 7 [1] = true → otherPath s p = false → beginResult s ≠ 0 →
    ∃ t, exec (.stageBeginDma src) s = .next t ∧ quiet t = quiet (stageResult (beginResult s) s)) ∧
  (∀ (src : Src) (s : State) (p : Path), reaches src [1] s p 0x9000 7 [1] = true → otherPath s p = true →
    ∃ t, exec (.stageBeginDma src) s = .next t ∧ quiet t = quiet s) ∧
  (∀ (src : Src) (s : State) (p : Path), reaches src [2] s p 0x9000 7 [2] = true → otherPath s p = true →
    ∃ t, exec (.stageBeginChunks src) s = .next t ∧ quiet t = quiet s) ∧
  (∀ (src : Src) (s : State) (p : Path), reaches src [3] s p 0x9000 7 [3] = true → otherPath s p = true →
    ∃ t, exec (.stageVerify src) s = .next t ∧ quiet t = quiet s) ∧
  (∀ (src : Src) (s : State) (p : Path) (r : Nat), reaches src [3] s p 0x9000 7 [3] = true → otherPath s p = false →
    (lockedNow s = true ∧ r = 0x11 ∨ lockedNow s = false ∧ r = 0x10 ∧ inactiveState s ≠ slotWritten ∧
      (inactiveState s ≠ slotStaging ∨ stageWritten s = false)) →
    ∃ t, exec (.stageVerify src) s = .next t ∧ quiet t = quiet (stageResult r s)) ∧
  (∀ (src : Src) (s : State) (p : Path), reaches src [4] s p 0x9000 7 [4] = true → stagingRuns s = false →
    ∃ t, exec (.stageAbandon src) s = .next t ∧ quiet t = quiet (stageResult 0x10 s)) ∧
  (∀ (ident : Nat) (answer : ReadAnswer) (s : State),
    (findRead s ident).all (fun r => match r.kind with | .image _ => false | _ => true) →
    ∃ t, exec (.stageDmaData ident answer) s = .next t ∧ quiet t = quiet s) ∧
  (∀ (ident : Nat) (off : Nat) (r : HostRead) (answer : ReadAnswer) (s : State), findRead s ident = some r →
    r.kind = .image off →
    inactiveState s ≠ slotStaging →
    ∃ t, exec (.stageDmaData ident answer) s = .next t ∧ quiet t = quiet (dropRead ident s)) ∧
  (∀ (s : State), inactiveState s ≠ slotVerifying ∨ signaturesOpen s true = true →
    ∃ t, exec .stageVerificationEnd s = .next t ∧ quiet t = quiet s) ∧
  (∀ (s : State), stagingRuns s = false ∨ s.images.stageDue.all (fun due => decide (s.disp.tick < due)) = true →
    ∃ t, exec .stagingTimeout s = .next t ∧ quiet t = quiet s)

/-- From R415 to R417, R419, R445, R528 to R530: the verification of the boot images goes on to the signatures of the next slot or
to recovery; the security version goes up bit by bit to the running image's; the unlock reloads the key store; board data and
certificates are written page by page, and a chain that is present is not touched. Derived: where those rules leave an order, an
encoding or a value open, the clauses take the model's own choice, said in assumptions 25, 27, 58 and 66. The clauses conclude
that exec answers a next state of the commands imageVerificationEnd, securityVersionAdvance, unlockReloadEnd, boardDataWrite,
certificateChunk, certificateCommit. -/
def Obligations.BootVersionsCertificatesAndReload : Prop :=
  (∀ (s : State), s.boot.phase = .verifying → signaturesOpen s false = false → bootCandidate s = none →
    freshFatal s (faultCode 3 0xD 5) = true →
    ∃ t, exec .imageVerificationEnd s = .next t ∧ t.boot.phase = .recovery ∧ FatalTaken (faultCode 3 0xD 5) [] t) ∧
  (∀ (x : Nat) (s : State), s.boot.phase = .verifying → signaturesOpen s false = false → bootCandidate s = some x →
    signatureDecisions false (slotCheckCode s x) ≠ [] →
    ∃ t, exec .imageVerificationEnd s = .next t ∧
      t.tamper.decisions = s.tamper.decisions ++ signatureDecisions false (slotCheckCode s x) ∧
      quiet t = quiet { s with tamper := t.tamper, rng := t.rng }) ∧
  (∀ (s : State), recordIsDurable s = true → s.boot.advanced = false → s.mram.pwrfail = false → s.life.advance = none →
    fusedVersion s + 1 = s.boot.imageSecurity → s.boot.imageSecurity ≤ 64 → logRoom s = true →
    ∃ t, exec (.securityVersionAdvance true) s = .next t ∧
      t.life.secver = s.life.secver ||| BitVec.ofNat 64 (2 ^ fusedVersion s) ∧ t.boot.advanced = true ∧
      (∃ args, Logged t 0x0504 args) ∧
      quiet t = quiet { s with life := t.life, boot := { s.boot with advanced := true } }) ∧
  (∀ (s : State), recordIsDurable s = true → s.boot.advanced = false → s.mram.pwrfail = false → s.life.advance = none →
    fusedVersion s + 1 < s.boot.imageSecurity → s.boot.imageSecurity ≤ 64 →
    ∃ t, exec (.securityVersionAdvance true) s = .next t ∧
      t.life.secver = s.life.secver ||| BitVec.ofNat 64 (2 ^ fusedVersion s) ∧
      t.life.advance = some (fusedVersion s + 1, fusedVersion s) ∧ quiet t = quiet { s with life := t.life }) ∧
  (∀ (s : State), s.tamper.reloading = true → startedUp s = true → reloadReady s = true → seedMissing s = false →
    ∃ t, exec .unlockReloadEnd s = .next t ∧
      t.tamper.reloading = false ∧ t.keys.storageHeld = true ∧ t.keys.reloaded = true ∧ t.keys.vault = s.keys.vault ∧
      quiet t = quiet { s with keys := t.keys, mram := { s.mram with pages := t.mram.pages }, faults := t.faults,
                               tamper := { s.tamper with reloading := false } }) ∧
  (∀ (src : Src) (value : Bytes) (s : State) (p : Path), reaches src value s p 0x1000 0x17 value = true →
    ∃ t, exec (.boardDataWrite src value) s = .next t ∧ pageWaiting t .config boardPage = true ∧ quiet t = quiet s) ∧
  (∀ (src : Src) (value : Bytes) (s : State) (p : Path), reaches src value s p 0x1000 0x14 value = true →
    directoryBlank s = true →
    ∃ t, exec (.certificateChunk src value) s = .next t ∧
      t.dict.certData = (leNat (value.take 4), value.drop 4) :: s.dict.certData ∧
      quiet t = quiet { s with dict := { s.dict with certData := t.dict.certData } }) ∧
  (∀ (src : Src) (value : Bytes) (s : State) (p : Path), reaches src value s p 0x1000 0x14 value = true →
    directoryBlank s = false →
    ∃ t, exec (.certificateChunk src value) s = .next t ∧ quiet t = quiet s) ∧
  (∀ (src : Src) (value : Bytes) (s : State) (p : Path), reaches src value s p 0x1000 0x15 value = true →
    certCommitResult s value = 0 →
    ∃ t, exec (.certificateCommit src value) s = .next t ∧
      pageWaiting t .config certDirectory = true ∧ quiet t = quiet { s with dict := { s.dict with certResult := 0 } }) ∧
  (∀ (src : Src) (value : Bytes) (s : State) (p : Path) (r : Nat), reaches src value s p 0x1000 0x15 value = true →
    certCommitResult s value = r → r ≠ 0 →
    ∃ t, exec (.certificateCommit src value) s = .next t ∧
      quiet t = quiet { s with dict := { s.dict with certResult := r } }) ∧
  (∀ (s : State), s.boot.phase ≠ .verifying ∨ signaturesOpen s false = true →
    ∃ t, exec .imageVerificationEnd s = .next t ∧ quiet t = quiet s) ∧
  (∀ (readBack : Bool) (s : State),
    (recordIsDurable s = false ∨ s.boot.advanced = true ∨ s.mram.pwrfail = true ∨ 64 < s.boot.imageSecurity ∨
      s.life.advance = none ∧ s.boot.imageSecurity ≤ fusedVersion s) →
    ∃ t, exec (.securityVersionAdvance readBack) s = .next t ∧ quiet t = quiet s) ∧
  (∀ (n first : Nat) (s : State), recordIsDurable s = true → s.boot.advanced = false → s.mram.pwrfail = false →
    s.life.advance.getD (fusedVersion s, fusedVersion s) = (n, first) → n + 1 < s.boot.imageSecurity →
      s.boot.imageSecurity ≤ 64 →
    ∃ t, exec (.securityVersionAdvance false) s = .next t ∧
      quiet t = quiet { s with life := { s.life with advance := some (n + 1, first) } }) ∧
  (∀ (s : State), s.tamper.reloading = false ∨ startedUp s = false ∨ reloadReady s = false →
    ∃ t, exec .unlockReloadEnd s = .next t ∧ quiet t = quiet s)

/-- From R14, R431, R433, R434, R436, R438, R440 to R442, R445: an armed source that begins sets its flag, locks the part and erases
its keys, and the vault too for Class 2; a decision taken twice stands or, when the two disagree, is a tamper of its own; arming
waits for two correct periods and disarming does not; the flags are cleared only when no source is live and the flags are named
as they are. Derived: where those rules leave an order, an encoding or a value open, the clauses take the model's own choice,
said in assumption 59. The clauses conclude that exec answers a next state of the commands tamperSource, alarmLinesDisagree,
lightDetectorDisagreement, doubleDecisionSecond, externalFiligreeArm, sealLoopArm, armingComplete, clearFlags. -/
def Obligations.TamperSourcesArmedAnsweredAndCleared : Prop :=
  (∀ (source : Nat) (s : State), monitorArmed s source = true → s.boot.phase ≠ .inReset →
    ∃ t, exec (.tamperSource source true) s = .next t ∧
      t.sec.sticky = s.sec.sticky ||| 2 ^ source ∧ t.sec.responses = s.sec.responses + 1 ∧ t.keys.slots = [] ∧
      t.keys.rootHeld = false ∧ t.rng.drbg = none ∧ (tamperClass source = 2 → t.keys.vault = []) ∧
      t.engines.lanes = [] ∧ t.custody.kmac = [] ∧ t.modes.word.locked = true ∧ t.modes.word.service = false ∧
      (.tamper source, true) ∈ t.tamper.decisions ∧ bitOf t.tamper.live source = true) ∧
  (∀ (source : Nat) (s : State), source < 10 → monitorArmed s source = false →
    ∃ t, exec (.tamperSource source true) s = .next t ∧ quiet t = quiet s) ∧
  (∀ (source : Nat) (s : State), source < 10 →
    ∃ t, exec (.tamperSource source false) s = .next t ∧
      bitOf t.tamper.live source = false ∧
        quiet t = quiet { s with tamper := { s.tamper with live := t.tamper.live, lightAlone := t.tamper.lightAlone } }) ∧
  (∀ (s : State), s.boot.phase ≠ .inReset → tamperArmed s = true →
    ∃ t, exec .alarmLinesDisagree s = .next t ∧
      t.sec.sticky = s.sec.sticky ||| 2 ^ 6 ∧ t.keys.slots = [] ∧ t.keys.rootHeld = false ∧ t.modes.word.locked = true) ∧
  (∀ (s : State), s.boot.phase = .inReset ∨ tamperArmed s = false → ∃ t, exec .alarmLinesDisagree s = .next t ∧
    quiet t = quiet s) ∧
  (∀ (detector at_ : Nat) (s : State), s.tamper.lightAlone = some (detector, at_, false) →
    at_ + 32768 < s.sec.deviceTime.toNat →
    ∃ t, exec (.lightDetectorDisagreement detector) s = .next t ∧
      t.sec.lightDisagreements = s.sec.lightDisagreements + 1 ∧ (logRoom s = true → Logged t 0x0302 [byte detector]) ∧
      quiet t = quiet { s with sec := { s.sec with lightDisagreements := t.sec.lightDisagreements },
                               tamper := { s.tamper with lightAlone := some (detector, at_, true) } }) ∧
  (∀ (detector : Nat) (s : State),
    s.tamper.lightAlone.all (fun x => decide (x.1 ≠ detector ∨ s.sec.deviceTime.toNat ≤ x.2.1 + 32768) || x.2.2) = true →
    ∃ t, exec (.lightDetectorDisagreement detector) s = .next t ∧ quiet t = quiet s) ∧
  (∀ (agrees : Bool) (s : State), s.tamper.decisions = [] → ∃ t, exec (.doubleDecisionSecond agrees) s = .next t ∧
    quiet t = quiet s) ∧
  (∀ (rest : List (Decision × Bool)) (s : State), s.tamper.decisions = (.debugEnable, true) :: rest →
    s.boot.phase ≠ .inReset → tamperArmed s = true →
    ∃ t, exec (.doubleDecisionSecond false) s = .next t ∧
      t.life.portClosed = true ∧ t.life.debugOpen = true ∧ t.sec.decisionDisagreements = s.sec.decisionDisagreements + 1 ∧
      t.sec.sticky = s.sec.sticky ||| 2 ^ 6 ∧ t.keys.slots = [] ∧ t.modes.word.locked = true) ∧
  (∀ (src : Nat) (first : Bool) (rest : List (Decision × Bool)) (s : State), s.tamper.decisions = (.tamper src, first) :: rest →
    ∃ t, exec (.doubleDecisionSecond true) s = .next t ∧
      quiet t = quiet { s with tamper := { s.tamper with decisions := rest } }) ∧
  (∀ (src : Nat) (first : Bool) (rest : List (Decision × Bool)) (s : State), s.tamper.decisions = (.tamper src, first) :: rest →
    s.boot.phase ≠ .inReset → tamperArmed s = true →
    ∃ t, exec (.doubleDecisionSecond false) s = .next t ∧
      t.sec.decisionDisagreements = s.sec.decisionDisagreements + 1 ∧ t.sec.sticky = s.sec.sticky ||| 2 ^ 6 ∧
      t.keys.slots = [] ∧ t.modes.word.locked = true) ∧
  (∀ (src : Src) (value : Bytes) (s : State) (p : Path), reaches src value s p 0x6000 5 value = true → s.tamper.arming = none →
    leNat value ||| s.sec.extArmed ≠ s.sec.extArmed →
    ∃ t, exec (.externalFiligreeArm src value) s = .next t ∧
      t.sec.extArmed = s.sec.extArmed ∧
      quiet t = quiet { s with tamper := { s.tamper with arming := some (leNat value, s.sec.sealArmed) } }) ∧
  (∀ (src : Src) (value : Bytes) (s : State) (p : Path), reaches src value s p 0x6000 5 value = true → s.tamper.arming = none →
    leNat value ||| s.sec.extArmed = s.sec.extArmed → leNat value ≠ s.sec.extArmed →
    ∃ t, exec (.externalFiligreeArm src value) s = .next t ∧
      t.sec.extArmed = leNat value ∧ (s.log.staged.length < 256 → evlogFull s = false → ∃ args, Logged t 0x0306 args) ∧
      quiet t = quiet { s with sec := { s.sec with extArmed := leNat value }, tamper := { s.tamper with unlockResult := 0 } }) ∧
  (∀ (src : Src) (value : Bytes) (ext : Nat) (loop : Bool) (s : State) (p : Path), reaches src value s p 0x6000 5 value = true →
    s.tamper.arming = some (ext, loop) → leNat value ||| s.sec.extArmed ≠ s.sec.extArmed →
    ∃ t, exec (.externalFiligreeArm src value) s = .next t ∧
      quiet t = quiet { s with tamper := { s.tamper with arming := some (leNat value, loop) } }) ∧
  (∀ (src : Src) (s : State) (p : Path), reaches src [1] s p 0x6000 6 [1] = true → s.tamper.arming = none →
    s.sec.sealArmed = false →
    ∃ t, exec (.sealLoopArm src [1]) s = .next t ∧
      t.sec.sealArmed = false ∧ quiet t = quiet { s with tamper := { s.tamper with arming := some (s.sec.extArmed, true) } }) ∧
  (∀ (src : Src) (s : State) (p : Path), reaches src [0] s p 0x6000 6 [0] = true → s.tamper.arming = none →
    s.sec.sealArmed = true →
    ∃ t, exec (.sealLoopArm src [0]) s = .next t ∧
      t.sec.sealArmed = false ∧
      quiet t = quiet { s with sec := { s.sec with sealArmed := false }, tamper := { s.tamper with unlockResult := 0 } }) ∧
  (∀ (ext : Nat) (loop : Bool) (s : State), s.tamper.arming = some (ext, loop) →
    ∃ t, exec (.armingComplete true) s = .next t ∧
      t.sec.extArmed = ext ∧ t.sec.sealArmed = loop ∧ t.tamper.arming = none ∧ t.tamper.unlockResult = 0 ∧
      quiet t = quiet { s with sec := { s.sec with extArmed := ext, sealArmed := loop },
                               tamper := { s.tamper with arming := none, unlockResult := 0 } }) ∧
  (∀ (correct : Bool) (s : State), s.tamper.arming = none → ∃ t, exec (.armingComplete correct) s = .next t ∧
    quiet t = quiet s) ∧
  (∀ (ext : Nat) (loop : Bool) (s : State), s.tamper.arming = some (ext, loop) →
    ∃ t, exec (.armingComplete false) s = .next t ∧
      t.sec = s.sec ∧ quiet t = quiet { s with tamper := { s.tamper with arming := none, unlockResult := 2 } }) ∧
  (∀ (src : Src) (value : Bytes) (s : State) (p : Path), reaches src value s p 0x6000 3 value = true →
    unlockResultOf s (leNat value) = 0 →
    ∃ t, exec (.clearFlags src value) s = .next t ∧
      t.sec.sticky = 0 ∧ t.tamper.unlockResult = 0 ∧ (s.life.state ≠ .endOfLife → t.tamper.reloading = true) ∧
      (s.life.state ≠ .invalid → t.modes.word.locked = false) ∧
      (s.log.staged.length < 256 → evlogFull s = false → Logged t 0x0307 (natLE 4 s.sec.sticky)) ∧
      quiet t = quiet { s with sec := { s.sec with sticky := 0 }, custody := t.custody, host := t.host,
                               tamper := { s.tamper with unlockResult := 0, reloading := t.tamper.reloading } }) ∧
  (∀ (src : Src) (value : Bytes) (s : State) (p : Path) (r : Nat), reaches src value s p 0x6000 3 value = true →
    unlockResultOf s (leNat value) = r → r ≠ 0 →
    ∃ t, exec (.clearFlags src value) s = .next t ∧ quiet t = quiet { s with tamper := { s.tamper with unlockResult := r } })

/-- From R447 to R449, R453, R454: a permitted transition zeroises first and then blows the target's bits one by one, each tried up
to four times, until both decodes give the target, when a warm reset follows; the debug latch opens and closes only with every
key zeroised; whatever is not permitted shows its result and changes nothing else. Derived: where those rules leave an order, an
encoding or a value open, the clauses take the model's own choice, said in assumption 60. The clauses conclude that exec answers
a next state of the commands lifeCycleTransition, fuseBitBlown, doubleDecisionSecond, postCeremonyReset, debugReopen,
debugClose, regionEraseEnd. -/
def Obligations.LifeCycleMovesBitByBit : Prop :=
  (∀ (src : Src) (value : Bytes) (s : State) (p : Path) (target : LifeCycle), reaches src value s p 0x1100 4 value = true →
    targetOf (leNat value) = some target → transitionResultOf s false target = 0 → zeroisesFirst s target = true →
    ∃ t, exec (.lifeCycleTransition src value) s = .next t ∧
      (t.life.transition.map fun x => (x.fromState, x.target, x.bits, x.running)) =
        some (s.life.state, target, bitsToBlow s target, false) ∧
      t.keys.slots = [] ∧ t.keys.vault = [] ∧ t.life.bank0 = s.life.bank0 ∧ t.life.state = s.life.state ∧
      (t.mram.erases.any fun e => decide (e.purpose = .transition)) = true) ∧
  (∀ (src : Src) (value : Bytes) (s : State) (p : Path) (target : LifeCycle) (r : Nat),
    reaches src value s p 0x1100 4 value = true → targetOf (leNat value) = some target →
    transitionResultOf s false target = r → r ≠ 0 →
    ∃ t, exec (.lifeCycleTransition src value) s = .next t ∧
      quiet t = quiet { s with life := { s.life with transitionResult := r } }) ∧
  (∀ (s : State), portOpen s = true → s.life.state = .blank → transitionResultOf s true .test = 0 →
    ∃ t, exec (.lifeCycleTransition .debugPort [1]) s = .next t ∧
      (t.life.transition.map fun x => (x.fromState, x.target, x.bits)) = some (.blank, .test, bitsToBlow s .test) ∧
      t.life.bank0 = s.life.bank0 ∧ t.keys.slots = s.keys.slots) ∧
  (∀ (src : Src) (value : Bytes) (s : State) (p : Path) (target : LifeCycle), reaches src value s p 0x1100 4 value = true →
    targetOf (leNat value) = some target → transitionResultOf s false target = 0 → zeroisesFirst s target = false →
    bitsToBlow s target ≠ [] →
    ∃ t, exec (.lifeCycleTransition src value) s = .next t ∧
      (t.life.transition.map fun x => (x.fromState, x.target, x.bits, x.running)) =
        some (s.life.state, target, bitsToBlow s target, !s.mram.pwrfail) ∧
      quiet t = quiet { s with life := { s.life with
        transition := t.life.transition, transitionResult := 0xFF, skipped := 0 } }) ∧
  (∀ (x : Transition) (b : Nat) (rest : List Nat) (s : State), s.life.transition = some x → x.running = true →
    x.bits = b :: rest →
    ∃ t, exec (.fuseBitBlown true) s = .next t ∧
      t.life.bank0 = s.life.bank0 ||| BitVec.ofNat 280 (2 ^ b) ∧ (t.life.transition.map fun x => x.bits) = some rest ∧
      (rest = [] → (.lifeCycle, true) ∈ t.tamper.decisions) ∧
      quiet t = quiet { s with life := t.life, tamper := t.tamper }) ∧
  (∀ (x : Transition) (b : Nat) (rest : List Nat) (s : State), s.life.transition = some x → x.running = true →
    x.bits = b :: rest →
    x.attempts < 3 →
    ∃ t, exec (.fuseBitBlown false) s = .next t ∧
      (t.life.transition.map fun x => (x.bits, x.attempts)) = some (b :: rest, x.attempts + 1) ∧ t.life.bank0 = s.life.bank0 ∧
      quiet t = quiet { s with life := t.life }) ∧
  (∀ (x : Transition) (b : Nat) (rest : List Nat) (s : State), s.life.transition = some x → x.running = true →
    x.bits = b :: rest →
    x.attempts = 3 → x.skipped < 3 →
    ∃ t, exec (.fuseBitBlown false) s = .next t ∧
      (t.life.transition.map fun x => (x.bits, x.attempts, x.skipped)) = some (rest, 0, x.skipped + 1) ∧
      t.life.bank0 = s.life.bank0 ∧ quiet t = quiet { s with life := t.life, tamper := t.tamper }) ∧
  (∀ (x : Transition) (first : Bool) (rest : List (Decision × Bool)) (s : State), s.life.transition = some x →
    s.tamper.decisions = (.lifeCycle, first) :: rest → decodeLife (lifeWord s) = x.target →
    ∃ t, exec (.doubleDecisionSecond true) s = .next t ∧
      t.life.transition = none ∧ t.life.transitionResult = 0 ∧ t.life.resetDue = some (s.disp.tick + 1000)) ∧
  (∀ (readBack : Bool) (s : State), s.life.transition.all (fun x => !x.running || x.bits.isEmpty) = true →
    ∃ t, exec (.fuseBitBlown readBack) s = .next t ∧ quiet t = quiet s) ∧
  (∀ (x : Transition) (b : Nat) (rest : List Nat) (s : State), s.life.transition = some x → x.running = true →
    x.bits = b :: rest →
    x.attempts = 3 → x.skipped = 3 → freshFatal s (faultCode 3 0x11 3) = true →
    ∃ t, exec (.fuseBitBlown false) s = .next t ∧
      t.life.transition = none ∧ t.life.transitionResult = 6 ∧ t.life.bank0 = s.life.bank0 ∧
      FatalTaken (faultCode 3 0x11 3) [4] t) ∧
  (∀ (s : State), s.life.resetDue.all (fun due => decide (s.disp.tick < due)) = true →
    ∃ t, exec .postCeremonyReset s = .next t ∧ quiet t = quiet s) ∧
  (∀ (due : Nat) (s : State), s.life.resetDue = some due → due ≤ s.disp.tick →
    ∃ t, exec .postCeremonyReset s = .next t ∧
      t.boot.phase = .inReset ∧ t.disp.chains = [] ∧ t.keys.slots = [] ∧ t.sec.sticky = s.sec.sticky) ∧
  (∀ (src : Src) (s : State) (p : Path), reaches src [1] s p 0x1100 6 [1] = true → latchResultOf s true = 0 →
    ∃ t, exec (.debugReopen src) s = .next t ∧
      t.keys.slots = [] ∧ t.keys.vault = [] ∧ t.sec.pair = none ∧ t.life.latchResult = 0 ∧ t.sec.latch = s.sec.latch ∧
      t.modes.word.active = false ∧ (t.mram.erases.any fun e => decide (e.purpose = .latch)) = true) ∧
  (∀ (src : Src) (s : State) (p : Path), reaches src [2] s p 0x1100 6 [2] = true → latchResultOf s false = 0 →
    ∃ t, exec (.debugClose src) s = .next t ∧
      t.keys.slots = [] ∧ t.keys.vault = [] ∧ t.life.latchResult = 0 ∧ t.sec.latch = s.sec.latch ∧
      (t.mram.erases.any fun e => decide (e.purpose = .latch)) = true) ∧
  (∀ (src : Src) (s : State) (p : Path) (r : Nat), reaches src [1] s p 0x1100 6 [1] = true → latchResultOf s true = r → r ≠ 0 →
    ∃ t, exec (.debugReopen src) s = .next t ∧ quiet t = quiet { s with life := { s.life with latchResult := r } }) ∧
  (∀ (src : Src) (s : State) (p : Path) (r : Nat), reaches src [2] s p 0x1100 6 [2] = true → latchResultOf s false = r → r ≠ 0 →
    ∃ t, exec (.debugClose src) s = .next t ∧ quiet t = quiet { s with life := { s.life with latchResult := r } }) ∧
  (∀ (e : Erase) (rest : List Erase) (s : State), s.mram.erases = e :: rest → s.mram.current = none → s.mram.pwrfail = false →
    s.boot.phase ≠ .inReset → e.purpose = .latch → latchOpen s = false →
    ∃ t, exec .regionEraseEnd s = .next t ∧
      t.sec.latch = Config.openPattern ∧ t.sec.reopenings = s.sec.reopenings + 1 ∧
      t.life.resetDue = some (s.disp.tick + 1000))

/-- From R488, R489, R491, R493 to R498, R505: a session opens when its console proves its key, and each of the events that close it
clears its keys; a frame in turn is executed once, one repeated is answered again, and one whose tag fails is rejected; an
enrolment gives a console a key of its own. Derived: where those rules leave an order, an encoding or a value open, the clauses
take the model's own choice, said in assumptions 64 and 103. The clauses conclude that exec answers a next state of the commands
openReq, openConf, keepalive, request, close, enrolReq, enrolConf, sessionOpenTimeout, sessionIdleTimeout, custodyLinkDown,
custodyLinkUp, jabber, announce, enrolConfTimeout. -/
def Obligations.CustodySessionsOpenRunAndClose : Prop :=
  (∀ (frame : Frame) (c : Nat) (s : State), frameFor s 1 32 32 true frame = true →
    (slice 1 15 (frameContent frame)).all (fun b => b == 0) = true → s.modes.word.doze = false →
    c = ((frameContent frame).getD 0 0).toNat → openRefused s c = 0 → reserveCovers s 20 = true →
    ∃ t, exec (.openReq frame) s = .next t ∧
      t.custody.session = .opening ∧ t.custody.console = c ∧ t.custody.due = s.disp.tick + 1000000 ∧ t.custody.sessionId ≠ 0 ∧
      (leNat (slice 16 4 s.rng.reserve) ≠ 0 → t.custody.sessionId = leNat (slice 16 4 s.rng.reserve)) ∧
      (t.custody.kmac, t.custody.kwrap) = sessionKeys (vaultKey s (consoleSlot c)) (slice 16 16 (frameContent frame))
        (s.rng.reserve.take 16) t.custody.sessionId ∧
      .llyno frame.source (llynoFrame s 2 t.custody.sessionId 0 (s.rng.reserve.take 16) (some t.custody.kmac)) ∈ t.sent ∧
      quiet t = quiet { s with custody := t.custody, freeUses := t.freeUses,
                               rng := { s.rng with reserve := s.rng.reserve.drop 20, drawn := s.rng.drawn + 20 } }) ∧
  (∀ (frame : Frame) (s : State), openRefused s ((frameContent frame).getD 0 0).toNat = 0 → s.modes.word.doze = false →
    reserveCovers s 20 = false → ∃ t, exec (.openReq frame) s = .next t ∧ quiet t = quiet s) ∧
  (∀ (frame : Frame) (s : State), ∀ y ∈ ([(.openReq frame, 1, 32, 32, true), (.openConf frame, 3, 0, 0, false),
      (.keepalive frame, 0x12, 0, 0, false), (.request frame, 0x10, 4, 1024, false), (.close frame, 0x13, 0, 0, false),
      (.enrolReq frame, 4, 129, 129, true), (.enrolConf frame, 6, 0, 0, false)] : List (Instr × Nat × Nat × Nat × Bool)),
    frameFor s y.2.1 y.2.2.1 y.2.2.2.1 y.2.2.2.2 frame = false → ∃ t, exec y.1 s = .next t ∧ quiet t = quiet s) ∧
  (∀ (frame : Frame) (c r : Nat) (s : State), frameFor s 1 32 32 true frame = true →
    (slice 1 15 (frameContent frame)).all (fun b => b == 0) = true → s.modes.word.doze = false →
    c = ((frameContent frame).getD 0 0).toNat → openRefused s c = r → r ≠ 0 →
    ∃ t, exec (.openReq frame) s = .next t ∧
      .llyno frame.source (llynoFrame s 0x1F 0 0 [byte r] none) ∈ t.sent ∧ quiet t = quiet s) ∧
  (∀ (frame : Frame) (s : State), frameFor s 3 0 0 false frame = true → s.custody.session = .opening → s.custody.enrol = none →
    frameSession frame = s.custody.sessionId → s.modes.word.doze = false → tagGood s.custody.kmac frame = true →
    ∃ t, exec (.openConf frame) s = .next t ∧
      t.custody.session = .opened ∧ t.custody.seq = 0 ∧ t.custody.opened = s.custody.opened + 1 ∧
      t.custody.due = s.disp.tick + s.custody.idle * 1000000 ∧ pathSel t .custody = PathSel.reset ∧
      quiet t = quiet { s with custody := t.custody, dict := t.dict }) ∧
  (∀ (frame : Frame) (s : State), frameFor s 3 0 0 false frame = true → s.custody.session = .opening → s.custody.enrol = none →
    frameSession frame = s.custody.sessionId → s.modes.word.doze = false → tagGood s.custody.kmac frame = false →
    ∃ t, exec (.openConf frame) s = .next t ∧ SessionClosed t ∧ quiet t = quiet { s with custody := t.custody }) ∧
  (∀ (s : State), s.custody.session = .opening → s.custody.due ≤ s.disp.tick →
    ∃ t, exec .sessionOpenTimeout s = .next t ∧ SessionClosed t ∧ quiet t = quiet { s with custody := t.custody }) ∧
  (∀ (frame : Frame) (s : State), frameFor s 0x13 0 0 false frame = true → ofSession s frame = true →
    s.modes.word.doze = false →
    tagGood s.custody.kmac frame = true →
    ∃ t, exec (.close frame) s = .next t ∧
      SessionClosed t ∧ t.custody.ceremony = 0 ∧ quiet t = quiet { s with custody := t.custody }) ∧
  (∀ (frame : Frame) (s : State), frameFor s 0x13 0 0 false frame = true → ofSession s frame = true →
    s.modes.word.doze = false →
    tagGood s.custody.kmac frame = false → s.custody.tagFails < 7 →
    ∃ t, exec (.close frame) s = .next t ∧
      quiet t = quiet { s with custody := { s.custody with
        rejected := s.custody.rejected + 1, tagFails := s.custody.tagFails + 1 } }) ∧
  (∀ (frame : Frame) (s : State), ∀ i ∈ ([.close frame, .keepalive frame, .request frame] : List Instr),
    ofSession s frame = false → ∃ t, exec i s = .next t ∧ quiet t = quiet s) ∧
  (∀ (frame : Frame) (s : State), ∀ i ∈ ([.keepalive frame, .request frame] : List Instr),
    custodyWaits s = true → ∃ t, exec i s = .next t ∧ quiet t = quiet s) ∧
  (∀ (frame : Frame) (s : State),
    (s.custody.session ≠ .opening ∨ s.custody.enrol.isSome = true ∨ frameSession frame ≠ s.custody.sessionId) →
    ∃ t, exec (.openConf frame) s = .next t ∧ quiet t = quiet s) ∧
  (∀ (s : State), ∀ y ∈ ([(.sessionOpenTimeout, .opening), (.sessionIdleTimeout, .opened)] : List (Instr × Session)),
    s.custody.session ≠ y.2 ∨ s.disp.tick < s.custody.due → ∃ t, exec y.1 s = .next t ∧ quiet t = quiet s) ∧
  (∀ (s : State), s.custody.linkUp = false → ∃ t, exec .custodyLinkDown s = .next t ∧ quiet t = quiet s) ∧
  (∀ (s : State), s.custody.session ≠ .opened → s.custody.linkUp = true →
    ∃ t, exec .custodyLinkDown s = .next t ∧
      t.custody.linkUp = false ∧ t.custody.session = .none ∧ quiet t = quiet { s with custody := t.custody }) ∧
  (∀ (s : State), s.boot.phase = .inReset → ∃ t, exec .custodyLinkUp s = .next t ∧ quiet t = quiet s) ∧
  (∀ (s : State), s.boot.phase = .inReset ∨ custodyOut s = true → ∃ t, exec .jabber s = .next t ∧ quiet t = quiet s) ∧
  (∀ (s : State), s.custody.session = .opened → s.custody.due ≤ s.disp.tick →
    ∃ t, exec .sessionIdleTimeout s = .next t ∧
      SessionClosed t ∧ t.custody.ceremony = 0 ∧ quiet t = quiet { s with custody := t.custody }) ∧
  (∀ (s : State), s.custody.session = .opened → s.custody.linkUp = true →
    ∃ t, exec .custodyLinkDown s = .next t ∧
      SessionClosed t ∧ t.custody.linkUp = false ∧ t.custody.ceremony = 0 ∧ quiet t = quiet { s with custody := t.custody }) ∧
  (∀ (s : State), s.boot.phase ≠ .inReset →
    ∃ t, exec .custodyLinkUp s = .next t ∧ quiet t = quiet { s with custody := { s.custody with linkUp := true } }) ∧
  (∀ (s : State), s.boot.phase ≠ .inReset → custodyOut s = false → s.custody.session = .opened →
    ∃ t, exec .jabber s = .next t ∧ SessionClosed t ∧ isWithdrawn 0xC 0 t = true ∧ t.modes.word.degraded = true ∧
      quiet t = quiet { s with custody := t.custody, faults := t.faults }) ∧
  (∀ (frame : Frame) (s : State), custodyWaits s = false → inTurn s 0x12 0 0 frame = true → s.modes.word.doze = false →
    ∃ t, exec (.keepalive frame) s = .next t ∧
      .llyno s.custody.peerMac (llynoFrame s 0x11 s.custody.sessionId (frameSeq frame) [0, 0, 0,
        0] (some s.custody.kmac)) ∈ t.sent ∧
      quiet t = quiet (heard s frame)) ∧
  (∀ (frame : Frame) (s : State), custodyWaits s = false → frameFor s 0x12 0 0 false frame = true → ofSession s frame = true →
    s.modes.word.doze = false → tagGood s.custody.kmac frame = false → s.custody.tagFails < 7 →
    ∃ t, exec (.keepalive frame) s = .next t ∧
      quiet t = quiet { s with custody := { s.custody with
        rejected := s.custody.rejected + 1, tagFails := s.custody.tagFails + 1 } }) ∧
  (∀ (frame : Frame) (s : State), custodyWaits s = false → frameFor s 0x12 0 0 false frame = true → ofSession s frame = true →
    s.modes.word.doze = false → tagGood s.custody.kmac frame = false → 7 ≤ s.custody.tagFails →
    ∃ t, exec (.keepalive frame) s = .next t ∧ SessionClosed t ∧ quiet t = quiet { s with custody := t.custody }) ∧
  (∀ (frame : Frame) (s : State), custodyWaits s = false → frameFor s 0x12 0 0 false frame = true → ofSession s frame = true →
    s.modes.word.doze = false → tagGood s.custody.kmac frame = true → frameOrder s frame = .wrong →
    ∃ t, exec (.keepalive frame) s = .next t ∧
      quiet t = quiet { s with custody := { s.custody with rejected := s.custody.rejected + 1, tagFails := 0 } }) ∧
  (∀ (frame : Frame) (index sub r : Nat) (value : Bytes) (s : State), custodyWaits s = false → mailServed s = true →
    inTurn s 0x10 4 1024 frame = true → s.modes.word.doze = false → s.boot.phase ≠ .recovery →
    frameContent frame = [1, 0, 0, 0] ++ natLE 2 index ++ [byte sub, 0] → index < 0x10000 → sub < 256 →
    readEntry (postDeviceEvent 5 (heard s frame)) .custody 1020 index sub = (r, value) →
    ∃ t, exec (.request frame) s = .next t ∧
      .llyno s.custody.peerMac (llynoFrame s 0x11 s.custody.sessionId (frameSeq frame) ([byte r, 0, 0, 0] ++ value)
        (some s.custody.kmac)) ∈ t.sent ∧
      quiet t = quiet (heard s frame)) ∧
  (∀ (frame : Frame) (index sub : Nat) (value : Bytes) (s : State), custodyWaits s = false → mailServed s = true →
    inTurn s 0x10 4 1024 frame = true → s.modes.word.doze = false → s.boot.phase ≠ .recovery →
    frameContent frame = [2, 0, 0, 0] ++ natLE 2 index ++ [byte sub, 0] ++ value → index < 0x10000 → sub < 256 →
    modeRefusal (heard s frame) .custody true index sub value = none →
      writeRefused (heard s frame) .custody index sub value = none →
    hasRow index sub value = false → inConfigSet index sub = false → ¬(index = 0x9000 ∧ sub = 6 ∧ otherPath s .custody = true) →
    s.custody.closing = false →
    ∃ t, exec (.request frame) s = .next t ∧
      .llyno s.custody.peerMac (llynoFrame s 0x11 s.custody.sessionId (frameSeq frame) [0, 0, 0,
        0] (some s.custody.kmac)) ∈ t.sent ∧
      quiet t = quiet (storeValue .custody index sub value (heard s frame))) ∧
  (∀ (s : State), decoded s = true → s.custody.linkUp = true → s.life.state ≠ .blank → announceDue s = true →
    ∃ t, exec .announce s = .next t ∧
      .llyno broadcastMac (llynoFrame s 0x20 0 0 (natLE 8 s.fuses.serial.toNat ++ [byte s.life.state.code] ++
        natLE 4 s.modes.word.toNat ++ [byte (consoleBits s),
          byte (bit (decide (s.custody.session = .opened)))]) none) ∈ t.sent ∧
      quiet t = quiet { s with custody := { s.custody with announcedAt := some s.sec.deviceTime.toNat } }) ∧
  (∀ (s : State), decoded s = false ∨ s.custody.linkUp = false ∨ s.life.state = .blank ∨ announceDue s = false →
    ∃ t, exec .announce s = .next t ∧ quiet t = quiet s) ∧
  (∀ (frame : Frame) (c : Nat) (s : State), frameFor s 4 129 129 true frame = true → s.modes.word.doze = false →
    enrolRefused s = 0 → freeConsole s = some c → reserveCovers s 204 = true →
    ∃ t, exec (.enrolReq frame) s = .next t ∧
      (∀ z, ecdhOp p384 (ecKeyPair p384 (s.rng.reserve.take 56)).1 (slice 32 97 (frameContent frame)) = .done z →
        (t.custody.enrol.map fun e => (e.console, e.label, e.due, e.key)) =
          some (c, (frameContent frame).take 16, s.disp.tick + 1000000,
            consoleKeyOf z (slice 32 97 (frameContent frame)) (ecKeyPair p384 (s.rng.reserve.take 56)).2)) ∧
      ((∀ z, ecdhOp p384 (ecKeyPair p384 (s.rng.reserve.take 56)).1 (slice 32 97 (frameContent frame)) ≠ .done z) →
        .llyno frame.source (llynoFrame s 0x1F 0 0 [3] none) ∈ t.sent ∧ t.custody = s.custody) ∧
      quiet t = quiet { s with custody := t.custody, freeUses := t.freeUses, rng := t.rng }) ∧
  (∀ (frame : Frame) (s : State), s.modes.word.doze = false → enrolRefused s = 0 → reserveCovers s 204 = false →
    (freeConsole s).isSome = true → ∃ t, exec (.enrolReq frame) s = .next t ∧ quiet t = quiet s) ∧
  (∀ (frame : Frame) (s : State), s.custody.enrol = none ∨ frameSession frame ≠ s.custody.sessionId →
    ∃ t, exec (.enrolConf frame) s = .next t ∧ quiet t = quiet s) ∧
  (∀ (frame : Frame) (e : Enrolment) (s : State), s.custody.enrol = some e → frameFor s 6 0 0 false frame = true →
    frameSession frame = s.custody.sessionId → s.modes.word.doze = false → tagGood e.kmac frame = false →
    (e.opens = true ∨ s.custody.tagFails < 7) →
    ∃ t, exec (.enrolConf frame) s = .next t ∧
      t.custody.enrol = none ∧ (e.opens = true → SessionClosed t) ∧
      (e.opens = false → t.custody.tagFails = s.custody.tagFails + 1 ∧ t.custody.session = s.custody.session) ∧
      quiet t = quiet { s with custody := t.custody }) ∧
  (∀ (frame : Frame) (r : Nat) (s : State), frameFor s 4 129 129 true frame = true → s.modes.word.doze = false →
    enrolRefused s = r → r ≠ 0 →
    ∃ t, exec (.enrolReq frame) s = .next t ∧
      .llyno frame.source (llynoFrame s 0x1F 0 0 [byte r] none) ∈ t.sent ∧ quiet t = quiet s) ∧
  (∀ (frame : Frame) (e : Enrolment) (s : State), s.custody.enrol = some e → frameFor s 6 0 0 false frame = true →
    frameSession frame = s.custody.sessionId → s.modes.word.doze = false → tagGood e.kmac frame = true →
    vaultSlot s (consoleSlot e.console) = none → e.key.length = 32 →
    ∃ t, exec (.enrolConf frame) s = .next t ∧
      vaultKey t (consoleSlot e.console) = e.key ∧ t.custody.enrol = none ∧
      SMap.find t.custody.labels e.console = some e.label ∧ (e.opens = true → t.custody.session = .opened) ∧
      (∀ n, n ≠ consoleSlot e.console → vaultSlot t n = vaultSlot s n) ∧
      quiet t = quiet { s with custody := t.custody, dict := t.dict, freeUses := t.freeUses,
                               keys := { s.keys with vault := t.keys.vault, emptyMasks := t.keys.emptyMasks } }) ∧
  (∀ (e : Enrolment) (s : State), s.custody.enrol = some e → e.due ≤ s.disp.tick → e.opens = false →
    ∃ t, exec .enrolConfTimeout s = .next t ∧ quiet t = quiet { s with custody := { s.custody with enrol := none } }) ∧
  (∀ (s : State), s.custody.enrol.all (fun e => e.opens || decide (s.disp.tick < e.due)) = true →
    ∃ t, exec .enrolConfTimeout s = .next t ∧ quiet t = quiet s)

/-- From R301, R302, R438, R492, R499, R503, R504: an input is validated by two decisions and dual presence needs both within 30 s;
releasing an input ends dual presence and the ceremony; ceremonies begin, are abandoned and refused; a vault slot takes the XOR
of its components and is emptied; a console is removed. Derived: where those rules leave an order, an encoding or a value open,
the clauses take the model's own choice, said in assumptions 44 and 65. The clauses conclude that exec answers a next state of
the commands presenceValidated, doubleDecisionSecond, presenceReleased, ceremonyBegin, ceremonyAbandon, consoleRemove,
pageWriteDurable, eventAppend, loadComponent, vaultSlotEmpty, vaultKeyLoad, componentsDiscard. -/
def Obligations.PresenceCeremoniesAndVaultKeys : Prop :=
  (∀ (input : Nat) (s : State), input < 2 → inputValid s input = false →
    s.tamper.decisions.any (fun x => decide (x.1 = Decision.presence input)) = false →
    ∃ t, exec (.presenceValidated input) s = .next t ∧
      quiet t = quiet { s with tamper := { s.tamper with decisions := s.tamper.decisions ++ [(.presence input, true)] } }) ∧
  (∀ (input : Nat) (first : Bool) (rest : List (Decision × Bool)) (s : State), input < 2 →
    s.tamper.decisions = (.presence input, first) :: rest →
    ∃ t, exec (.doubleDecisionSecond true) s = .next t ∧
      inputValid t input = true ∧ inputValid t (1 - input) = inputValid s (1 - input) ∧ t.tamper.decisions = rest ∧
      t.custody.dual = (s.custody.dual ||
        ((if input = 0 then s.custody.presB else s.custody.presA).map fun other =>
          decide (s.sec.deviceTime.toNat ≤ other + 30 * 32768)) == some true) ∧
      quiet t = quiet { s with custody := t.custody, tamper := { s.tamper with decisions := rest } }) ∧
  (∀ (input : Nat) (s : State), input < 2 → inputValid s input = true → s.custody.ceremony = 0 →
    inputValid s (1 - input) = true →
    ∃ t, exec (.presenceReleased input) s = .next t ∧
      inputValid t input = false ∧ inputValid t (1 - input) = true ∧ t.custody.dual = false ∧
      t.custody.session = s.custody.session ∧
      quiet t = quiet { s with custody := t.custody, tamper := { s.tamper with
        decisions := s.tamper.decisions.filter fun x => decide (x.1 ≠ Decision.presence input) } }) ∧
  (∀ (input : Nat) (s : State), 2 ≤ input ∨ inputValid s input = false →
    ∃ t, exec (.presenceReleased input) s = .next t ∧
      quiet t = quiet { s with tamper := { s.tamper with
        decisions := s.tamper.decisions.filter fun x => decide (x.1 ≠ Decision.presence input) } }) ∧
  (∀ (input : Nat) (s : State), 2 ≤ input ∨ inputValid s input = true ∨
      s.tamper.decisions.any (fun x => decide (x.1 = Decision.presence input)) = true →
    ∃ t, exec (.presenceValidated input) s = .next t ∧ quiet t = quiet s) ∧
  (∀ (input : Nat) (s : State), input < 2 → inputValid s input = true → inputValid s (1 - input) = false →
    s.custody.session = .opened →
    ∃ t, exec (.presenceReleased input) s = .next t ∧
      inputValid t input = false ∧ t.custody.dual = false ∧ t.custody.ceremony = 0 ∧ SessionClosed t) ∧
  (∀ (input : Nat) (s : State), input < 2 → inputValid s input = true → s.custody.dual = true → s.custody.ceremony ≠ 0 →
    ∃ t, exec (.presenceReleased input) s = .next t ∧ t.custody.ceremony = 0 ∧ t.custody.components = []) ∧
  (∀ (src : Src) (value : Bytes) (s : State) (p : Path) (n : Nat), reaches src value s p 0x7810 1 value = true →
    n = leNat value →
    s.custody.ceremony = 0 → 1 ≤ n → n ≤ 11 → ceremonyRefused s n = false →
    ∃ t, exec (.ceremonyBegin src value) s = .next t ∧
      t.custody.ceremony = n ∧ t.custody.ceremonyAt = s.disp.tick ∧ t.custody.ceremonyResult = 0 ∧
      t.custody.components = [] ∧ quiet t = quiet { s with custody := t.custody }) ∧
  (∀ (src : Src) (value : Bytes) (s : State) (p : Path) (n r : Nat), reaches src value s p 0x7810 1 value = true →
    n = leNat value →
    (s.custody.ceremony ≠ 0 ∧ r = 1 ∨ s.custody.ceremony = 0 ∧ (n = 0 ∨ 11 < n) ∧ r = 3 ∨
      s.custody.ceremony = 0 ∧ 1 ≤ n ∧ n ≤ 11 ∧ ceremonyRefused s n = true ∧ r = 2) →
    ∃ t, exec (.ceremonyBegin src value) s = .next t ∧
      quiet t = quiet { s with custody := { s.custody with ceremonyResult := r } }) ∧
  (∀ (src : Src) (s : State) (p : Path), reaches src [1] s p 0x7810 3 [1] = true →
    ∃ t, exec (.ceremonyAbandon src) s = .next t ∧
      t.custody.ceremony = 0 ∧ (s.custody.ceremony ≠ 0 → t.custody.components = []) ∧
      quiet t = quiet { s with custody := t.custody }) ∧
  (∀ (src : Src) (s : State) (p : Path) (c : Nat), reaches src [1] s p 0x7801 5 [1] = true → c = (pathSel s p).consoleSel →
    enrolled s c = true → c ≠ s.custody.console ∨ s.custody.session ≠ .opened → s.custody.closing = false →
    ∃ t, exec (.consoleRemove src) s = .next t ∧
      enrolled t c = false ∧ (∀ n, n ≠ consoleSlot c → vaultSlot t n = vaultSlot s n) ∧
      t.custody.session = s.custody.session ∧ (s.custody.ceremony = 3 → t.custody.ceremony = 0) ∧
      quiet t = quiet { s with custody := t.custody, keys := { s.keys with vault := t.keys.vault } }) ∧
  (∀ (src : Src) (s : State) (p : Path), reaches src [1] s p 0x7801 5 [1] = true → enrolled s (pathSel s p).consoleSel = false →
    s.custody.closing = false →
    ∃ t, exec (.consoleRemove src) s = .next t ∧ quiet t = quiet s) ∧
  (∀ (src : Src) (s : State) (p : Path) (c : Nat), reaches src [1] s p 0x7801 5 [1] = true → c = (pathSel s p).consoleSel →
    enrolled s c = true → c = s.custody.console → s.custody.session = .opened → evlogFull s = true → custodyWaits s = false →
    ∃ t, exec (.consoleRemove src) s = .next t ∧ enrolled t c = false ∧ SessionClosed t) ∧
  (∀ (src : Src) (s : State) (p : Path) (c : Nat), reaches src [1] s p 0x7801 5 [1] = true → c = (pathSel s p).consoleSel →
    enrolled s c = true → c = s.custody.console → s.custody.session = .opened → logRoom s = true →
    ∃ t, exec (.consoleRemove src) s = .next t ∧
      enrolled t c = false ∧ t.custody.closing = true ∧ t.custody.session = .opened ∧ custodyWaits t = true) ∧
  (∀ (w : PageWrite) (h : HeldReply) (s : State), s.mram.current = some w → w.store = .log →
    s.mram.queue.all (fun x => decide (x.store ≠ .log)) = true → s.log.staged = [] → s.dict.held = [h] →
    h.path = .custody → h.slot = requestSlot → h.pages = [] → h.records = [] → h.event ≤ s.log.total →
    s.custody.closing = true → s.custody.session = .opened →
    ∃ t, exec (.pageWriteDurable true) s = .next t ∧
      SessionClosed t ∧ t.custody.closing = false ∧
      .llyno s.custody.peerMac (llynoFrame s 0x11 s.custody.sessionId s.custody.seq ([byte h.result, 0, 0, 0] ++ h.value)
        (some s.custody.kmac)) ∈ t.sent) ∧
  (∀ (s : State), canAppend s = true → evlogFull s = true → s.custody.closing = true → s.custody.session = .opened →
    custodyWaits s = false →
    ∃ t, exec .eventAppend s = .next t ∧ SessionClosed t ∧ t.custody.closing = false) ∧
  (∀ (src : Src) (value key : Bytes) (s : State) (p : Path), reaches src value s p 0x3003 4 value = true →
    loadPermitted s = true → openComponent s value = some key →
    ∃ t, exec (.loadComponent src value) s = .next t ∧
      quiet t = quiet { s with custody := { s.custody with
        components := s.custody.components ++ [key], lastKcv := keyCheckValue (bits s.custody.loadAttr 0 5) key,
        loadResult := 0 } }) ∧
  (∀ (src : Src) (value : Bytes) (s : State) (p : Path), reaches src value s p 0x3003 4 value = true → loadPermitted s = false →
    ∃ t, exec (.loadComponent src value) s = .next t ∧ quiet t = quiet (loadResult 5 s)) ∧
  (∀ (src : Src) (s : State) (p : Path), reaches src [2] s p 0x3003 6 [2] = true → loadPermitted s = false →
    ∃ t, exec (.vaultSlotEmpty src) s = .next t ∧ quiet t = quiet (loadResult 5 s)) ∧
  (∀ (src : Src) (value : Bytes) (s : State) (p : Path), reaches src value s p 0x3003 4 value = true →
    loadPermitted s = true → openComponent s value = none →
    ∃ t, exec (.loadComponent src value) s = .next t ∧ quiet t = quiet (loadResult 3 s)) ∧
  (∀ (src : Src) (s : State) (p : Path), reaches src [1] s p 0x3003 6 [1] = true → loadOutcome s = 0 →
    ∃ t, exec (.vaultKeyLoad src) s = .next t ∧
      vaultKey t s.custody.loadTarget = padTo 32 (combined s) ∧
      (vaultSlot t s.custody.loadTarget).map (fun v => v.attr) = some s.custody.loadAttr ∧ t.custody.loadResult = 0 ∧
      (∀ n, n ≠ s.custody.loadTarget → vaultSlot t n = vaultSlot s n) ∧ (s.custody.ceremony = 2 → t.custody.ceremony = 0) ∧
      quiet t = quiet { s with custody := t.custody, freeUses := t.freeUses, clasp := t.clasp, twin := t.twin,
                               keys := { s.keys with vault := t.keys.vault, emptyMasks := t.keys.emptyMasks } }) ∧
  (∀ (src : Src) (s : State) (p : Path) (r : Nat), reaches src [1] s p 0x3003 6 [1] = true → loadOutcome s = r → r ≠ 0 →
    ∃ t, exec (.vaultKeyLoad src) s = .next t ∧ quiet t = quiet (loadResult r s)) ∧
  (∀ (src : Src) (s : State) (p : Path), reaches src [2] s p 0x3003 6 [2] = true → loadPermitted s = true →
    (vaultSlot s s.custody.loadTarget).isSome = true →
    ∃ t, exec (.vaultSlotEmpty src) s = .next t ∧
      vaultSlot t s.custody.loadTarget = none ∧ (∀ n, n ≠ s.custody.loadTarget → vaultSlot t n = vaultSlot s n) ∧
      t.custody.loadResult = 0 ∧
      quiet t = quiet { s with custody := t.custody, clasp := t.clasp, twin := t.twin,
                               keys := { s.keys with vault := t.keys.vault } }) ∧
  (∀ (src : Src) (s : State) (p : Path), reaches src [2] s p 0x3003 6 [2] = true → loadPermitted s = true →
    vaultSlot s s.custody.loadTarget = none →
    ∃ t, exec (.vaultSlotEmpty src) s = .next t ∧ quiet t = quiet (loadResult 1 s)) ∧
  (∀ (src : Src) (s : State) (p : Path), reaches src [3] s p 0x3003 6 [3] = true →
    ∃ t, exec (.componentsDiscard src) s = .next t ∧
      quiet t = quiet { s with custody := { s.custody with components := [], loadResult := 0 } })

/-- From R533 to R537: the link trains and goes down with its session; HELLO frames are kept and HELLO_CONF opens the session that
the two HELLOs lead to; a frame whose tag fails is counted and not acted on; an idle link carries ACK; control frames are
repeated every 1 µs for 8 µs. Derived: where those rules leave an order, an encoding or a value open, the clauses take the
model's own choice, said in assumption 67. The clauses conclude that exec answers a next state of the commands claspLinkUp,
claspLinkDown, linkTrainingRetry, claspIdleAck, helloRetry, hello, helloConf, ack, renew, renewAck, release, releaseAck, take,
detach, repl, resyncReq, resyncData, resyncEnd, bindReq, bindResp, bindConf, unbind, controlFrameRepeat. -/
def Obligations.ClaspSessionsOpenAndEnd : Prop :=
  (∀ (lanes : Nat) (s : State), decoded s = true → claspOut s = false → s.clasp.link < 2 → s.modes.word.doze = false →
    (lanes = 1 ∨ lanes = 2 ∨ lanes = 4) → reserveCovers s 16 = true →
    ∃ t, exec (.claspLinkUp lanes) s = .next t ∧
      t.clasp.link = 2 ∧ t.clasp.lanes = lanes ∧ helloSerial t.clasp.myHello = s.fuses.serial.toNat ∧
      helloNonce t.clasp.myHello = s.rng.reserve.take 16 ∧ t.clasp.peerHello = s.clasp.peerHello ∧
      (logRoom s = true → Logged t 0x0901 [byte lanes, 0]) ∧
      (t.faults.records ≠ s.faults.records → lanes ≠ 4) ∧
      quiet t = quiet { s with clasp := t.clasp, faults := t.faults, freeUses := t.freeUses,
                               rng := { s.rng with reserve := s.rng.reserve.drop 16, drawn := s.rng.drawn + 16 } }) ∧
  (∀ (lanes : Nat) (s : State),
    (decoded s = false ∨ claspOut s = true ∨ 2 ≤ s.clasp.link ∨ List.contains [1, 2, 4] lanes = false) →
    ∃ t, exec (.claspLinkUp lanes) s = .next t ∧ quiet t = quiet s) ∧
  (∀ (reason : Nat) (s : State), s.clasp.link = 0 ∨ reason ≠ 1 ∧ reason ≠ 2 →
    ∃ t, exec (.claspLinkDown reason) s = .next t ∧ quiet t = quiet s) ∧
  (∀ (s : State), decoded s = false ∨ claspOut s = true ∨ s.clasp.link ≠ 0 →
    ∃ t, exec .linkTrainingRetry s = .next t ∧ quiet t = quiet s) ∧
  (∀ (s : State), s.clasp.link < 2 ∨ s.clasp.link = 2 ∧ s.clasp.confSent = true →
    ∃ t, exec .claspIdleAck s = .next t ∧ t.clasp.txSeq = s.clasp.txSeq ∧ quiet t = quiet s) ∧
  (∀ (s : State), s.clasp.link ≠ 2 ∨ reserveCovers s 16 = false →
    ∃ t, exec .helloRetry s = .next t ∧ t.clasp.txSeq = s.clasp.txSeq ∧ quiet t = quiet s) ∧
  (∀ (frame : Bytes) (s : State), s.clasp.link ≠ 2 ∨ claspForm 1 frame = false →
    ∃ t, exec (.hello frame) s = .next t ∧ quiet t = quiet s) ∧
  (∀ (frame : Bytes) (s : State),
    (s.clasp.link < 2 ∨ s.clasp.link = 2 ∧ (s.clasp.peerHello = none ∨ s.clasp.confSent = false ∨ claspForm 2 frame = false)) →
    ∃ t, exec (.helloConf frame) s = .next t ∧ quiet t = quiet s) ∧
  (∀ (frame : Bytes) (s : State),
    ∀ y ∈ ([(.ack frame, 3), (.renew frame, 0x10), (.renewAck frame, 0x11), (.release frame, 0x12),
      (.releaseAck frame, 0x13), (.take frame, 0x14), (.detach frame, 0x15), (.repl frame, 0x20), (.resyncReq frame, 0x30),
      (.resyncData frame, 0x31), (.resyncEnd frame, 0x32), (.bindReq frame, 0x40), (.bindResp frame, 0x41),
      (.bindConf frame, 0x42), (.unbind frame, 0x43)] : List (Instr × Nat)),
    s.clasp.link < 3 ∨ claspForm y.2 frame = false → ∃ t, exec y.1 s = .next t ∧ quiet t = quiet s) ∧
  (∀ (frame : Bytes) (s : State),
    ∀ y ∈ ([(.ack frame, 3), (.renew frame, 0x10), (.renewAck frame, 0x11), (.release frame, 0x12),
      (.releaseAck frame, 0x13), (.take frame, 0x14), (.detach frame, 0x15), (.repl frame, 0x20), (.resyncReq frame, 0x30),
      (.resyncData frame, 0x31), (.resyncEnd frame, 0x32), (.unbind frame, 0x43)] : List (Instr × Nat)),
    inBound s = true → claspForm y.2 frame = true → s.clasp.fails < 7 →
    (claspOpen s 4 frame = none ∨ claspFseq frame ≠ s.clasp.rxSeq + 1) →
    ∃ t, exec y.1 s = .next t ∧
      quiet t = quiet { s with clasp := { s.clasp with rejected := s.clasp.rejected + 1, fails := s.clasp.fails + 1 } }) ∧
  (∀ (frame body : Bytes) (s : State),
    ∀ y ∈ ([(.ack frame, 3), (.renew frame, 0x10), (.renewAck frame, 0x11), (.release frame, 0x12),
      (.releaseAck frame, 0x13), (.take frame, 0x14), (.detach frame, 0x15), (.repl frame, 0x20), (.resyncReq frame, 0x30),
      (.resyncData frame, 0x31), (.resyncEnd frame, 0x32)] : List (Instr × Nat)),
    s.clasp.link = 3 → s.modes.word.doze = false → claspNext s y.2 frame body = true →
    ∃ t, exec y.1 s = .next t ∧ t.clasp.rxSeq = claspFseq frame ∧ quiet t = quiet (acceptClasp frame s)) ∧
  (∀ (reason : Nat) (s : State), 2 ≤ s.clasp.link → (reason = 1 ∨ reason = 2) →
    ∃ t, exec (.claspLinkDown reason) s = .next t ∧
      t.clasp.link = 0 ∧ t.clasp.lanes = 0 ∧ t.clasp.txKey = [] ∧ t.clasp.rxKey = [] ∧ t.clasp.bindKey = [] ∧
      t.clasp.peerHello = none ∧ t.clasp.repeated = [] ∧
      quiet t = quiet { s with clasp := t.clasp, twin := { s.twin with renewSent := [], offer := none } }) ∧
  (∀ (s : State), decoded s = true → claspOut s = false → s.clasp.link = 0 →
    ∃ t, exec .linkTrainingRetry s = .next t ∧ quiet t = quiet { s with clasp := { s.clasp with link := 1 } }) ∧
  (∀ (s : State), 3 ≤ s.clasp.link → standbyNow s = false →
    ∃ t, exec .claspIdleAck s = .next t ∧ t.clasp.txSeq = s.clasp.txSeq + 1 ∧ quiet t = quiet s) ∧
  (∀ (s : State), s.clasp.link = 2 → reserveCovers s 16 = true → s.clasp.peerHello = none →
    ∃ t, exec .helloRetry s = .next t ∧
      helloSerial t.clasp.myHello = s.fuses.serial.toNat ∧ helloNonce t.clasp.myHello = s.rng.reserve.take 16 ∧
      t.clasp.confSent = false ∧ t.clasp.link = 2 ∧ t.clasp.txSeq = 1 ∧
      quiet t = quiet { s with clasp := { s.clasp with myHello := t.clasp.myHello, confSent := false },
                               rng := { s.rng with reserve := s.rng.reserve.drop 16, drawn := s.rng.drawn + 16 } }) ∧
  (∀ (frame : Bytes) (s : State), s.clasp.link = 2 → claspForm 1 frame = true → s.modes.word.doze = false →
    claspLen frame = 64 →
    claspTag frame = zeros 16 →
    ∃ t, exec (.hello frame) s = .next t ∧
      t.clasp.peerHello = some (claspBody frame) ∧ t.clasp.link = 2 ∧
        quiet t = quiet { s with clasp := t.clasp, rng := t.rng }) ∧
  (∀ (frame : Bytes) (s : State), s.clasp.link = 2 → claspForm 1 frame = true → s.modes.word.doze = false →
    claspLen frame ≠ 64 →
    s.clasp.fails < 7 →
    ∃ t, exec (.hello frame) s = .next t ∧
      quiet t = quiet { s with clasp := { s.clasp with rejected := s.clasp.rejected + 1, fails := s.clasp.fails + 1 } }) ∧
  (∀ (frame h : Bytes) (s : State), s.clasp.link = 2 → s.clasp.peerHello = some h → s.clasp.confSent = true →
    claspForm 2 frame = true → s.modes.word.doze = false → claspOpen s (sessionKind s h) frame = some (confBody s h) →
    claspFseq frame = 1 → (sessionKind s h = 4 ∨ sessionKind s h = 3 ∧ namesPeer s h = false) →
    ∃ t, exec (.helloConf frame) s = .next t ∧ t.clasp.link = sessionKind s h ∧
      t.clasp.rxSeq = 1 ∧ t.clasp.txKey = s.clasp.txKey) ∧
  (∀ (frame h : Bytes) (s : State), s.clasp.link = 2 → s.clasp.peerHello = some h → s.clasp.confSent = true →
    claspForm 2 frame = true → s.modes.word.doze = false → claspOpen s (sessionKind s h) frame = none → s.clasp.fails < 7 →
    ∃ t, exec (.helloConf frame) s = .next t ∧
      quiet t = quiet { s with clasp := { s.clasp with rejected := s.clasp.rejected + 1, fails := s.clasp.fails + 1 } }) ∧
  (∀ (frame body : Bytes) (s : State), inBound s = true → claspNext s 3 frame body = true →
    ∃ t, exec (.ack frame) s = .next t ∧
      t.clasp.rxSeq = claspFseq frame ∧ t.clasp.fails = 0 ∧ quiet t = quiet (acceptClasp frame s) ∧
      (∀ r ∈ t.twin.unacked, activeNow s = true → claspRseq frame < r.number)) ∧
  (∀ (frame : Bytes) (s : State), inBound s = true → claspForm 3 frame = true → claspOpen s 4 frame = none → s.clasp.fails < 7 →
    ∃ t, exec (.ack frame) s = .next t ∧
      quiet t = quiet { s with clasp := { s.clasp with rejected := s.clasp.rejected + 1, fails := s.clasp.fails + 1 } }) ∧
  (∀ (frame : Bytes) (s : State), inBound s = true → claspForm 3 frame = true → claspOpen s 4 frame = none → 7 ≤ s.clasp.fails →
    ∃ t, exec (.ack frame) s = .next t ∧ t.clasp.link = 1 ∧ t.clasp.txKey = [] ∧ t.clasp.rxKey = [] ∧ t.clasp.fails = 0) ∧
  (∀ (r : Repeated) (s : State), s.clasp.repeated = [r] → s.clasp.link = 4 → bound s = true → standbyNow s = false →
    r.firstAt + 8 ≤ s.disp.tick →
    ∃ t, exec .controlFrameRepeat s = .next t ∧
      t.clasp.txSeq = s.clasp.txSeq ∧ quiet t = quiet { s with clasp := { s.clasp with repeated := [] } }) ∧
  (∀ (r : Repeated) (s : State), s.clasp.repeated = [r] → s.clasp.link = 4 → bound s = true → standbyNow s = false →
    r.lastAt < s.disp.tick → s.disp.tick < r.firstAt + 8 →
    ∃ t, exec .controlFrameRepeat s = .next t ∧
      t.clasp.txSeq = s.clasp.txSeq + 1 ∧
      quiet t = quiet { s with clasp := { s.clasp with repeated := [{ r with lastAt := s.disp.tick }] } }) ∧
  (∀ (s : State), s.clasp.repeated = [] ∨ s.clasp.link < 3 → ∃ t, exec .controlFrameRepeat s = .next t ∧ quiet t = quiet s)

/-- From R548 to R556, R560: renewals keep the lease, which ends 8 ms after the newest one acknowledged, with every Chain revoked;
an eligible standby takes the Signet when the time of takeover comes or the holder releases it, the generation one higher;
DETACH ends the holder's waits; a planned release drains first; unbinding clears the pair key. Derived: where those rules leave
an order, an encoding or a value open, the clauses take the model's own choice, said in assumptions 68 and 69. The clauses
conclude that exec answers a next state of the commands renew, renewAck, renewTimer, leaseEnd, takeoverByExpiry, eligible,
releaseDrainEnd, pairUnbind, release, releaseAck, take, detach, plannedRelease, unbind. -/
def Obligations.SignetRenewedTakenReleasedAndUnbound : Prop :=
  (∀ (frame body : Bytes) (s : State), inBound s = true → claspNext s 0x10 frame body = true → standbyNow s = true →
    3 ≤ s.twin.sync →
    ∃ t, exec (.renew frame) s = .next t ∧
      t.twin.takeoverAt = s.disp.tick + 10000 ∧ t.twin.renewSeen = true ∧
      quiet t = quiet { acceptClasp frame s with twin := { (acceptClasp frame s).twin with takeoverAt := s.disp.tick + 10000 } }) ∧
  (∀ (frame body : Bytes) (at_ : Nat) (s : State), inBound s = true → claspNext s 0x11 frame body = true → activeNow s = true →
    (acceptClasp frame s).twin.renewSent.find? (fun r => decide (r.1 = leNat (body.take 8))) = some (leNat (body.take 8), at_) →
    ∃ t, exec (.renewAck frame) s = .next t ∧
      t.twin.leaseEnd = max s.twin.leaseEnd (at_ + 8000) ∧ t.twin.renewSeen = true ∧
      (t.twin.renewSent = s.twin.renewSent.filter fun x => decide (leNat (body.take 8) < x.1)) ∧
      quiet t = quiet { acceptClasp frame s with twin := { (acceptClasp frame s).twin with
        leaseEnd := t.twin.leaseEnd, renewSent := t.twin.renewSent } }) ∧
  (∀ (s : State), replicating s = true → s.twin.renewDue ≤ s.disp.tick →
    ∃ t, exec .renewTimer s = .next t ∧
      quiet t = quiet { s with twin := { s.twin with
        renewal := s.twin.renewal + 1, renewSent := s.twin.renewSent ++ [(s.twin.renewal + 1, s.disp.tick)],
        renewDue := s.disp.tick + 2000 } }) ∧
  (∀ (s : State), replicating s = true → s.twin.leaseEnd ≤ s.disp.tick →
    ∃ t, exec .leaseEnd s = .next t ∧
      t.twin.holder = false ∧ t.modes.word.active = false ∧ t.modes.word.service = false ∧
      t.twin.revoked = s.twin.revoked + BitVec.ofNat 64 (s.disp.chains.filter fun x => !x.2.revoked).length ∧
      t.sec.generation = s.sec.generation ∧ (∀ c ch, getChain t c = some ch → ch.revoked = true)) ∧
  (∀ (s : State), replicating s = false ∨ s.disp.tick < s.twin.renewDue → ∃ t, exec .renewTimer s = .next t ∧
    quiet t = quiet s) ∧
  (∀ (s : State), replicating s = false ∨ s.disp.tick < s.twin.leaseEnd → ∃ t, exec .leaseEnd s = .next t ∧ quiet t = quiet s) ∧
  (∀ (s : State), standbyNow s = false ∨ s.twin.sync < 3 ∨ s.twin.renewSeen = false ∨ s.disp.tick < s.twin.takeoverAt →
    ∃ t, exec .takeoverByExpiry s = .next t ∧ quiet t = quiet s) ∧
  (∀ (s : State), standbyNow s = false ∨ s.twin.sync ≠ 3 ∨ eligibleNow s = false → ∃ t, exec .eligible s = .next t ∧
    quiet t = quiet s) ∧
  (∀ (s : State), s.twin.drainDue.all (fun due => decide (s.disp.tick < due) && !s.disp.chains.isEmpty) = true →
    ∃ t, exec .releaseDrainEnd s = .next t ∧ quiet t = quiet s) ∧
  (∀ (src : Src) (s : State) (p : Path), reaches src [3] s p 0x7000 9 [3] = true → activeNow s = false →
    ∃ t, exec (.pairUnbind src) s = .next t ∧ quiet t = quiet { s with twin := { s.twin with actionResult := 1 } }) ∧
  (∀ (s : State), standbyNow s = true → 3 ≤ s.twin.sync → s.twin.renewSeen = true → s.twin.takeoverAt ≤ s.disp.tick →
    eligibleNow s = true → fitToServe s = true → auditClear s = true →
    ∃ t, exec .takeoverByExpiry s = .next t ∧
      t.twin.holder = true ∧ t.modes.word.active = true ∧ t.sec.generation = s.sec.generation + 1 ∧
      t.sec.genSide = s.twin.side ∧ t.sec.takings = s.sec.takings + 1 ∧ t.sec.lastTaking = s.sec.deviceTime ∧
        t.keys.vault = s.keys.vault) ∧
  (∀ (s : State), standbyNow s = true → 3 ≤ s.twin.sync → s.twin.renewSeen = true → s.twin.takeoverAt ≤ s.disp.tick →
    eligibleNow s = true → fitToServe s = true → auditClear s = false →
    ∃ t, exec .takeoverByExpiry s = .next t ∧
      t.twin.holder = false ∧ t.twin.holdStopped = true ∧ quiet t = quiet s) ∧
  (∀ (s : State), standbyNow s = true → 3 ≤ s.twin.sync → s.twin.renewSeen = true → s.twin.takeoverAt ≤ s.disp.tick →
    (eligibleNow s = false ∨ fitToServe s = false) →
    ∃ t, exec .takeoverByExpiry s = .next t ∧
      t.twin.holder = false ∧ t.twin.sync = 1 ∧ t.sec.generation = s.sec.generation) ∧
  (∀ (s : State), standbyNow s = true → s.twin.sync = 3 → eligibleNow s = true → (s.clasp.link ≠ 4 ∨ peerShows s 1 = true) →
    ∃ t, exec .eligible s = .next t ∧ t.twin.sync = 4 ∧ quiet t = quiet s) ∧
  (∀ (frame body : Bytes) (s : State), inBound s = true → claspNext s 0x12 frame body = true → standbyNow s = true →
    eligibleNow s = true → auditClear s = true → lockedNow s = false → fatalOpen s = false →
    ∃ t, exec (.release frame) s = .next t ∧
      t.twin.holder = true ∧ t.sec.generation = s.sec.generation + 1 ∧ t.sec.genSide = s.twin.side) ∧
  (∀ (frame body : Bytes) (s : State), inBound s = true → claspNext s 0x12 frame body = true → standbyNow s = true →
    (eligibleNow s = false ∨ auditClear s = false ∨ lockedNow s = true ∨ fatalOpen s = true) →
    ∃ t, exec (.release frame) s = .next t ∧
      t.twin.holder = false ∧ quiet t = quiet { acceptClasp frame s with
        clasp := { (acceptClasp frame s).clasp with peerHello := t.clasp.peerHello } }) ∧
  (∀ (frame body : Bytes) (s : State), inBound s = true → claspNext s 0x13 frame body = true →
    ∃ t, exec (.releaseAck frame) s = .next t ∧
      (∀ r ∈ t.clasp.repeated, r.kind ≠ 0x12) ∧
      quiet t = quiet { acceptClasp frame s with clasp := { (acceptClasp frame s).clasp with repeated := t.clasp.repeated } }) ∧
  (∀ (frame body : Bytes) (s : State), inBound s = true → claspNext s 0x14 frame body = true →
    s.sec.generation.toNat < leNat (body.take 8) → body.length = 9 →
    ∃ t, exec (.take frame) s = .next t ∧
      t.sec.generation = BitVec.ofNat 64 (leNat (body.take 8)) ∧ t.twin.holder = false ∧ t.modes.word.active = false) ∧
  (∀ (frame body : Bytes) (s : State), inBound s = true → claspNext s 0x15 frame body = true → activeNow s = true →
    ∃ t, exec (.detach frame) s = .next t ∧
      t.twin.peerSync = 1 ∧ t.twin.unacked = [] ∧ t.twin.renewSent = [] ∧ t.twin.holder = true ∧
      (∀ c ch, getChain t c = some ch → ch.waitRecords = [])) ∧
  (∀ (src : Src) (s : State) (p : Path), reaches src [4] s p 0x7000 9 [4] = true → activeNow s = true → s.twin.peerSync = 3 →
    s.twin.renewSeen = true → s.twin.inSyncAt + 10000 ≤ s.disp.tick →
    ∃ t, exec (.plannedRelease src) s = .next t ∧
      quiet t = quiet { s with twin := { s.twin with actionResult := 0xFF, drainDue := some (s.disp.tick + s.twin.drain) } }) ∧
  (∀ (src : Src) (s : State) (p : Path) (r : Nat), reaches src [4] s p 0x7000 9 [4] = true →
    (activeNow s = false ∧ r = 1 ∨ activeNow s = true ∧ s.twin.peerSync ≠ 3 ∧ r = 6) →
    ∃ t, exec (.plannedRelease src) s = .next t ∧ quiet t = quiet { s with twin := { s.twin with actionResult := r } }) ∧
  (∀ (due : Nat) (s : State), s.twin.drainDue = some due → (due ≤ s.disp.tick ∨ s.disp.chains = []) → activeNow s = true →
    ∃ t, exec .releaseDrainEnd s = .next t ∧
      t.twin.holder = false ∧ t.twin.drainDue = none ∧ t.twin.actionResult = 0 ∧ t.modes.word.active = false) ∧
  (∀ (src : Src) (s : State) (p : Path), reaches src [3] s p 0x7000 9 [3] = true → activeNow s = true →
    ∃ t, exec (.pairUnbind src) s = .next t ∧
      t.sec.pair = none ∧ vaultSlot t 2 = none ∧ t.twin.actionResult = 0 ∧ t.modes.word.paired = false ∧
      t.keys.slots = s.keys.slots ∧ (∀ n, n ≠ 2 → vaultSlot t n = vaultSlot s n) ∧
      (s.clasp.link = 4 → (t.clasp.repeated.any fun r => decide (r.kind = 0x43)) = true) ∧
      quiet t = quiet { s with sec := t.sec, keys := { s.keys with vault := t.keys.vault }, clasp := t.clasp, disp := t.disp,
                               twin := t.twin }) ∧
  (∀ (frame body h : Bytes) (s : State), s.clasp.link = 4 → s.modes.word.doze = false → claspNext s 0x43 frame body = true →
    s.clasp.peerHello = some h → namesPeer s h = true →
    ∃ t, exec (.unbind frame) s = .next t ∧
      t.sec.pair = none ∧ vaultSlot t 2 = none ∧ t.modes.word.paired = false ∧ t.clasp.link = 2)

/-- From R545 to R548: each part begins its side of a binding or shows why it cannot; the source answers a BIND_REQ with its own
key, the joiner answers BIND_RESP, and both then hold the pair key and the pair record, the source as the holder of the Signet
at generation 1; a handshake not finished in time ends with its result. Derived: where those rules leave an order, an encoding
or a value open, the clauses take the model's own choice, said in assumptions 14 and 70. The clauses conclude that exec answers
a next state of the commands bindAsSource, bindAsJoiner, bindReq, bindResp, bindConf, bindTimeout. -/
def Obligations.PartsBindIntoAPair : Prop :=
  (∀ (src : Src) (s : State) (p : Path), reaches src [1] s p 0x7000 9 [1] = true → bindRefused s true = 0 →
    s.twin.offer = none →
    ∃ t, exec (.bindAsSource src) s = .next t ∧
      quiet t = quiet { s with twin := { s.twin with
        binding := some ⟨true, [], [], [], s.disp.tick + 1000000⟩, actionResult := 0xFF } }) ∧
  (∀ (src : Src) (s : State) (p : Path) (point : Bytes) (at_ : Nat), reaches src [1] s p 0x7000 9 [1] = true →
    bindRefused s true = 0 → s.twin.offer = some (point, at_) → s.disp.tick ≤ at_ + 1000000 → reserveCovers s 56 = true →
    ∃ t, exec (.bindAsSource src) s = .next t ∧
      (∀ z, ecdhOp p384 (ecKeyPair p384 (s.rng.reserve.take 56)).1 point = .done z →
        (t.twin.binding.map fun b => (b.source, b.peerPoint, b.key)) = some (true, point, pairKeyOf s (peerSerial s) z)) ∧
      ((∀ z, ecdhOp p384 (ecKeyPair p384 (s.rng.reserve.take 56)).1 point ≠ .done z) →
        t.twin.binding = none ∧ t.twin.actionResult = 7) ∧
      t.twin.offer = none ∧ quiet t = quiet { s with twin := t.twin, rng := t.rng }) ∧
  (∀ (src : Src) (s : State), ∀ i ∈ ([.bindAsSource src, .bindAsJoiner src] : List Instr),
    bindRefused s true = 0 → bindRefused s false = 0 → s.twin.offer.isSome = true → reserveCovers s 56 = false →
    ∃ t, exec i s = .next t ∧ quiet t = quiet s) ∧
  (∀ (src : Src) (s : State) (p : Path) (r : Nat), reaches src [1] s p 0x7000 9 [1] = true → bindRefused s true = r → r ≠ 0 →
    s.twin.offer = none ∨ reserveCovers s 56 = true →
    ∃ t, exec (.bindAsSource src) s = .next t ∧ quiet t = quiet (pairResult r s)) ∧
  (∀ (src : Src) (s : State) (p : Path), reaches src [2] s p 0x7000 9 [2] = true → bindRefused s false = 0 →
    reserveCovers s 56 = true →
    ∃ t, exec (.bindAsJoiner src) s = .next t ∧
      t.twin.binding = some ⟨false, (ecKeyPair p384 (s.rng.reserve.take 56)).1, [], [], s.disp.tick + 1000000⟩ ∧
      t.twin.actionResult = 0xFF ∧ t.clasp.txSeq = s.clasp.txSeq + 1 ∧
      quiet t = quiet { s with twin := { s.twin with binding := t.twin.binding, offer := none, actionResult := 0xFF },
                               rng := { s.rng with reserve := s.rng.reserve.drop 56, drawn := s.rng.drawn + 56 } }) ∧
  (∀ (src : Src) (s : State) (p : Path) (r : Nat), reaches src [2] s p 0x7000 9 [2] = true → bindRefused s false = r → r ≠ 0 →
    ∃ t, exec (.bindAsJoiner src) s = .next t ∧ quiet t = quiet (pairResult r s)) ∧
  (∀ (frame body : Bytes) (s : State), s.clasp.link = 3 → s.modes.word.doze = false → claspNext s 0x40 frame body = true →
    body.length = 98 → (body.getD 0 0).toNat = 2 → s.twin.binding = none →
    ∃ t, exec (.bindReq frame) s = .next t ∧
      quiet t = quiet { acceptClasp frame s with twin := { (acceptClasp frame s).twin with
        offer := some (slice 1 97 body, s.disp.tick) } }) ∧
  (∀ (frame body : Bytes) (b : Binding) (s : State), s.clasp.link = 3 → s.modes.word.doze = false →
    claspNext s 0x40 frame body = true → body.length = 98 → (body.getD 0 0).toNat = 2 → s.twin.binding = some b →
      b.source = true →
    b.key = [] → reserveCovers s 56 = true →
    ∃ t, exec (.bindReq frame) s = .next t ∧
      (∀ z, ecdhOp p384 (ecKeyPair p384 (s.rng.reserve.take 56)).1 (slice 1 97 body) = .done z →
        (t.twin.binding.map fun b => (b.source, b.peerPoint, b.key)) =
          some (true, slice 1 97 body, pairKeyOf s (peerSerial s) z)) ∧
      ((∀ z, ecdhOp p384 (ecKeyPair p384 (s.rng.reserve.take 56)).1 (slice 1 97 body) ≠ .done z) →
        t.twin.binding = none ∧ t.twin.actionResult = 7) ∧
      t.keys = s.keys ∧ t.sec = s.sec) ∧
  (∀ (frame body : Bytes) (s : State), ∀ y ∈ ([(.bindReq frame, 0x40), (.bindResp frame, 0x41), (.bindConf frame, 0x42)] :
      List (Instr × Nat)),
    s.clasp.link = 4 → s.modes.word.doze = false → bound s = true → claspNext s y.2 frame body = true →
    ∃ t, exec y.1 s = .next t ∧ quiet t = quiet (acceptClasp frame s)) ∧
  (∀ (frame : Bytes) (s : State), ∀ y ∈ ([(.bindReq frame, 0x40), (.bindResp frame, 0x41), (.bindConf frame, 0x42)] :
      List (Instr × Nat)),
    s.clasp.link = 3 → s.modes.word.doze = false → claspForm y.2 frame = true → s.clasp.fails < 7 →
    (claspOpen s 3 frame = none ∨ claspFseq frame ≠ s.clasp.rxSeq + 1) →
    ∃ t, exec y.1 s = .next t ∧
      t.twin.binding = none ∧ (s.twin.binding.isSome = true → t.twin.actionResult = 7) ∧
      quiet t = quiet { s with clasp := { s.clasp with rejected := s.clasp.rejected + 1, fails := s.clasp.fails + 1 },
                               twin := { s.twin with binding := none, actionResult := t.twin.actionResult } }) ∧
  (∀ (frame body : Bytes) (s : State), ∀ y ∈ ([(.bindResp frame, 0x41, true), (.bindConf frame, 0x42, false)] :
      List (Instr × Nat × Bool)),
    s.clasp.link = 3 → s.modes.word.doze = false → claspNext s y.2.1 frame body = true →
    s.twin.binding.all (fun b => b.source == y.2.2) = true →
    ∃ t, exec y.1 s = .next t ∧ quiet t = quiet (acceptClasp frame s)) ∧
  (∀ (frame body : Bytes) (b : Binding) (s : State), s.clasp.link = 3 → s.modes.word.doze = false →
    claspNext s 0x41 frame body = true → s.twin.binding = some b → b.source = false →
    (match ecdhOp p384 b.ephemeral body with | .done _ => false | _ => true) = true →
    ∃ t, exec (.bindResp frame) s = .next t ∧
      t.twin.binding = none ∧ t.twin.actionResult = 7 ∧ t.sec.pair = s.sec.pair ∧ t.keys = s.keys) ∧
  (∀ (frame body : Bytes) (b : Binding) (s : State), s.clasp.link = 3 → s.modes.word.doze = false →
    claspNext s 0x40 frame body = true → body.length = 98 → (body.getD 0 0).toNat = 1 → s.twin.binding = some b →
      b.source = true →
    ∃ t, exec (.bindReq frame) s = .next t ∧ t.twin.binding = none ∧ t.twin.actionResult = 4 ∧ t.sec.pair = s.sec.pair) ∧
  (∀ (frame body z : Bytes) (b : Binding) (s : State), s.clasp.link = 3 → s.modes.word.doze = false →
    claspNext s 0x41 frame body = true → s.twin.binding = some b → b.source = false → ecdhOp p384 b.ephemeral body = .done z →
    ∃ t, exec (.bindResp frame) s = .next t ∧
      t.sec.pair = some { peer := peerSerial s } ∧ vaultKey t 2 = padTo 32 (pairKeyOf s (peerSerial s) z) ∧
      t.sec.generation = 1 ∧ t.sec.genSide = 1 - s.twin.side ∧ t.twin.holder = false ∧ t.twin.binding = none ∧
      t.twin.actionResult = 0 ∧ t.keys.slots = [] ∧ t.clasp.link = 2) ∧
  (∀ (frame body : Bytes) (b : Binding) (s : State), s.clasp.link = 3 → s.modes.word.doze = false →
    claspNext s 0x42 frame body = true → s.twin.binding = some b → b.source = true → b.key ≠ [] →
    ∃ t, exec (.bindConf frame) s = .next t ∧
      t.sec.pair = some { peer := peerSerial s } ∧ vaultKey t 2 = padTo 32 b.key ∧ t.sec.generation = 1 ∧
      t.sec.genSide = s.twin.side ∧ t.twin.holder = true ∧ t.twin.binding = none ∧ t.twin.actionResult = 0 ∧
      t.sec.takings = s.sec.takings + 1 ∧ t.keys.slots = s.keys.slots ∧ t.clasp.link = 2) ∧
  (∀ (b : Binding) (s : State), s.twin.binding = some b → b.due ≤ s.disp.tick →
    ∃ t, exec .bindTimeout s = .next t ∧
      quiet t = quiet { s with twin := { s.twin with binding := none, actionResult := if b.key.isEmpty then 3 else 7 } }) ∧
  (∀ (s : State), s.twin.binding.all (fun b => decide (s.disp.tick < b.due)) = true →
    ∃ t, exec .bindTimeout s = .next t ∧ quiet t = quiet s)

/-- From R557 to R563: a standby applies the records of a frame in order, each once, and becomes Detached when one is missing; the
holder answers RESYNC_REQ with the whole of its current state, and RESYNC_END says how many items make the copy. Derived: where
those rules leave an order, an encoding or a value open, the clauses take the model's own choice, said in assumptions 68 and
100. The clauses conclude that exec answers a next state of the commands repl, resyncData, resyncEnd, resyncReq. -/
def Obligations.RecordsAppliedAndCopiesMade : Prop :=
  (∀ (frame body content : Bytes) (kind : Nat) (u : State) (pages : List (Store × Nat)) (event : Nat) (s : State),
    inBound s = true → claspNext s 0x20 frame body = true → standbyNow s = true → 2 ≤ s.twin.sync → kind < 256 →
    content.length < 4096 → s.twin.processed + 1 < 2 ^ 64 → body = replRecord (s.twin.processed + 1) kind content →
    applyRecord kind content (acceptClasp frame s) = some (u, pages, event) →
    ∃ t, exec (.repl frame) s = .next t ∧
      t.twin.processed = s.twin.processed + 1 ∧ t.twin.recordsApplied = u.twin.recordsApplied + 1 ∧ t.keys = u.keys ∧
      t.epochs = u.epochs ∧ t.tenants.insts = u.tenants.insts ∧ t.host.qps = u.host.qps ∧
      t.modes.serviceEnable = u.modes.serviceEnable) ∧
  (∀ (frame body content : Bytes) (kind n : Nat) (s : State),
    inBound s = true → claspNext s 0x20 frame body = true → standbyNow s = true → 2 ≤ s.twin.sync → kind < 256 →
    content.length < 4096 → n < 2 ^ 64 → body = replRecord n kind content → s.twin.processed + 1 < n →
    ∃ t, exec (.repl frame) s = .next t ∧ t.twin.sync = 1 ∧ t.twin.processed = s.twin.processed ∧ t.keys = s.keys) ∧
  (∀ (frame body content : Bytes) (kind n : Nat) (s : State),
    inBound s = true → claspNext s 0x20 frame body = true → standbyNow s = true → 2 ≤ s.twin.sync → kind < 256 →
    content.length < 4096 → n < 2 ^ 64 → body = replRecord n kind content → n ≤ s.twin.processed →
    ∃ t, exec (.repl frame) s = .next t ∧ quiet t = quiet (acceptClasp frame s)) ∧
  (∀ (frame body content : Bytes) (kind : Nat) (u : State) (pages : List (Store × Nat)) (event : Nat) (s : State),
    inBound s = true → claspNext s 0x31 frame body = true → standbyNow s = true → 2 ≤ s.twin.sync → kind < 256 →
    content.length < 4096 → s.twin.processed + 1 < 2 ^ 64 → body = replRecord (s.twin.processed + 1) kind content →
    applyRecord kind content (acceptClasp frame s) = some (u, pages, event) →
    ∃ t, exec (.resyncData frame) s = .next t ∧
      t.twin.processed = s.twin.processed + 1 ∧ t.twin.recordsApplied = u.twin.recordsApplied + 1 ∧ t.keys = u.keys ∧
      t.epochs = u.epochs ∧ t.tenants.insts = u.tenants.insts ∧ t.host.qps = u.host.qps ∧
      t.modes.serviceEnable = u.modes.serviceEnable) ∧
  (∀ (frame body : Bytes) (s : State), ∀ y ∈ ([(.repl frame, 0x20), (.resyncData frame, 0x31), (.resyncEnd frame, 0x32)] :
      List (Instr × Nat)),
    inBound s = true → claspNext s y.2 frame body = true → standbyNow s = false →
    ∃ t, exec y.1 s = .next t ∧ quiet t = quiet (acceptClasp frame s)) ∧
  (∀ (frame body : Bytes) (s : State), inBound s = true → claspNext s 0x30 frame body = true → activeNow s = false →
    ∃ t, exec (.resyncReq frame) s = .next t ∧ quiet t = quiet (acceptClasp frame s)) ∧
  (∀ (frame body : Bytes) (s : State), inBound s = true → claspNext s 0x32 frame body = true → standbyNow s = true →
    s.twin.sync = 2 →
    (appliedNow s ≠ s.twin.applied ∨ leNat (body.take 4) = 0 ∨ s.twin.applied < leNat (body.take 4)) →
    ∃ t, exec (.resyncEnd frame) s = .next t ∧
      quiet t = quiet { acceptClasp frame s with twin := { (acceptClasp frame s).twin with resyncItems := leNat (body.take 4) } }) ∧
  (∀ (frame body : Bytes) (s : State), inBound s = true → claspNext s 0x32 frame body = true → standbyNow s = true →
    s.twin.sync = 2 → appliedNow s = s.twin.applied → leNat (body.take 4) ≠ 0 → leNat (body.take 4) ≤ s.twin.applied →
    ∃ t, exec (.resyncEnd frame) s = .next t ∧ t.twin.sync = 3 ∧ t.twin.inSyncAt = s.disp.tick ∧ t.keys = s.keys) ∧
  (∀ (frame body : Bytes) (s : State), inBound s = true → claspNext s 0x30 frame body = true → activeNow s = true →
    ∃ t, exec (.resyncReq frame) s = .next t ∧
      t.twin.peerSync = 2 ∧ t.twin.nextRecord = (copyRecords s).length + 1 ∧ t.twin.resyncItems = (copyRecords s).length ∧
      (t.twin.unacked.map fun r => (r.kind, r.content)) = copyRecords s ∧ t.twin.leaseEnd = s.disp.tick + 8000 ∧
      t.keys = s.keys ∧ t.twin.holder = true) ∧
  (∀ (s : State) (n : Nat) (content : Bytes), n < slotCount s → (getSlot s n).state = .valid → content.length = 4 →
    ∃ u, applyRecord 3 (natLE 4 n ++ content) s = some (u, [], 0) ∧
      (∀ m, m ≠ n → getSlot u m = getSlot s m) ∧ (getSlot u n).key = (getSlot s n).key)

/-- From R539 to R544: founding draws a domain root key into vault slot 1; a sponsor hands out a member number once and makes a
package; a candidate whose package opens joins with its key, domain and number; leaving clears them; whatever is refused shows
its result and changes nothing else. Derived: where those rules leave an order, an encoding or a value open, the clauses take
the model's own choice, said in assumptions 14, 44 and 71. The clauses conclude that exec answers a next state of the commands
domainFound, domainSponsor, domainJoin, domainLeave. -/
def Obligations.DomainsFoundedSponsoredJoinedLeft : Prop :=
  (∀ (src : Src) (s : State) (p : Path), reaches src [1] s p 0x7100 3 [1] = true → foundResult s = 0 →
    reserveCovers s 40 = true →
    ∃ t, exec (.domainFound src) s = .next t ∧
      vaultKey t 1 = padTo 32 (s.rng.reserve.take 32) ∧ t.sec.domainId ≠ 0 ∧
      (leNat (slice 32 8 s.rng.reserve) ≠ 0 → t.sec.domainId = leNat (slice 32 8 s.rng.reserve)) ∧
      t.sec.member = s.domain.memberReq ∧
      t.sec.issued = [] ∧ t.domain.result = 0 ∧ (∀ n, n ≠ 1 → vaultSlot t n = vaultSlot s n) ∧
      quiet t = quiet { s with
        keys := { s.keys with vault := t.keys.vault, emptyMasks := t.keys.emptyMasks }, custody := t.custody,
        sec := { s.sec with domainId := t.sec.domainId, member := t.sec.member, issued := [] },
        domain := { s.domain with result := 0 }, freeUses := t.freeUses,
        rng := { s.rng with reserve := s.rng.reserve.drop 40, drawn := s.rng.drawn + 40 } }) ∧
  (∀ (src : Src) (s : State), foundResult s = 0 → reserveCovers s 40 = false →
    ∃ t, exec (.domainFound src) s = .next t ∧ quiet t = quiet s) ∧
  (∀ (src : Src) (s : State), sponsorResult s = 0 → reserveCovers s 56 = false →
    ∃ t, exec (.domainSponsor src) s = .next t ∧ quiet t = quiet s) ∧
  (∀ (src : Src) (s : State) (p : Path) (r : Nat), reaches src [1] s p 0x7100 3 [1] = true → foundResult s = r → r ≠ 0 →
    ∃ t, exec (.domainFound src) s = .next t ∧ quiet t = quiet (domainResult r s)) ∧
  (∀ (src : Src) (s : State) (p : Path), reaches src [2] s p 0x7100 3 [2] = true → sponsorResult s = 0 →
    reserveCovers s 56 = true →
    ∃ t, exec (.domainSponsor src) s = .next t ∧
      (∀ z, ecdhOp p384 (ecKeyPair p384 (s.rng.reserve.take 56)).1 s.domain.candKey = .done z →
        t.domain.packageOut = joinPackage s (ecKeyPair p384 (s.rng.reserve.take 56)).2 z ∧
        t.sec.issued = s.sec.issued ++ [s.domain.memberReq] ∧ t.domain.result = 0) ∧
      ((∀ z, ecdhOp p384 (ecKeyPair p384 (s.rng.reserve.take 56)).1 s.domain.candKey ≠ .done z) →
        t.domain.result = 5 ∧ t.sec = s.sec) ∧
      quiet t = quiet { s with sec := { s.sec with issued := t.sec.issued }, custody := t.custody,
                               domain := { s.domain with packageOut := t.domain.packageOut, result := t.domain.result },
                               rng := { s.rng with reserve := s.rng.reserve.drop 56, drawn := s.rng.drawn + 56 } }) ∧
  (∀ (src : Src) (s : State) (p : Path) (r : Nat), reaches src [2] s p 0x7100 3 [2] = true → sponsorResult s = r → r ≠ 0 →
    ∃ t, exec (.domainSponsor src) s = .next t ∧ quiet t = quiet (domainResult r s)) ∧
  (∀ (src : Src) (s : State) (p : Path), reaches src [3] s p 0x7100 3 [3] = true → domainMode s = false → vaultSlot s 1 = none →
    ∃ t, exec (.domainJoin src) s = .next t ∧
      (∀ root, openPackage s s.domain.packageIn = some root →
        vaultKey t 1 = padTo 32 root ∧ t.sec.domainId = leNat (slice 4 8 s.domain.packageIn) ∧
        t.sec.member = leNat (slice 2 2 s.domain.packageIn) ∧ t.domain.result = 0 ∧
        (∀ n, n ≠ 1 → vaultSlot t n = vaultSlot s n) ∧
        quiet t = quiet { s with
          keys := { s.keys with vault := t.keys.vault, emptyMasks := t.keys.emptyMasks }, custody := t.custody,
          sec := { s.sec with domainId := t.sec.domainId, member := t.sec.member, issued := t.sec.issued },
          domain := { s.domain with result := 0 }, freeUses := t.freeUses }) ∧
      (openPackage s s.domain.packageIn = none → quiet t = quiet (domainResult 4 s))) ∧
  (∀ (src : Src) (s : State) (p : Path) (r : Nat), reaches src [3] s p 0x7100 3 [3] = true →
    (domainMode s = true ∧ r = 2 ∨ domainMode s = false ∧ (vaultSlot s 1).isSome = true ∧ r = 1) →
    ∃ t, exec (.domainJoin src) s = .next t ∧ quiet t = quiet (domainResult r s)) ∧
  (∀ (src : Src) (s : State) (p : Path), reaches src [4] s p 0x7100 3 [4] = true → domainMode s = false →
    (vaultSlot s 1).isSome = true →
    ∃ t, exec (.domainLeave src) s = .next t ∧
      vaultSlot t 1 = none ∧ t.sec.domainId = 0 ∧ t.sec.member = 0 ∧ t.sec.issued = [] ∧ t.domain.result = 0 ∧
      (∀ n, n ≠ 1 → vaultSlot t n = vaultSlot s n) ∧
      quiet t = quiet { s with
        keys := { s.keys with vault := t.keys.vault }, custody := t.custody,
        sec := { s.sec with domainId := 0, member := 0, issued := [] }, domain := { s.domain with result := 0 } }) ∧
  (∀ (src : Src) (s : State) (p : Path), reaches src [4] s p 0x7100 3 [4] = true → domainMode s = false → vaultSlot s 1 = none →
    ∃ t, exec (.domainLeave src) s = .next t ∧ quiet t = quiet (domainResult 1 s)) ∧
  (∀ (src : Src) (s : State) (p : Path), reaches src [4] s p 0x7100 3 [4] = true → domainMode s = true →
    ∃ t, exec (.domainLeave src) s = .next t ∧ quiet t = quiet (domainResult 2 s))

/-- From R20, R401, R435, R571, R572, R574: a warm reset of 1 µs or more leaves the part in reset with its working keys cleared, its
battery domain, fuses and MRAM pages standing, and a short pulse does nothing; a cold reset tears the page in progress as R401
says; a battery reset initialises the battery domain and leaves fuses, pages and key slots; a switch of supply loses nothing;
the watchdog resets a part whose tick has stopped for 1 ms. Derived: where those rules leave an order, an encoding or a value
open, the clauses take the model's own choice, said in assumptions 6, 7, 61 and 63. The clauses conclude that exec answers a
next state of the commands warmReset, coldReset, batteryReset, powerSwitchover, computeWatchdog. -/
def Obligations.ResetsKeepAndClear : Prop :=
  (∀ (pulse : Nat) (taken : Bool) (s : State), 1000 ≤ pulse ∨ (100 ≤ pulse ∧ taken = true) →
    s.mram.erases = [] → s.life.transition = none →
    ∃ t, exec (.warmReset pulse taken) s = .next t ∧
      t.boot.phase = .inReset ∧ t.sec.escalations = 0 ∧ t.keys.slots = [] ∧ t.keys.storageHeld = false ∧
      t.keys.rootHeld = false ∧ t.disp.chains = [] ∧ t.host.qps = [] ∧ t.rng.drbg = none ∧ t.custody.kmac = [] ∧
      t.keys.vault = s.keys.vault ∧ t.sec.sticky = s.sec.sticky ∧ t.sec.deviceTime = s.sec.deviceTime ∧
      t.sec.latch = s.sec.latch ∧ t.sec.pair = s.sec.pair ∧ t.fuses = s.fuses ∧ t.mram.pages = s.mram.pages ∧
      t.life.bank0 = s.life.bank0 ∧ t.mram.current = s.mram.current ∧ t.chainMem = [] ∧ t.engines = State.reset.engines ∧
      t.cores.cores = State.reset.cores.cores ∧ t.faults.records = [] ∧ t.custody.presA = s.custody.presA ∧
      t.custody.presB = s.custody.presB ∧ t.custody.dual = s.custody.dual ∧ t.energy.pwrlim = s.energy.pwrlim) ∧
  (∀ (pulse : Nat) (taken : Bool) (s : State), pulse < 100 ∨ (pulse < 1000 ∧ taken = false) →
    ∃ t, exec (.warmReset pulse taken) s = .next t ∧ quiet t = quiet s) ∧
  (∀ (torn : Option (Nat × Nat)) (s : State), s.mram.current = none → s.mram.erases = [] →
    ∃ t, exec (.coldReset torn) s = .next t ∧
      t.boot.phase = .inReset ∧ t.boot.cold = true ∧ t.sec.escalations = 0 ∧ t.mram.pages = s.mram.pages ∧
      t.keys.vault = s.keys.vault ∧ t.keys.slots = [] ∧ t.tap = Tap.reset ∧ t.custody.presA = none ∧ t.custody.presB = none ∧
      t.custody.dual = false ∧ t.fuses = s.fuses ∧ t.sec.sticky = s.sec.sticky ∧ t.sec.deviceTime = s.sec.deviceTime ∧
      t.chainMem = [] ∧ t.disp.chains = [] ∧ t.rng.drbg = none) ∧
  (∀ (torn : Option (Nat × Nat)) (w : PageWrite) (q : Nat) (s : State), s.mram.current = some w → s.mram.erases = [] →
    physical s (updateTarget s w).1 = q →
    ∃ t, exec (.coldReset torn) s = .next t ∧
      t.boot.phase = .inReset ∧
      (∀ p, p ≠ q → SMap.get Page.blank t.mram.pages p = SMap.get Page.blank s.mram.pages p) ∧
      SMap.get Page.blank t.mram.pages q =
        leftPage torn (SMap.get Page.blank s.mram.pages q) (writtenPage q (updateTarget s w).2 w.payload)) ∧
  (∀ (old new : Page) (k how i : Nat), old.seq < 2 ^ 32 → old.crc < 2 ^ 32 → old.payload.length = 504 → new.seq < 2 ^ 32 →
    new.crc < 2 ^ 32 → new.payload.length = 504 → k < 64 → i < 64 →
    (pageWords (tornPage old new k how)).getD i [] =
      (if i = k then
        if how = 0 then (pageWords old).getD i [] else if how = 1 then (pageWords new).getD i [] else List.replicate 8 0xFF
      else if i ≠ 0 ∧ (k = 0 ∨ i < k) then (pageWords new).getD i [] else (pageWords old).getD i []) ∧
    (2 ≤ how → (tornPage old new k how).poisoned = true)) ∧
  (∀ (cells : BitVec 128) (seed : Bytes) (s : State),
    ∃ t, exec (.batteryReset cells seed) s = .next t ∧
      t.sec.sticky = 0 ∧ t.sec.extArmed = 0 ∧ t.sec.sealArmed = false ∧ t.tamper.arming = none ∧ t.sec.latch = 0 ∧
      t.sec.deviceTime = 0 ∧ (∀ n, vaultSlot t n = none) ∧ t.keys.expanderSeed = padTo 48 seed ∧
      t.sec.sigValue = cells.extractLsb' 0 64 ∧ t.sec.sigComplement = cells.extractLsb' 64 64 ∧ t.sec.pair = none ∧
      t.sec.escalations = 0 ∧ t.keys.remaskCycles = 0 ∧
      quiet t = quiet { s with
        sec := t.sec, keys := { s.keys with vault := [], remaskCycles := 0, expanderSeed := padTo 48 seed, expanderCount := 0,
                                            emptyMasks := [], remaskedAt := none },
        tamper := { s.tamper with arming := none }, twin := { s.twin with holder := false, sync := 0 },
        modes := { s.modes with dozeAt := 0 }, boot := { s.boot with watchdogAt := 0 } }) ∧
  (∀ (toMain : Bool) (s : State),
    ∃ t, exec (.powerSwitchover toMain) s = .next t ∧ quiet t = quiet { s with sec := { s.sec with onMain := toMain } }) ∧
  (∀ (s : State), decoded s = true → s.modes.word.doze = false → s.boot.watchdogAt + 33 ≤ s.sec.deviceTime.toNat →
    ∃ t, exec (.computeWatchdog) s = .next t ∧
      t.boot.phase = .inReset ∧ t.keys.vault = s.keys.vault ∧ t.keys.slots = [] ∧ t.log.staged = []) ∧
  (∀ (s : State), decoded s = false ∨ s.modes.word.doze = true ∨ s.sec.deviceTime.toNat < s.boot.watchdogAt + 33 →
    ∃ t, exec (.computeWatchdog) s = .next t ∧ quiet t = quiet s)

/-- From R435, R456, R576, R591: at release the straps are taken once two samples agree, a good signature stands and a lost one
raises VBAT_LOST on a part that is not BLANK; a bad fuse bank is Fatal and stops start-up at PLL lock (R375); after PLL lock
memories are clear, the life-cycle state is decoded, and the boot counter is used up (R376, R418, R446); the generator starts
only then, and start-up ends with the store reloaded (R339, R578, R581). Derived: where those rules leave an order, an encoding
or a value open, the clauses take the model's own choice, said in assumption 62. The clauses conclude that exec answers a next
state of the commands resetRelease, pllLock, drbgInstantiated, startUpComplete. -/
def Obligations.StartUpRunsItsSteps : Prop :=
  (∀ (a : Nat × Bool) (rest : List (Nat × Bool)) (s : State), s.boot.phase = .inReset → s.mram.current = none →
    s.sec.sigValue ≠ 0 → s.sec.sigComplement = ~~~s.sec.sigValue → failingBanks s [] = [] →
    ∃ t, exec (.resetRelease (a :: a :: rest) []) s = .next t ∧
      t.boot.phase = .released ∧ t.energy.pwrlim = a.1 % 4 ∧ t.twin.side = bit a.2 ∧ t.fuses.badBanks = [] ∧
      t.energy.limit = (match a.1 % 4 with
        | 0 => byGrade s 950 600 400
        | 1 => byGrade s 1200 750 500
        | 2 => byGrade s 750 500 300
        | _ => byGrade s 600 400 250) ∧
      quiet t = quiet { s with
        boot := { s.boot with phase := .released, cold := false }, twin := { s.twin with side := bit a.2 },
        energy := { s.energy with pwrlim := a.1 % 4, limit := t.energy.limit }, fuses := { s.fuses with badBanks := [] } }) ∧
  (∀ (a : Nat × Bool) (rest : List (Nat × Bool)) (s : State), s.boot.phase = .inReset → s.mram.current = none →
    s.sec.sigValue = 0 → decodeLife (lifeWord s) = .blank → failingBanks s [] = [] →
    ∃ t, exec (.resetRelease (a :: a :: rest) []) s = .next t ∧
      t.boot.phase = .released ∧ t.sec.sigValue ≠ 0 ∧ t.sec.sigComplement = ~~~t.sec.sigValue ∧ t.sec.sticky = s.sec.sticky) ∧
  (∀ (a : Nat × Bool) (rest : List (Nat × Bool)) (s : State), s.boot.phase = .inReset → s.mram.current = none →
    s.sec.sigValue = 0 → decodeLife (lifeWord s) = .production → s.life.state = .production →
    failingBanks s [] = [] →
    ∃ t, exec (.resetRelease (a :: a :: rest) []) s = .next t ∧
      t.boot.phase = .released ∧ t.sec.sigValue ≠ 0 ∧ t.sec.sigComplement = ~~~t.sec.sigValue ∧
      t.sec.sticky = s.sec.sticky ||| 2 ^ 5 ∧ t.sec.lastSource = 5 ∧ (∀ n, vaultSlot t n = none)) ∧
  (∀ (b : Nat) (misread : List (Nat × Nat)) (a : Nat × Bool) (rest : List (Nat × Bool)) (s : State), s.boot.phase = .inReset →
    s.mram.current = none →
    s.sec.sigValue ≠ 0 → s.sec.sigComplement = ~~~s.sec.sigValue → failingBanks s misread = [b] →
    freshFatal s (faultCode 3 0x11 1) = true →
    ∃ t, exec (.resetRelease (a :: a :: rest) misread) s = .next t ∧
      t.fuses.badBanks = [b] ∧ FatalTaken (faultCode 3 0x11 1) [byte b] t) ∧
  (∀ (a : Nat × Bool) (rest : List (Nat × Bool)) (misread : List (Nat × Nat)) (s : State),
    s.boot.phase ≠ .inReset ∨ s.mram.current.isSome = true →
    ∃ t, exec (.resetRelease (a :: a :: rest) misread) s = .next t ∧ quiet t = quiet s) ∧
  (∀ (a b : Nat × Bool) (misread : List (Nat × Nat)) (s : State), a ≠ b →
    ∃ t, exec (.resetRelease [a, b] misread) s = .next t ∧ quiet t = quiet s) ∧
  (∀ (r : StartReport) (s : State), s.boot.phase = .released → s.fuses.badBanks ≠ [] →
    ∃ t, exec (.pllLock r) s = .next t ∧
      t.boot.phase = .stopped ∧ t.access.loaded = s.access.loaded ∧
      quiet t = quiet { s with boot := { s.boot with phase := .stopped, watchdogAt := s.sec.deviceTime.toNat } }) ∧
  (∀ (spares : Nat) (s : State), s.boot.phase = .released → s.fuses.badBanks = [] → s.tamper.live = 0 →
    (loadTables s = { s with access := { s.access with loaded := true } }) → s.mram.pages = [] →
    decodeLife (lifeWord s) = .production →
    ∃ t, exec (.pllLock ⟨[], spares, [], true, true, []⟩) s = .next t ∧
      t.boot.phase = .seeding ∧ t.access.loaded = true ∧ t.memTest.sparesAssigned = spares ∧ t.chainMem = [] ∧ t.scratch = [] ∧
      t.life.state = .production ∧ t.life.debugOpen = latchOpen s ∧ t.keys.rootHeld = true ∧ t.rng.katPassed = true ∧
      t.mram.bootCounter = 1 ∧ t.mram.active = 0 ∧ t.mram.pendingSlot = 0xFF ∧ t.boot.watchdogAt = s.sec.deviceTime.toNat) ∧
  (∀ (spares : Nat) (s : State), s.boot.phase = .released → s.fuses.badBanks = [] → s.tamper.live = 0 →
    (loadTables s = { s with access := { s.access with loaded := true } }) → s.mram.pages = [] →
    decodeLife (lifeWord s) = .blank →
    ∃ t, exec (.pllLock ⟨[], spares, [], true, true, []⟩) s = .next t ∧
      t.boot.phase = .provisioning ∧ t.life.state = .blank ∧ t.life.debugOpen = true ∧ t.mram.bootCounter = 0) ∧
  (∀ (r : StartReport) (s : State), s.boot.phase ≠ .released → ∃ t, exec (.pllLock r) s = .next t ∧ quiet t = quiet s) ∧
  (∀ (s : State), s.boot.phase = .seeding → s.boot.counterDurable = true → debugSettled s = true → s.rng.katPassed = true →
    seedReady s = true →
    ∃ t, exec (.drbgInstantiated) s = .next t ∧
      t.boot.phase = .verifying ∧
      t.rng.drbg = some (drbgInstantiate (conditionSeed (releasedWindows s)) (personalisation s)) ∧ t.rng.state = 1 ∧
      t.rng.reseeds = s.rng.reseeds + 1 ∧
      quiet t = quiet { s with boot := { s.boot with phase := .verifying }, rng := t.rng }) ∧
  (∀ (s : State), s.boot.phase ≠ .seeding ∨ s.boot.counterDurable = false ∨ s.rng.katPassed = false ∨ debugSettled s = false ∨
      seedReady s = false →
    ∃ t, exec (.drbgInstantiated) s = .next t ∧ quiet t = quiet s) ∧
  (∀ (s : State), s.boot.phase = .loading → fatalOpen s = false → s.log.tailFound = true → bootRecorded s = true →
    s.life.state ≠ .endOfLife → attestReady s = true → vaultSlot s 0 ≠ none → usedPages s .keys = [] →
    ∃ t, exec (.startUpComplete) s = .next t ∧
      t.boot.phase = .complete ∧ t.sec.escalations = 0 ∧ t.keys.storageHeld = true ∧ t.keys.reloaded = true ∧
      t.keys.forfeited = s.keys.forfeited) ∧
  (∀ (s : State), s.boot.phase = .loading → fatalOpen s = false → s.log.tailFound = true → bootRecorded s = true →
    s.life.state = .endOfLife →
    ∃ t, exec (.startUpComplete) s = .next t ∧
      t.boot.phase = .complete ∧ quiet t = quiet { s with
        boot := { s.boot with phase := .complete }, sec := { s.sec with escalations := 0 } }) ∧
  (∀ (s : State), s.boot.phase ≠ .loading ∨ fatalOpen s = true → ∃ t, exec (.startUpComplete) s = .next t ∧ quiet t = quiet s)

/-- From R19, R606, R607: each ACLK period adds one to Device Time; the telemetry target takes the temperature in 0.5 °C, the power
in 0.5 W and the STATUS bits at each update, alerts above 95 °C until 93 °C, and answers each read with the values of the last
update; the Alert Response Address is answered only while it alerts; a part in cold reset answers nothing. Derived: where those
rules leave an order, an encoding or a value open, the clauses take the model's own choice, said in assumptions 42 and 73. The
clauses conclude that exec answers a next state of the commands deviceTimeAdvance, telemetryUpdate, smbusTemperature,
smbusPower, smbusStatus, smbusAlertResponse. -/
def Obligations.TimeCountsAndTelemetryIsRead : Prop :=
  (∀ (s : State), s.modes.wakeTimer.all (fun at_ => decide ((s.sec.deviceTime + 1).toNat < at_)) = true →
    ∃ t, exec .deviceTimeAdvance s = .next t ∧
      t.sec.deviceTime = s.sec.deviceTime + 1 ∧
      quiet t = quiet { s with sec := { s.sec with deviceTime := s.sec.deviceTime + 1 } }) ∧
  (∀ (at_ : Nat) (s : State), s.modes.wakeTimer = some at_ → at_ ≤ (s.sec.deviceTime + 1).toNat → s.modes.word.doze = true →
    ∃ t, exec .deviceTimeAdvance s = .next t ∧
      t.sec.deviceTime = s.sec.deviceTime + 1 ∧ t.modes.word.doze = false ∧ t.modes.wakeTimer = none ∧
      (s.modes.word.dozeDepth = 2 → s.disp.tick ≤ t.disp.tick) ∧ t.disp.chains = s.disp.chains ∧ t.keys = s.keys) ∧
  (∀ (power : Nat) (s : State), targetAnswers s = true → s.energy.temps ≠ [] → s.modes.word.doze = false →
    ∃ t, exec (.telemetryUpdate power) s = .next t ∧
      t.telemetry.temperature = BitVec.ofInt 16 s.energy.junction ∧ t.telemetry.power = BitVec.ofNat 16 power ∧
      t.telemetry.status.getLsbD 0 = false ∧ t.telemetry.status.getLsbD 1 = decide (190 < s.energy.junction) ∧
      t.telemetry.status.getLsbD 2 = decide (220 ≤ s.energy.junction) ∧
      t.telemetry.status.getLsbD 3 =
        (decide (190 < s.energy.junction) || (!s.pins.smbAlertN && decide (186 < s.energy.junction))) ∧
      t.pins.smbAlertN = !(t.telemetry.status.getLsbD 3) ∧ t.telemetry.status.toNat < 16) ∧
  (∀ (power : Nat) (s : State), targetAnswers s = true →
    (s.energy.temps = [] ∨ (s.modes.word.doze = true ∧ s.modes.word.dozeDepth = 2)) →
    ∃ t, exec (.telemetryUpdate power) s = .next t ∧ t.telemetry.status.getLsbD 0 = true ∧
      t.pins.smbAlertN = s.pins.smbAlertN) ∧
  (∀ (power : Nat) (s : State), targetAnswers s = true →
    ∃ t, exec (.telemetryUpdate power) s = .next t ∧
      quiet t = quiet { s with telemetry := t.telemetry, energy := { s.energy with measured := power % 65536 } }) ∧
  (∀ (power : Nat) (s : State), targetAnswers s = false → ∃ t, exec (.telemetryUpdate power) s = .next t ∧ quiet t = quiet s) ∧
  (∀ (s : State), targetAnswers s = true →
    ∃ t, exec .smbusTemperature s = .next t ∧ Sent.smbus (natLE 2 s.telemetry.temperature.toNat) ∈ t.sent ∧ quiet t = quiet s) ∧
  (∀ (s : State), targetAnswers s = true →
    ∃ t, exec .smbusPower s = .next t ∧ Sent.smbus (natLE 2 s.telemetry.power.toNat) ∈ t.sent ∧ quiet t = quiet s) ∧
  (∀ (s : State), targetAnswers s = true →
    ∃ t, exec .smbusStatus s = .next t ∧ Sent.smbus (natLE 1 s.telemetry.status.toNat) ∈ t.sent ∧ quiet t = quiet s) ∧
  (∀ (s : State), targetAnswers s = true → s.pins.smbAlertN = false →
    ∃ t, exec .smbusAlertResponse s = .next t ∧ Sent.smbus [byte (2 * (0x5C + s.twin.side))] ∈ t.sent ∧ quiet t = quiet s) ∧
  (∀ (s : State), ∀ i ∈ ([.smbusTemperature, .smbusPower, .smbusStatus] : List Instr), targetAnswers s = false →
    ∃ t, exec i s = .next t ∧ t.sent = s.sent ∧ quiet t = quiet s) ∧
  (∀ (s : State), targetAnswers s = false ∨ s.pins.smbAlertN = true → ∃ t, exec .smbusAlertResponse s = .next t ∧
    quiet t = quiet s)

/-- From R392, R393, R452, R453, R605: through the open port, BYPASS delays by one bit, IDCODE shifts out its layout, SAMPLE/PRELOAD
loads the boundary register, EXTEST and CLAMP drive it only while SERVICE is clear, a core is halted and resumed, an access of
the port passes the checks of its path or is counted and answered in error, and fuse banks of a BLANK part have bits blown and
none cleared; through the closed port every one of them is ignored. Derived: where those rules leave an order, an encoding or a
value open, the clauses take the model's own choice, said in assumptions 20, 32 and 74. The clauses conclude that exec answers a
next state of the commands bypass, idcode, samplePreload, extest, clamp, deviceSpecificInstruction. -/
def Obligations.DebugPortObeyedOnlyWhileOpen : Prop :=
  (∀ (b : Bool) (tdi : List Bool) (s : State), portOpen s = true →
    ∃ t, exec (.bypass (tdi ++ [b])) s = .next t ∧
      Sent.tap ((false :: tdi).map fun b => byte (bit b)) ∈ t.sent ∧ t.tap.instruction = tapBypass ∧ quiet t = quiet s) ∧
  (∀ (s : State), portOpen s = true →
    ∃ t, exec .idcode s = .next t ∧
      Sent.tap (natLE 4 (1 + s.fuses.manufacturer % 2048 * 2 + byGrade s 0x9120 0x9080 0x9040 * 4096 +
        s.fuses.stepping % 16 * 268435456)) ∈ t.sent ∧ t.tap.instruction = tapIdcode ∧ quiet t = quiet s) ∧
  (∀ (levels preload : Bytes) (s : State), portOpen s = true →
    ∃ t, exec (.samplePreload levels preload) s = .next t ∧
      Sent.tap levels ∈ t.sent ∧ t.tap.boundary = preload ∧
      quiet t = quiet { s with tap := { s.tap with boundary := preload } }) ∧
  (∀ (s : State), portOpen s = true → s.modes.word.service = false →
    ∃ t, exec .extest s = .next t ∧ t.tap.instruction = tapExtest ∧
      (t.modes.word.service = false → t.pins.boundary = some s.tap.boundary) ∧ quiet t = quiet s) ∧
  (∀ (s : State), portOpen s = true → s.modes.word.service = false →
    ∃ t, exec .clamp s = .next t ∧ t.tap.instruction = tapClamp ∧
      (t.modes.word.service = false → t.pins.boundary = some s.tap.boundary) ∧ quiet t = quiet s) ∧
  (∀ (s : State), s.modes.word.service = true ∨ portOpen s = false → ∃ t, exec .extest s = .next t ∧ quiet t = quiet s) ∧
  (∀ (s : State), s.modes.word.service = true ∨ portOpen s = false → ∃ t, exec .clamp s = .next t ∧ quiet t = quiet s) ∧
  (∀ (k : Nat) (s : State), portOpen s = true → k < coreCount s →
    ∃ t, exec (.deviceSpecificInstruction (.halt k)) s = .next t ∧
      CoreBecomes s k { getCore s k with halted := true } t) ∧
  (∀ (k : Nat) (s : State), portOpen s = true → k < coreCount s → isWithdrawn 9 k s = false →
    ∃ t, exec (.deviceSpecificInstruction (.resume k)) s = .next t ∧
      CoreBecomes s k { getCore s k with halted := false, waitedAt := s.disp.tick } t) ∧
  (∀ (k : Nat) (s : State), ∀ i ∈ ([.deviceSpecificInstruction (.halt k), .deviceSpecificInstruction (.resume k)] : List Instr),
    coreCount s ≤ k → ∃ t, exec i s = .next t ∧ quiet t = quiet s) ∧
  (∀ (addr len : Nat) (s : State), portOpen s = true → 0 < len →
    0x30000000 ≤ addr → addr + len ≤ 0x30000000 + 0x40000 * coreCount s →
    (transfers addr len).all (fun p => accessPasses s 11 4 p.1 0) = true →
    ∃ t, exec (.deviceSpecificInstruction (.read addr len)) s = .next t ∧
      Sent.tap (Memory.readN s.scratch (addr - 0x30000000) len) ∈ t.sent ∧ quiet t = quiet s) ∧
  (∀ (addr : Nat) (data : Bytes) (s : State), portOpen s = true → data ≠ [] →
    0x30000000 ≤ addr → addr + data.length ≤ 0x30000000 + 0x40000 * coreCount s →
    (transfers addr data.length).all (fun p => accessPasses s 11 4 p.1 1) = true →
    ∃ t, exec (.deviceSpecificInstruction (.store addr data)) s = .next t ∧
      Memory.readN t.scratch (addr - 0x30000000) data.length = data ∧
      (∀ a, a < addr - 0x30000000 ∨ addr - 0x30000000 + data.length ≤ a → Memory.read t.scratch a = Memory.read s.scratch a) ∧
      quiet t = quiet { s with scratch := t.scratch }) ∧
  (∀ (addr len target : Nat) (s : State), portOpen s = true → 0 < len → addr % 4096 + len ≤ 4096 →
    internalTarget s addr = some target → accessPasses s 11 target addr 0 = false →
    ∃ t, exec (.deviceSpecificInstruction (.read addr len)) s = .next t ∧
      Sent.tap [] ∈ t.sent ∧ t.access.refusals = setAt s.access.refusals 11 (s.access.refusals.getD 11 0 + 1) ∧
      t.access.last = [11, byte target, 0, 0, 0, 0, 0, 0] ++ natLE 8 addr ∧
      quiet t = quiet { s with access := t.access }) ∧
  (∀ (addr p : Nat) (data : Bytes) (s : State), portOpen s = true → data.length = 4096 + p → p = 4096 - addr % 4096 →
    0x30000000 ≤ addr → addr + data.length ≤ 0x30000000 + 0x40000 * coreCount s →
    accessPasses s 11 4 addr 1 = false → accessPasses s 11 4 (addr + p) 1 = true →
    ∃ t, exec (.deviceSpecificInstruction (.store addr data)) s = .next t ∧
      (∀ a, a < addr - 0x30000000 + p → Memory.read t.scratch a = Memory.read s.scratch a) ∧
      Memory.readN t.scratch (addr - 0x30000000 + p) 4096 = data.drop p ∧
      t.access.refusals = setAt s.access.refusals 11 (s.access.refusals.getD 11 0 + 1)) ∧
  (∀ (addr len : Nat) (s : State), portOpen s = true → internalTarget s addr = none → 0 < len → addr % 4096 + len ≤ 4096 →
    ∃ t, exec (.deviceSpecificInstruction (.read addr len)) s = .next t ∧ Sent.tap [] ∈ t.sent ∧ t.scratch = s.scratch) ∧
  (∀ (bank : Nat) (data : Bytes) (s : State), portOpen s = true → s.life.state = .blank → bankLength bank ≠ 0 →
    data.length = bankLength bank + 4 →
    ∃ t, exec (.deviceSpecificInstruction (.program bank data)) s = .next t ∧
      (bank = 1 → t.fuses.serial = s.fuses.serial ||| BitVec.ofNat 64 (leNat (data.take 8)) ∧
        t.fuses.dateCode = s.fuses.dateCode ||| BitVec.ofNat 32 (leNat (slice 8 4 data)) ∧
        t.fuses.wafer = s.fuses.wafer ||| BitVec.ofNat 32 (leNat (slice 12 4 data))) ∧
      (bank = 2 → t.fuses.gradeBank = s.fuses.gradeBank ||| BitVec.ofNat 64 (leNat (data.take 8))) ∧
      (bank = 4 → t.fuses.ecdsaDigest = blowBytes s.fuses.ecdsaDigest (data.take 48) ∧
        t.fuses.mldsaDigest = blowBytes s.fuses.mldsaDigest (slice 48 48 data)) ∧
      (bank = 5 → t.fuses.helper = blowBytes s.fuses.helper (data.take 512)) ∧
      (bank = 6 → t.fuses.repair = blowBytes s.fuses.repair (data.take (bankLength 6))) ∧
      SMap.get 0 t.fuses.crcs bank = SMap.get 0 s.fuses.crcs bank ||| BitVec.ofNat 32 (leNat (data.drop (bankLength bank))) ∧
      (∀ b, b ≠ bank → SMap.get 0 t.fuses.crcs b = SMap.get 0 s.fuses.crcs b) ∧ t.fuses.grade = s.fuses.grade ∧
      quiet t = quiet { s with fuses := t.fuses }) ∧
  (∀ (bank : Nat) (data : Bytes) (s : State), portOpen s = true →
    (s.life.state ≠ .blank ∨ bankLength bank = 0 ∨ data.length ≠ bankLength bank + 4) →
    ∃ t, exec (.deviceSpecificInstruction (.program bank data)) s = .next t ∧ quiet t = quiet s) ∧
  (∀ (old data : Bytes) (i : Nat), i < old.length → i < data.length →
    (blowBytes old data).getD i 0 = old.getD i 0 ||| data.getD i 0) ∧
  (∀ (tdi : List Bool) (s : State), portOpen s = false → ∃ t, exec (.bypass tdi) s = .next t ∧ quiet t = quiet s) ∧
  (∀ (s : State), portOpen s = false → ∃ t, exec .idcode s = .next t ∧ quiet t = quiet s) ∧
  (∀ (levels preload : Bytes) (s : State), portOpen s = false → ∃ t, exec (.samplePreload levels preload) s = .next t ∧
    quiet t = quiet s) ∧
  (∀ (op : DebugOp) (s : State), portOpen s = false → ∃ t, exec (.deviceSpecificInstruction op) s = .next t ∧ quiet t = quiet s)

/-- A step takes the command at the front of the queue and is `exec` of it with the queue's rest; on an empty queue the block idles,
which is the model's choice (assumption 1). -/
def Obligations.StepRunsTheFrontCommand : Prop :=
  (∀ (c : Instr) (rest : List Instr) (s : State), step { s with pending := c :: rest } = exec c { s with pending := rest }) ∧
  (∀ (s : State), s.pending = [] → step s = .next s)

/-- Every command, whatever its operands and in whatever state, answers a next state: none ends in a fault or a refusal. Derived:
where those rules leave an order, an encoding or a value open, the clauses take the model's own choice, said in assumption 11. -/
def Obligations.EveryCommandAnswersANextState : Prop := ∀ (c : Instr) (s : State), ∃ t, exec c s = .next t

/-- The state after reset meets the invariant, and each entry of the dictionary reads the default that its table gives, of all the
entries with a number for a default that stands in every grade and life-cycle state (R33, R510 and the tables of OD 0x1000 to
0x9000). Derived: where those rules leave an order, an encoding or a value open, the clauses take the model's own choice, said
in assumptions 6, 7, 8, 9 and 98. -/
def Obligations.ResetStateReadsItsDefaults : Prop :=
  Machine.Inv State.reset ∧
  (∀ e ∈ ([(0x1200, 0x01, 4, 0), (0x1200, 0x02, 4, 0), (0x1200, 0x03, 8, 0), (0x1200, 0x04, 1, 0), (0x1200, 0x05, 4, 4095),
      (0x1200, 0x06, 4, 2), (0x1200, 0x07, 4, 1000), (0x1200, 0x08, 1, 2), (0x2100, 0x01, 4, 50000),
      (0x2100, 0x02, 4, 10000), (0x2100, 0x03, 2, 0), (0x2100, 0x04, 2, 0), (0x2100, 0x06, 1, 0), (0x2100, 0x07, 8, 0),
      (0x2102, 0x01, 2, 0), (0x2102, 0x02, 2, 0), (0x2102, 0x03, 8, 0), (0x2102, 0x04, 2, 0), (0x2102, 0x06, 2, 0),
      (0x3311, 0x01, 1, 0), (0x3200, 0x01, 2, 64), (0x3200, 0x04, 4, 0), (0x3200, 0x05, 1, 0), (0x3200, 0x06, 8, 0),
      (0x3200, 0x07, 8, 0), (0x3200, 0x08, 8, 0), (0x3200, 0x09, 8, 0), (0x3200, 0x0A, 8, 0), (0x2000, 0x05, 4, 0),
      (0x2000, 0x06, 2, 4096), (0x2000, 0x07, 2, 4096), (0x2000, 0x08, 1, 0), (0x2000, 0x0A, 4, 0), (0x2000, 0x0B, 8, 0),
      (0x2000, 0x0C, 8, 0), (0x2000, 0x0D, 4, 0), (0x2000, 0x0E, 4, 0), (0x2000, 0x0F, 4, 0), (0x2000, 0x10, 1, 0),
      (0x2100, 0x08, 8, 0), (0x2100, 0x09, 2, 0), (0x2100, 0x0A, 2, 0), (0x2100, 0x0B, 4, 0), (0x2101, 0x01, 4, 50),
      (0x2101, 0x02, 4, 200), (0x2101, 0x03, 4, 1000), (0x2101, 0x04, 4, 5000), (0x2101, 0x05, 8, 0), (0x2101, 0x06, 8, 0),
      (0x2101, 0x07, 8, 0), (0x2200, 0x01, 4, 4151056), (0x2200, 0x03, 2, 276), (0x2200, 0x04, 2, 8472),
      (0x2200, 0x10, 4, 4096), (0x2200, 0x11, 4, 4096), (0x2200, 0x12, 4, 15000000), (0x2200, 0x13, 4, 1500000),
      (0x2200, 0x14, 4, 0), (0x2200, 0x15, 1, 0), (0x2200, 0x16, 1, 0), (0x2200, 0x17, 1, 0), (0x2200, 0x20, 2, 16),
      (0x2200, 0x21, 2, 64), (0x2200, 0x22, 4, 1000), (0x2200, 0x30, 8, 0), (0x2200, 0x31, 8, 0), (0x2200, 0x33, 1, 0),
      (0x2200, 0x34, 4, 0), (0x4000, 0x04, 4, 0), (0x4000, 0x06, 8, 0), (0x4000, 0x07, 4, 0), (0x4000, 0x08, 4, 0),
      (0x4000, 0x09, 8, 0), (0x4000, 0x0A, 8, 0), (0x4020, 0x01, 2, 0), (0x4020, 0x02, 2, 0), (0x4020, 0x03, 2, 0),
      (0x4020, 0x04, 8, 0), (0x4020, 0x05, 8, 0), (0x4020, 0x06, 8, 0), (0x4020, 0x07, 2, 0), (0x4020, 0x08, 2, 1),
      (0x4020, 0x09, 2, 1), (0x4020, 0x0A, 2, 0), (0x4020, 0x0C, 1, 0), (0x4030, 0x01, 1, 0), (0x4030, 0x02, 1, 0),
      (0x4030, 0x03, 4, 0), (0x4010, 0x01, 2, 0), (0x4010, 0x02, 4, 0), (0x4010, 0x03, 4, 0), (0x4100, 0x01, 2, 1),
      (0x4100, 0x02, 4, 0), (0x4100, 0x03, 2, 1), (0x4100, 0x04, 4, 0), (0x4100, 0x05, 4, 0), (0x4100, 0x06, 4, 0),
      (0x4100, 0x07, 2, 0), (0x4100, 0x08, 2, 0), (0x4100, 0x0A, 1, 0), (0x4100, 0x0B, 2, 0), (0x4100, 0x0F, 2, 4096),
      (0x3000, 0x02, 4, 0), (0x3000, 0x03, 4, 0), (0x3000, 0x04, 4, 0), (0x3000, 0x05, 4, 65536), (0x3000, 0x06, 4, 1024),
      (0x3000, 0x07, 8, 0), (0x3000, 0x08, 8, 0), (0x3000, 0x09, 8, 0), (0x3000, 0x0A, 2, 0), (0x3000, 0x0C, 1, 0),
      (0x3001, 0x01, 4, 0), (0x3001, 0x02, 1, 0), (0x3001, 0x03, 8, 0), (0x3001, 0x06, 1, 0), (0x3002, 0x01, 1, 8),
      (0x3002, 0x02, 1, 0), (0x3002, 0x03, 8, 0), (0x3100, 0x01, 1, 0), (0x3100, 0x02, 1, 15), (0x3100, 0x03, 8, 0),
      (0x3100, 0x04, 2, 0), (0x3100, 0x05, 8, 0), (0x3100, 0x06, 8, 0), (0x3100, 0x07, 8, 0), (0x3100, 0x08, 8, 0),
      (0x3100, 0x09, 8, 0), (0x3100, 0x0B, 1, 255), (0x3100, 0x0C, 2, 2048), (0x3100, 0x0D, 2, 16384), (0x2103, 0x02, 2, 0),
      (0x2103, 0x03, 4, 100000), (0x2103, 0x04, 4, 0), (0x2103, 0x05, 4, 0), (0x2103, 0x06, 8, 0), (0x2103, 0x07, 8, 0),
      (0x8000, 0x01, 1, 1), (0x8000, 0x02, 4, 100), (0x8000, 0x03, 4, 10000), (0x8000, 0x06, 8, 0), (0x8000, 0x07, 1, 0),
      (0x8000, 0x0B, 2, 0), (0x8010, 0x01, 1, 0), (0x6300, 0x01, 4, 0), (0x6300, 0x02, 4, 8192), (0x6300, 0x03, 4, 0),
      (0x6300, 0x07, 1, 0), (0x6300, 0x09, 1, 0), (0x6300, 0x0A, 1, 0), (0x8020, 0x01, 8, 0), (0x8020, 0x02, 8, 0),
      (0x8020, 0x03, 4, 0), (0x8020, 0x04, 4, 0), (0x8020, 0x06, 2, 0), (0x9000, 0x02, 1, 255), (0x9000, 0x05, 8, 0),
      (0x9000, 0x06, 4, 0), (0x9000, 0x09, 4, 10000000), (0x9000, 0x0A, 1, 0), (0x9000, 0x0E, 8, 0), (0x9000, 0x10, 1, 0),
      (0x1100, 0x05, 1, 0), (0x1100, 0x07, 1, 0), (0x1100, 0x08, 4, 0), (0x1100, 0x09, 1, 0), (0x6000, 0x01, 4, 0),
      (0x6000, 0x02, 4, 0), (0x6000, 0x04, 1, 0), (0x6000, 0x05, 1, 0), (0x6000, 0x06, 1, 0), (0x6000, 0x07, 4, 0),
      (0x6000, 0x08, 4, 0), (0x6000, 0x09, 8, 0), (0x6000, 0x0A, 1, 255), (0x6000, 0x0B, 4, 0), (0x6100, 0x01, 1, 0),
      (0x6100, 0x03, 1, 0), (0x6100, 0x06, 1, 0), (0x6100, 0x08, 4, 100), (0x6100, 0x09, 4, 0), (0x6100, 0x0A, 4, 10),
      (0x6100, 0x0B, 2, 0), (0x6100, 0x0C, 8, 0), (0x6100, 0x0D, 1, 0), (0x6200, 0x01, 4, 0), (0x6200, 0x02, 4, 65536),
      (0x6200, 0x03, 4, 0), (0x6200, 0x08, 1, 0), (0x6200, 0x0A, 1, 0), (0x6200, 0x0B, 8, 0), (0x6200, 0x0C, 2, 60),
      (0x6200, 0x0D, 2, 0), (0x3003, 0x01, 1, 8), (0x3003, 0x02, 8, 0), (0x3003, 0x03, 1, 2), (0x3003, 0x07, 1, 0),
      (0x7800, 0x02, 1, 255), (0x7800, 0x03, 1, 8), (0x7800, 0x05, 1, 0), (0x7800, 0x06, 1, 0), (0x7800, 0x07, 1, 255),
      (0x7800, 0x08, 4, 0), (0x7800, 0x09, 2, 60), (0x7800, 0x0A, 1, 0), (0x7800, 0x0B, 8, 0), (0x7800, 0x0C, 4, 0),
      (0x7801, 0x01, 1, 0), (0x7801, 0x02, 1, 0), (0x7810, 0x02, 1, 0), (0x7810, 0x04, 1, 0), (0x1000, 0x11, 1, 0),
      (0x1000, 0x16, 1, 0), (0x1001, 0x02, 4, 0), (0x1001, 0x03, 1, 0), (0x1001, 0x04, 2, 256), (0x7000, 0x01, 1, 0),
      (0x7000, 0x02, 1, 0), (0x7000, 0x03, 8, 0), (0x7000, 0x05, 8, 0), (0x7000, 0x06, 1, 0), (0x7000, 0x07, 1, 0),
      (0x7000, 0x08, 1, 0), (0x7000, 0x0A, 1, 0), (0x7000, 0x0B, 4, 1000), (0x7000, 0x0C, 4, 0), (0x7000, 0x0D, 8, 0),
      (0x7000, 0x0E, 8, 0), (0x7000, 0x0F, 8, 0), (0x7000, 0x10, 4, 0), (0x7000, 0x11, 4, 0), (0x7000, 0x12, 8, 0),
      (0x7000, 0x13, 8, 0), (0x7100, 0x01, 8, 0), (0x7100, 0x02, 2, 0), (0x7100, 0x04, 1, 0), (0x7100, 0x06, 8, 0),
      (0x7100, 0x07, 2, 0), (0x7100, 0x0A, 2, 0)] : List (Nat × Nat × Nat × Nat)),
    odValue State.reset (.mailbox 0) e.1 e.2.1 = natLE e.2.2.1 e.2.2.2)

/-- The invariant: the Mode Word is the one that the part's condition gives, the pins stand at the levels of modes, records, flags
and boundary scan, and a closed debug port holds the TAP and captures nothing. From every state that meets it, and not only from
those a run reaches, a step that answers a next state answers one that meets it (R33, R35, R444, R471, R472, R605). -/
def Obligations.StepKeepsTheInvariant : Prop := ∀ (s t : State), Machine.Inv s → step s = .next t → Machine.Inv t

/-- After any command, from any state, no two modes stand that R42 and R43 forbid together, the qualifiers stand only beside their
modes, and FAULT_N, SVC_OK, TAMPER_N and the debug port follow the records, the modes and the flags (R33, R43, R444, R471, R472,
R605). -/
def Obligations.ModePairsAndPinsAfterEveryCommand : Prop :=
  ∀ (c : Instr) (s t : State), exec c s = .next t →
    modesLegal t.modes.word = true ∧ (t.pins.faultN = true ↔ t.faults.records = []) ∧
    t.pins.svcOk = (t.modes.word.service && !fatalOpen t) ∧ (t.pins.tamperN = true ↔ t.sec.sticky = 0) ∧
    (portOpen t = false → t.tap.instruction = tapIdcode ∧ t.pins.boundary = none ∧ t.rng.capture = 0xFF)

/-- R34: after any command LOCK_CAUSE shows the strongest cause that stands, INVALID over Class 2 over Class 1, and is clear exactly
while LOCKED is clear. -/
def Obligations.LockCauseShowsTheStrongest : Prop :=
  ∀ (c : Instr) (s t : State), exec c s = .next t →
    (t.life.state = .invalid → t.modes.word.lockCause = 3) ∧
    (t.life.state ≠ .invalid → (∃ n, tamperClass n = 2 ∧ t.sec.sticky.testBit n = true) → t.modes.word.lockCause = 2) ∧
    (t.life.state ≠ .invalid → t.sec.sticky ≠ 0 → (∀ n, tamperClass n = 2 → t.sec.sticky.testBit n = false) →
      t.modes.word.lockCause = 1) ∧
    (t.modes.word.lockCause = 0 ↔ t.modes.word.locked = false)

/-- R20: the security die draws from the supply the switchover names, in either direction, with no vault content, no sticky flag and
no Device Time count lost and no tamper flag set. -/
def Obligations.SwitchoverLosesNothing : Prop :=
  ∀ (toMain : Bool) (s : State), ∃ t, exec (.powerSwitchover toMain) s = .next t ∧
    t.sec.onMain = toMain ∧ t.keys.vault = s.keys.vault ∧ t.sec.sticky = s.sec.sticky ∧ t.sec.deviceTime = s.sec.deviceTime ∧
    t.sec.lastSource = s.sec.lastSource ∧ t.sec.responses = s.sec.responses

/-- R446: the codewords have the bits of their sets, their weights are 0, 64, 128 and 256 and any two are at least 64 apart; the
decode gives the state of the codeword at distance 3 or less, which is the only one, and INVALID when no codeword is that close. -/
def Obligations.LifeCycleDecodesToTheNearestCodeword : Prop :=
  (∀ i < 256, (codeword .blank).testBit i = false ∧ (codeword .test).testBit i = decide (i % 4 = 0) ∧
    (codeword .production).testBit i = decide (i % 4 = 0 ∨ i % 4 = 2) ∧ (codeword .endOfLife).testBit i = true) ∧
  (weight (codeword .blank) = 0 ∧ weight (codeword .test) = 64 ∧ weight (codeword .production) = 128 ∧
    weight (codeword .endOfLife) = 256) ∧
  (∀ a ∈ [LifeCycle.blank, .test, .production, .endOfLife], ∀ b ∈ [LifeCycle.blank, .test, .production, .endOfLife], a ≠ b →
    64 ≤ weight (codeword a ^^^ codeword b)) ∧
  (∀ (w : Nat), w < 2 ^ 256 → ∀ a ∈ [LifeCycle.blank, .test, .production, .endOfLife],
    (decodeLife w = a ↔ weight (w ^^^ codeword a) ≤ 3)) ∧
  (∀ (w : Nat), w < 2 ^ 256 →
    (decodeLife w = .invalid ↔ ∀ a ∈ [LifeCycle.blank, .test, .production, .endOfLife], 3 < weight (w ^^^ codeword a)))

/-- From R107, R110, R113, R130: what GCM and CCM seal they open again, and open under no other tag of the same length; CTR undoes
itself; FF1 detokenises what it tokenises; the paddings fill to whole blocks and keep the data in front. Derived: where those
rules leave an order, an encoding or a value open, the clauses take the model's own choice, said in assumption 2. -/
def Obligations.ModesUndoThemselves : Prop :=
  (∀ (key nonce header data : Bytes) (n : Nat), key.length ∈ [16, 24, 32] → nonce.length = 12 → n ≤ 16 →
    gcmOpen key nonce header (gcmSeal key nonce header data n).1 (gcmSeal key nonce header data n).2 = some data ∧
    (∀ tag, tag.length = n → tag ≠ (gcmSeal key nonce header data n).2 →
      gcmOpen key nonce header (gcmSeal key nonce header data n).1 tag = none)) ∧
  (∀ (key nonce header data : Bytes) (n : Nat), key.length ∈ [16, 24, 32] → nonce.length = 12 → n ≤ 16 →
    ccmOpen key nonce header (ccmSeal key nonce header data n).1 (ccmSeal key nonce header data n).2 = some data ∧
    (∀ tag, tag.length = n → tag ≠ (ccmSeal key nonce header data n).2 →
      ccmOpen key nonce header (ccmSeal key nonce header data n).1 tag = none)) ∧
  (∀ (key nonce data : Bytes), key.length ∈ [16, 24, 32] → nonce.length = 12 →
    ctrCrypt key nonce (ctrCrypt key nonce data) = data ∧ (ctrCrypt key nonce data).length = data.length) ∧
  (∀ (key tweak : Bytes) (radix : Nat) (x : List Nat), 2 ≤ radix → (∀ d ∈ x, d < radix) →
    ff1Decrypt key tweak radix (ff1Encrypt key tweak radix x) = x ∧ (ff1Encrypt key tweak radix x).length = x.length ∧
    (∀ d ∈ ff1Encrypt key tweak radix x, d < radix)) ∧
  (∀ (b : Nat) (data : Bytes), 0 < b → b < 256 →
    (isoPad1 b data).length % b = 0 ∧ (isoPad2 b data).length % b = 0 ∧ (pkcs7Pad b data).length % b = 0 ∧
    (isoPad1 b data).take data.length = data ∧ (isoPad2 b data).take data.length = data ∧
      (pkcs7Pad b data).take data.length = data ∧
    (isoPad2 b data).getD data.length 0 = 0x80 ∧ (pkcs7Pad b data).getLast? = some (byte (b - data.length % b)))
end

