-- ==== Sys2Proof/Laws/Config.lean ====
section
/-!
SUPPORT. What holds of the open constants whatever their values.
-/
namespace Sys2Proof.Laws

/-- The open pattern of the debug latch is not the zero that closes it (R454). -/
theorem openPattern_ne_zero : Config.openPattern ≠ 0 := by
  have h := Config.openPatternLess.isLt
  intro e
  have k := congrArg BitVec.toNat e
  simp only [Config.openPattern, BitVec.toNat_ofNat] at k
  rw [Nat.mod_eq_of_lt (by omega)] at k
  simp at k

/-- The intervals between yield points last 1,536 to 2,559 ECLK (R163). -/
theorem yieldInterval_bounds (seed : Bytes) (n : Nat) :
    1536 ≤ Config.yieldInterval seed n ∧ Config.yieldInterval seed n < 2560 := by
  have h := (Config.yieldExcess seed n).isLt
  unfold Config.yieldInterval
  omega

end Sys2Proof.Laws
end

