-- ==== Sys2Proof/Laws/Quiet.lean ====
section
/-!
SUPPORT. What follows a command of itself leaves `quiet` alone: one equation for each shared operation of that kind, and
`quiet_settle` for the end of every command.
-/
namespace Sys2Proof.Machine

@[simp] theorem quiet_send (o : Sent) (s : State) : quiet (send o s) = quiet s := rfl

@[simp] theorem quiet_sendMsix (fn vector : Nat) (s : State) : quiet (sendMsix fn vector s) = quiet s := by
  unfold sendMsix
  dsimp only
  split
  · rfl
  · split <;> rfl

@[simp] theorem quiet_managerNotify (b : Nat) (s : State) : quiet (managerNotify b s) = quiet s := by
  unfold managerNotify
  split
  · rfl
  · rw [quiet_sendMsix]; rfl

@[simp] theorem quiet_tenantNotify (fn b : Nat) (s : State) : quiet (tenantNotify fn b s) = quiet s := by
  unfold tenantNotify
  split
  · rfl
  · dsimp only
    split
    · rfl
    · split
      · rw [quiet_sendMsix]; rfl
      · rfl

/-- A fold of operations that leave `quiet` alone leaves it alone. -/
theorem quiet_foldl {α : Type} (f : State → α → State) (h : ∀ s a, quiet (f s a) = quiet s) (l : List α) (s : State) :
    quiet (l.foldl f s) = quiet s := by
  induction l generalizing s with
  | nil => rfl
  | cons a t ih => simp only [List.foldl_cons, ih, h]

@[simp] theorem quiet_notifyTenants (b : Nat) (s : State) : quiet (notifyTenants b s) = quiet s := by
  unfold notifyTenants
  refine quiet_foldl _ (fun s a => ?_) _ _
  split
  · exact quiet_tenantNotify _ _ _
  · rfl

@[simp] theorem quiet_postDeviceEvent (b : Nat) (s : State) : quiet (postDeviceEvent b s) = quiet s := rfl

@[simp] theorem quiet_logEvent (code source : Nat) (args : Bytes) (s : State) : quiet (logEvent code source args s) = quiet s := by
  unfold logEvent
  split
  · rfl
  · split <;> rfl

@[simp] theorem quiet_logRequired (code source : Nat) (args : Bytes) (s : State) :
    quiet (logRequired code source args s) = quiet s := by
  unfold logRequired
  split
  · exact quiet_logEvent _ _ _ _
  · rfl

@[simp] theorem quiet_setMailbox (fn : Nat) (m : Mailbox) (s : State) : quiet (setMailbox fn m s) = quiet s := rfl

@[simp] theorem quiet_setMailSlot (fn slot : Nat) (v : MailSlot) (s : State) : quiet (setMailSlot fn slot v s) = quiet s := rfl

@[simp] theorem quiet_writeReply (fn slot seq result : Nat) (value : Bytes) (s : State) :
    quiet (writeReply fn slot seq result value s) = quiet s := by
  unfold writeReply
  dsimp only
  split
  · simp
  · simp

@[simp] theorem quiet_runPlain (fn n : Nat) (s : State) : quiet (runPlain fn n s) = quiet s := by
  induction n generalizing s with
  | zero => rfl
  | succ n ih =>
    unfold runPlain
    split
    · rw [ih, quiet_writeReply]
    · rfl

@[simp] theorem quiet_mailReply (fn slot seq result : Nat) (value : Bytes) (s : State) :
    quiet (mailReply fn slot seq result value s) = quiet s := by
  unfold mailReply
  simp

@[simp] theorem quiet_custodyReply (result : Nat) (value : Bytes) (s : State) : quiet (custodyReply result value s) = quiet s := rfl

@[simp] theorem quiet_giveReply (h : HeldReply) (s : State) : quiet (giveReply h s) = quiet s := by
  unfold giveReply
  split
  · simp
  · split
    · exact quiet_custodyReply _ _ _
    · rfl

@[simp] theorem quiet_releaseReplies (s : State) : quiet (releaseReplies s) = quiet s := by
  unfold releaseReplies
  dsimp only
  rw [quiet_foldl _ (fun s h => quiet_giveReply h s)]
  rfl

@[simp] theorem quiet_reportResets (s : State) : quiet (reportResets s) = quiet s := by
  unfold reportResets
  dsimp only
  rw [quiet_foldl _ (fun s x => by simp)]
  rfl

@[simp] theorem quiet_noteActivity (s : State) : quiet (noteActivity s) = quiet s := rfl

@[simp] theorem quiet_becomeInSync (s : State) : quiet (becomeInSync s) = quiet s := by
  unfold becomeInSync
  rw [quiet_logEvent]
  rfl

@[simp] theorem quiet_claspSend (kind : Nat) (body : Bytes) (s : State) : quiet (claspSend kind body s) = quiet s := rfl

@[simp] theorem quiet_advanceApplied (s : State) : quiet (advanceApplied s) = quiet s := by
  unfold advanceApplied
  dsimp only
  split
  · rfl
  · have h : ∀ t : State, quiet (if s.clasp.link = 4 then claspSend 0x03 [] t else t) = quiet t := by
      intro t; split <;> rfl
    split
    · split
      · simp; rfl
      · simp; rfl
    · split
      · simp; rfl
      · rfl

@[simp] theorem quiet_kickMram (s : State) : quiet (kickMram s) = quiet s := by
  unfold kickMram
  split
  · rfl
  · split <;> rfl

@[simp] theorem quiet_endCapture (s : State) : quiet (endCapture s) = quiet s := by
  unfold endCapture
  dsimp only
  split <;> rfl

@[simp] theorem quiet_holdPort (s : State) : quiet (holdPort s) = quiet s := by
  unfold holdPort
  split
  · rfl
  · rw [quiet_endCapture]; rfl

@[simp] theorem quiet_modeChanged (old new : ModeWord) (s : State) : quiet (modeChanged old new s) = quiet s := by
  unfold modeChanged
  dsimp only
  split
  · simp; rfl
  · simp; rfl

theorem quiet_withWord (w : ModeWord) (s : State) : quiet { s with modes := { s.modes with word := w } } = quiet s := rfl

@[simp] theorem quiet_updateModes (s : State) : quiet (updateModes s) = quiet s := by
  unfold updateModes
  dsimp only
  split
  · rfl
  · rw [quiet_withWord, quiet_modeChanged]

@[simp] theorem quiet_drivePins (s : State) : quiet (drivePins s) = quiet s := rfl

/-- The end of a command leaves `quiet` alone. -/
@[simp] theorem quiet_settle (s : State) : quiet (settle s) = quiet s := by
  unfold settle
  simp

end Sys2Proof.Machine
end

