-- ==== Sys2Proof/Laws/Settle.lean ====
section
/-!
SUPPORT. The end of every command, one field at a time: what `settle` leaves alone (R35, R524).
-/
namespace Sys2Proof.Machine

/-- What `quiet` keeps, the end of a command keeps. -/
theorem settle_of_quiet {α : Type} (f : State → α) (hf : ∀ s, f (quiet s) = f s) (s : State) : f (settle s) = f s :=
  (hf (settle s)).symm.trans ((congrArg f (quiet_settle s)).trans (hf s))

@[simp] theorem settle_fuses (s : State) : (settle s).fuses = s.fuses := settle_of_quiet State.fuses (fun _ => rfl) s
@[simp] theorem settle_boot (s : State) : (settle s).boot = s.boot := settle_of_quiet State.boot (fun _ => rfl) s
@[simp] theorem settle_chainMem (s : State) : (settle s).chainMem = s.chainMem := settle_of_quiet State.chainMem (fun _ => rfl) s
@[simp] theorem settle_scratch (s : State) : (settle s).scratch = s.scratch := settle_of_quiet State.scratch (fun _ => rfl) s
@[simp] theorem settle_epochs (s : State) : (settle s).epochs = s.epochs := settle_of_quiet State.epochs (fun _ => rfl) s
@[simp] theorem settle_engines (s : State) : (settle s).engines = s.engines := settle_of_quiet State.engines (fun _ => rfl) s
@[simp] theorem settle_energy (s : State) : (settle s).energy = s.energy := settle_of_quiet State.energy (fun _ => rfl) s
@[simp] theorem settle_keys (s : State) : (settle s).keys = s.keys := settle_of_quiet State.keys (fun _ => rfl) s
@[simp] theorem settle_memTest (s : State) : (settle s).memTest = s.memTest := settle_of_quiet State.memTest (fun _ => rfl) s
@[simp] theorem settle_access (s : State) : (settle s).access = s.access := settle_of_quiet State.access (fun _ => rfl) s
@[simp] theorem settle_images (s : State) : (settle s).images = s.images := settle_of_quiet State.images (fun _ => rfl) s
@[simp] theorem settle_locket (s : State) : (settle s).locket = s.locket := settle_of_quiet State.locket (fun _ => rfl) s
@[simp] theorem settle_sec (s : State) : (settle s).sec = s.sec := settle_of_quiet State.sec (fun _ => rfl) s
@[simp] theorem settle_tamper (s : State) : (settle s).tamper = s.tamper := settle_of_quiet State.tamper (fun _ => rfl) s
@[simp] theorem settle_life (s : State) : (settle s).life = s.life := settle_of_quiet State.life (fun _ => rfl) s
@[simp] theorem settle_faults (s : State) : (settle s).faults = s.faults := settle_of_quiet State.faults (fun _ => rfl) s
@[simp] theorem settle_domain (s : State) : (settle s).domain = s.domain := settle_of_quiet State.domain (fun _ => rfl) s
@[simp] theorem settle_telemetry (s : State) : (settle s).telemetry = s.telemetry := settle_of_quiet State.telemetry (fun _ => rfl) s
@[simp] theorem settle_freeUses (s : State) : (settle s).freeUses = s.freeUses := settle_of_quiet State.freeUses (fun _ => rfl) s
@[simp] theorem settle_pending (s : State) : (settle s).pending = s.pending := settle_of_quiet State.pending (fun _ => rfl) s
@[simp] theorem settle_modes_serviceEnable (s : State) : (settle s).modes.serviceEnable = s.modes.serviceEnable :=
  settle_of_quiet (fun x => x.modes.serviceEnable) (fun _ => rfl) s
@[simp] theorem settle_modes_notifyMask (s : State) : (settle s).modes.notifyMask = s.modes.notifyMask :=
  settle_of_quiet (fun x => x.modes.notifyMask) (fun _ => rfl) s
@[simp] theorem settle_modes_dozeIdle1 (s : State) : (settle s).modes.dozeIdle1 = s.modes.dozeIdle1 :=
  settle_of_quiet (fun x => x.modes.dozeIdle1) (fun _ => rfl) s
@[simp] theorem settle_modes_dozeIdle2 (s : State) : (settle s).modes.dozeIdle2 = s.modes.dozeIdle2 :=
  settle_of_quiet (fun x => x.modes.dozeIdle2) (fun _ => rfl) s
@[simp] theorem settle_modes_dozePermission (s : State) : (settle s).modes.dozePermission = s.modes.dozePermission :=
  settle_of_quiet (fun x => x.modes.dozePermission) (fun _ => rfl) s
@[simp] theorem settle_modes_dozeAt (s : State) : (settle s).modes.dozeAt = s.modes.dozeAt :=
  settle_of_quiet (fun x => x.modes.dozeAt) (fun _ => rfl) s
@[simp] theorem settle_modes_wakeTimer (s : State) : (settle s).modes.wakeTimer = s.modes.wakeTimer :=
  settle_of_quiet (fun x => x.modes.wakeTimer) (fun _ => rfl) s
@[simp] theorem settle_modes_banksOff (s : State) : (settle s).modes.banksOff = s.modes.banksOff :=
  settle_of_quiet (fun x => x.modes.banksOff) (fun _ => rfl) s
@[simp] theorem settle_modes_heldRun (s : State) : (settle s).modes.heldRun = s.modes.heldRun :=
  settle_of_quiet (fun x => x.modes.heldRun) (fun _ => rfl) s
@[simp] theorem settle_modes_quietRun (s : State) : (settle s).modes.quietRun = s.modes.quietRun :=
  settle_of_quiet (fun x => x.modes.quietRun) (fun _ => rfl) s
@[simp] theorem settle_disp_chains (s : State) : (settle s).disp.chains = s.disp.chains :=
  settle_of_quiet (fun x => x.disp.chains) (fun _ => rfl) s
@[simp] theorem settle_disp_admSeq (s : State) : (settle s).disp.admSeq = s.disp.admSeq :=
  settle_of_quiet (fun x => x.disp.admSeq) (fun _ => rfl) s
@[simp] theorem settle_disp_readySeq (s : State) : (settle s).disp.readySeq = s.disp.readySeq :=
  settle_of_quiet (fun x => x.disp.readySeq) (fun _ => rfl) s
@[simp] theorem settle_disp_tick (s : State) : (settle s).disp.tick = s.disp.tick :=
  settle_of_quiet (fun x => x.disp.tick) (fun _ => rfl) s
@[simp] theorem settle_disp_insertSeq (s : State) : (settle s).disp.insertSeq = s.disp.insertSeq :=
  settle_of_quiet (fun x => x.disp.insertSeq) (fun _ => rfl) s
@[simp] theorem settle_disp_finishSeq (s : State) : (settle s).disp.finishSeq = s.disp.finishSeq :=
  settle_of_quiet (fun x => x.disp.finishSeq) (fun _ => rfl) s
@[simp] theorem settle_disp_heldNow (s : State) : (settle s).disp.heldNow = s.disp.heldNow :=
  settle_of_quiet (fun x => x.disp.heldNow) (fun _ => rfl) s
@[simp] theorem settle_disp_heldBefore (s : State) : (settle s).disp.heldBefore = s.disp.heldBefore :=
  settle_of_quiet (fun x => x.disp.heldBefore) (fun _ => rfl) s
@[simp] theorem settle_disp_hold (s : State) : (settle s).disp.hold = s.disp.hold :=
  settle_of_quiet (fun x => x.disp.hold) (fun _ => rfl) s
@[simp] theorem settle_disp_holdAtEdge (s : State) : (settle s).disp.holdAtEdge = s.disp.holdAtEdge :=
  settle_of_quiet (fun x => x.disp.holdAtEdge) (fun _ => rfl) s
@[simp] theorem settle_disp_ageLimits (s : State) : (settle s).disp.ageLimits = s.disp.ageLimits :=
  settle_of_quiet (fun x => x.disp.ageLimits) (fun _ => rfl) s
@[simp] theorem settle_disp_newAgeLimits (s : State) : (settle s).disp.newAgeLimits = s.disp.newAgeLimits :=
  settle_of_quiet (fun x => x.disp.newAgeLimits) (fun _ => rfl) s
@[simp] theorem settle_disp_agedIssues (s : State) : (settle s).disp.agedIssues = s.disp.agedIssues :=
  settle_of_quiet (fun x => x.disp.agedIssues) (fun _ => rfl) s
@[simp] theorem settle_disp_holdIssues (s : State) : (settle s).disp.holdIssues = s.disp.holdIssues :=
  settle_of_quiet (fun x => x.disp.holdIssues) (fun _ => rfl) s
@[simp] theorem settle_disp_deferrals (s : State) : (settle s).disp.deferrals = s.disp.deferrals :=
  settle_of_quiet (fun x => x.disp.deferrals) (fun _ => rfl) s
@[simp] theorem settle_disp_waitCycles (s : State) : (settle s).disp.waitCycles = s.disp.waitCycles :=
  settle_of_quiet (fun x => x.disp.waitCycles) (fun _ => rfl) s
@[simp] theorem settle_disp_due (s : State) : (settle s).disp.due = s.disp.due :=
  settle_of_quiet (fun x => x.disp.due) (fun _ => rfl) s
@[simp] theorem settle_disp_detectorArmed (s : State) : (settle s).disp.detectorArmed = s.disp.detectorArmed :=
  settle_of_quiet (fun x => x.disp.detectorArmed) (fun _ => rfl) s
@[simp] theorem settle_host_linkUp (s : State) : (settle s).host.linkUp = s.host.linkUp :=
  settle_of_quiet (fun x => x.host.linkUp) (fun _ => rfl) s
@[simp] theorem settle_host_rate (s : State) : (settle s).host.rate = s.host.rate :=
  settle_of_quiet (fun x => x.host.rate) (fun _ => rfl) s
@[simp] theorem settle_host_width (s : State) : (settle s).host.width = s.host.width :=
  settle_of_quiet (fun x => x.host.width) (fun _ => rfl) s
@[simp] theorem settle_host_perst (s : State) : (settle s).host.perst = s.host.perst :=
  settle_of_quiet (fun x => x.host.perst) (fun _ => rfl) s
@[simp] theorem settle_host_resetBusy (s : State) : (settle s).host.resetBusy = s.host.resetBusy :=
  settle_of_quiet (fun x => x.host.resetBusy) (fun _ => rfl) s
@[simp] theorem settle_host_vfEnable (s : State) : (settle s).host.vfEnable = s.host.vfEnable :=
  settle_of_quiet (fun x => x.host.vfEnable) (fun _ => rfl) s
@[simp] theorem settle_host_numVfs (s : State) : (settle s).host.numVfs = s.host.numVfs :=
  settle_of_quiet (fun x => x.host.numVfs) (fun _ => rfl) s
@[simp] theorem settle_host_qps (s : State) : (settle s).host.qps = s.host.qps :=
  settle_of_quiet (fun x => x.host.qps) (fun _ => rfl) s
@[simp] theorem settle_host_rrNext (s : State) : (settle s).host.rrNext = s.host.rrNext :=
  settle_of_quiet (fun x => x.host.rrNext) (fun _ => rfl) s
@[simp] theorem settle_host_reads (s : State) : (settle s).host.reads = s.host.reads :=
  settle_of_quiet (fun x => x.host.reads) (fun _ => rfl) s
@[simp] theorem settle_host_readSeq (s : State) : (settle s).host.readSeq = s.host.readSeq :=
  settle_of_quiet (fun x => x.host.readSeq) (fun _ => rfl) s
@[simp] theorem settle_host_queued (s : State) : (settle s).host.queued = s.host.queued :=
  settle_of_quiet (fun x => x.host.queued) (fun _ => rfl) s
@[simp] theorem settle_host_discarded (s : State) : (settle s).host.discarded = s.host.discarded :=
  settle_of_quiet (fun x => x.host.discarded) (fun _ => rfl) s
@[simp] theorem settle_host_hostResets (s : State) : (settle s).host.hostResets = s.host.hostResets :=
  settle_of_quiet (fun x => x.host.hostResets) (fun _ => rfl) s
@[simp] theorem settle_host_fnResets (s : State) : (settle s).host.fnResets = s.host.fnResets :=
  settle_of_quiet (fun x => x.host.fnResets) (fun _ => rfl) s
@[simp] theorem settle_host_resetRecords (s : State) : (settle s).host.resetRecords = s.host.resetRecords :=
  settle_of_quiet (fun x => x.host.resetRecords) (fun _ => rfl) s
@[simp] theorem settle_host_chainsRevoked (s : State) : (settle s).host.chainsRevoked = s.host.chainsRevoked :=
  settle_of_quiet (fun x => x.host.chainsRevoked) (fun _ => rfl) s
@[simp] theorem settle_host_usesRevoked (s : State) : (settle s).host.usesRevoked = s.host.usesRevoked :=
  settle_of_quiet (fun x => x.host.usesRevoked) (fun _ => rfl) s
@[simp] theorem settle_host_record (s : State) : (settle s).host.record = s.host.record :=
  settle_of_quiet (fun x => x.host.record) (fun _ => rfl) s
@[simp] theorem settle_host_ide (s : State) : (settle s).host.ide = s.host.ide :=
  settle_of_quiet (fun x => x.host.ide) (fun _ => rfl) s
@[simp] theorem settle_host_ideRequired (s : State) : (settle s).host.ideRequired = s.host.ideRequired :=
  settle_of_quiet (fun x => x.host.ideRequired) (fun _ => rfl) s
@[simp] theorem settle_host_ideFailures (s : State) : (settle s).host.ideFailures = s.host.ideFailures :=
  settle_of_quiet (fun x => x.host.ideFailures) (fun _ => rfl) s
@[simp] theorem settle_flow_buffers (s : State) : (settle s).flow.buffers = s.flow.buffers :=
  settle_of_quiet (fun x => x.flow.buffers) (fun _ => rfl) s
@[simp] theorem settle_flow_granted (s : State) : (settle s).flow.granted = s.flow.granted :=
  settle_of_quiet (fun x => x.flow.granted) (fun _ => rfl) s
@[simp] theorem settle_flow_freeTwice (s : State) : (settle s).flow.freeTwice = s.flow.freeTwice :=
  settle_of_quiet (fun x => x.flow.freeTwice) (fun _ => rfl) s
@[simp] theorem settle_flow_lastPort (s : State) : (settle s).flow.lastPort = s.flow.lastPort :=
  settle_of_quiet (fun x => x.flow.lastPort) (fun _ => rfl) s
@[simp] theorem settle_flow_wasted (s : State) : (settle s).flow.wasted = s.flow.wasted :=
  settle_of_quiet (fun x => x.flow.wasted) (fun _ => rfl) s
@[simp] theorem settle_flow_ranks (s : State) : (settle s).flow.ranks = s.flow.ranks :=
  settle_of_quiet (fun x => x.flow.ranks) (fun _ => rfl) s
@[simp] theorem settle_flow_weights (s : State) : (settle s).flow.weights = s.flow.weights :=
  settle_of_quiet (fun x => x.flow.weights) (fun _ => rfl) s
@[simp] theorem settle_flow_keyWeights (s : State) : (settle s).flow.keyWeights = s.flow.keyWeights :=
  settle_of_quiet (fun x => x.flow.keyWeights) (fun _ => rfl) s
@[simp] theorem settle_flow_pcieWeights (s : State) : (settle s).flow.pcieWeights = s.flow.pcieWeights :=
  settle_of_quiet (fun x => x.flow.pcieWeights) (fun _ => rfl) s
@[simp] theorem settle_flow_thresholds (s : State) : (settle s).flow.thresholds = s.flow.thresholds :=
  settle_of_quiet (fun x => x.flow.thresholds) (fun _ => rfl) s
@[simp] theorem settle_flow_flags (s : State) : (settle s).flow.flags = s.flow.flags :=
  settle_of_quiet (fun x => x.flow.flags) (fun _ => rfl) s
@[simp] theorem settle_flow_conflicts (s : State) : (settle s).flow.conflicts = s.flow.conflicts :=
  settle_of_quiet (fun x => x.flow.conflicts) (fun _ => rfl) s
@[simp] theorem settle_flow_lastWaits (s : State) : (settle s).flow.lastWaits = s.flow.lastWaits :=
  settle_of_quiet (fun x => x.flow.lastWaits) (fun _ => rfl) s
@[simp] theorem settle_flow_lost (s : State) : (settle s).flow.lost = s.flow.lost :=
  settle_of_quiet (fun x => x.flow.lost) (fun _ => rfl) s
@[simp] theorem settle_flow_hdrReserve (s : State) : (settle s).flow.hdrReserve = s.flow.hdrReserve :=
  settle_of_quiet (fun x => x.flow.hdrReserve) (fun _ => rfl) s
@[simp] theorem settle_flow_dataReserve (s : State) : (settle s).flow.dataReserve = s.flow.dataReserve :=
  settle_of_quiet (fun x => x.flow.dataReserve) (fun _ => rfl) s
@[simp] theorem settle_flow_lockLease (s : State) : (settle s).flow.lockLease = s.flow.lockLease :=
  settle_of_quiet (fun x => x.flow.lockLease) (fun _ => rfl) s
@[simp] theorem settle_flow_locks (s : State) : (settle s).flow.locks = s.flow.locks :=
  settle_of_quiet (fun x => x.flow.locks) (fun _ => rfl) s
@[simp] theorem settle_flow_noneResults (s : State) : (settle s).flow.noneResults = s.flow.noneResults :=
  settle_of_quiet (fun x => x.flow.noneResults) (fun _ => rfl) s
@[simp] theorem settle_flow_wastedGrants (s : State) : (settle s).flow.wastedGrants = s.flow.wastedGrants :=
  settle_of_quiet (fun x => x.flow.wastedGrants) (fun _ => rfl) s
@[simp] theorem settle_flow_leaseExpiries (s : State) : (settle s).flow.leaseExpiries = s.flow.leaseExpiries :=
  settle_of_quiet (fun x => x.flow.leaseExpiries) (fun _ => rfl) s
@[simp] theorem settle_tenants_insts (s : State) : (settle s).tenants.insts = s.tenants.insts :=
  settle_of_quiet (fun x => x.tenants.insts) (fun _ => rfl) s
@[simp] theorem settle_tenants_record (s : State) : (settle s).tenants.record = s.tenants.record :=
  settle_of_quiet (fun x => x.tenants.record) (fun _ => rfl) s
@[simp] theorem settle_cores_cores (s : State) : (settle s).cores.cores = s.cores.cores :=
  settle_of_quiet (fun x => x.cores.cores) (fun _ => rfl) s
@[simp] theorem settle_cores_watchdog (s : State) : (settle s).cores.watchdog = s.cores.watchdog :=
  settle_of_quiet (fun x => x.cores.watchdog) (fun _ => rfl) s
@[simp] theorem settle_cores_doubleTraps (s : State) : (settle s).cores.doubleTraps = s.cores.doubleTraps :=
  settle_of_quiet (fun x => x.cores.doubleTraps) (fun _ => rfl) s
@[simp] theorem settle_cores_abortTimeouts (s : State) : (settle s).cores.abortTimeouts = s.cores.abortTimeouts :=
  settle_of_quiet (fun x => x.cores.abortTimeouts) (fun _ => rfl) s
@[simp] theorem settle_cores_handed (s : State) : (settle s).cores.handed = s.cores.handed :=
  settle_of_quiet (fun x => x.cores.handed) (fun _ => rfl) s
@[simp] theorem settle_cores_engineReqs (s : State) : (settle s).cores.engineReqs = s.cores.engineReqs :=
  settle_of_quiet (fun x => x.cores.engineReqs) (fun _ => rfl) s
@[simp] theorem settle_rng_state (s : State) : (settle s).rng.state = s.rng.state :=
  settle_of_quiet (fun x => x.rng.state) (fun _ => rfl) s
@[simp] theorem settle_rng_sources (s : State) : (settle s).rng.sources = s.rng.sources :=
  settle_of_quiet (fun x => x.rng.sources) (fun _ => rfl) s
@[simp] theorem settle_rng_drbg (s : State) : (settle s).rng.drbg = s.rng.drbg :=
  settle_of_quiet (fun x => x.rng.drbg) (fun _ => rfl) s
@[simp] theorem settle_rng_katPassed (s : State) : (settle s).rng.katPassed = s.rng.katPassed :=
  settle_of_quiet (fun x => x.rng.katPassed) (fun _ => rfl) s
@[simp] theorem settle_rng_seed (s : State) : (settle s).rng.seed = s.rng.seed :=
  settle_of_quiet (fun x => x.rng.seed) (fun _ => rfl) s
@[simp] theorem settle_rng_reserve (s : State) : (settle s).rng.reserve = s.rng.reserve :=
  settle_of_quiet (fun x => x.rng.reserve) (fun _ => rfl) s
@[simp] theorem settle_rng_buffer (s : State) : (settle s).rng.buffer = s.rng.buffer :=
  settle_of_quiet (fun x => x.rng.buffer) (fun _ => rfl) s
@[simp] theorem settle_rng_reseeds (s : State) : (settle s).rng.reseeds = s.rng.reseeds :=
  settle_of_quiet (fun x => x.rng.reseeds) (fun _ => rfl) s
@[simp] theorem settle_rng_calls (s : State) : (settle s).rng.calls = s.rng.calls :=
  settle_of_quiet (fun x => x.rng.calls) (fun _ => rfl) s
@[simp] theorem settle_rng_stretched (s : State) : (settle s).rng.stretched = s.rng.stretched :=
  settle_of_quiet (fun x => x.rng.stretched) (fun _ => rfl) s
@[simp] theorem settle_rng_hardLimited (s : State) : (settle s).rng.hardLimited = s.rng.hardLimited :=
  settle_of_quiet (fun x => x.rng.hardLimited) (fun _ => rfl) s
@[simp] theorem settle_rng_passOvers (s : State) : (settle s).rng.passOvers = s.rng.passOvers :=
  settle_of_quiet (fun x => x.rng.passOvers) (fun _ => rfl) s
@[simp] theorem settle_rng_drawn (s : State) : (settle s).rng.drawn = s.rng.drawn :=
  settle_of_quiet (fun x => x.rng.drawn) (fun _ => rfl) s
@[simp] theorem settle_rng_seedTime (s : State) : (settle s).rng.seedTime = s.rng.seedTime :=
  settle_of_quiet (fun x => x.rng.seedTime) (fun _ => rfl) s
@[simp] theorem settle_rng_filled (s : State) : (settle s).rng.filled = s.rng.filled :=
  settle_of_quiet (fun x => x.rng.filled) (fun _ => rfl) s
@[simp] theorem settle_mram_pages (s : State) : (settle s).mram.pages = s.mram.pages :=
  settle_of_quiet (fun x => x.mram.pages) (fun _ => rfl) s
@[simp] theorem settle_mram_erases (s : State) : (settle s).mram.erases = s.mram.erases :=
  settle_of_quiet (fun x => x.mram.erases) (fun _ => rfl) s
@[simp] theorem settle_mram_replaced (s : State) : (settle s).mram.replaced = s.mram.replaced :=
  settle_of_quiet (fun x => x.mram.replaced) (fun _ => rfl) s
@[simp] theorem settle_mram_pwrfail (s : State) : (settle s).mram.pwrfail = s.mram.pwrfail :=
  settle_of_quiet (fun x => x.mram.pwrfail) (fun _ => rfl) s
@[simp] theorem settle_mram_bootCounter (s : State) : (settle s).mram.bootCounter = s.mram.bootCounter :=
  settle_of_quiet (fun x => x.mram.bootCounter) (fun _ => rfl) s
@[simp] theorem settle_mram_active (s : State) : (settle s).mram.active = s.mram.active :=
  settle_of_quiet (fun x => x.mram.active) (fun _ => rfl) s
@[simp] theorem settle_mram_pendingSlot (s : State) : (settle s).mram.pendingSlot = s.mram.pendingSlot :=
  settle_of_quiet (fun x => x.mram.pendingSlot) (fun _ => rfl) s
@[simp] theorem settle_mram_writes (s : State) : (settle s).mram.writes = s.mram.writes :=
  settle_of_quiet (fun x => x.mram.writes) (fun _ => rfl) s
@[simp] theorem settle_mram_corrected (s : State) : (settle s).mram.corrected = s.mram.corrected :=
  settle_of_quiet (fun x => x.mram.corrected) (fun _ => rfl) s
@[simp] theorem settle_mram_torn (s : State) : (settle s).mram.torn = s.mram.torn :=
  settle_of_quiet (fun x => x.mram.torn) (fun _ => rfl) s
@[simp] theorem settle_mram_lost (s : State) : (settle s).mram.lost = s.mram.lost :=
  settle_of_quiet (fun x => x.mram.lost) (fun _ => rfl) s
@[simp] theorem settle_log_records (s : State) : (settle s).log.records = s.log.records :=
  settle_of_quiet (fun x => x.log.records) (fun _ => rfl) s
@[simp] theorem settle_log_nextSeq (s : State) : (settle s).log.nextSeq = s.log.nextSeq :=
  settle_of_quiet (fun x => x.log.nextSeq) (fun _ => rfl) s
@[simp] theorem settle_log_last (s : State) : (settle s).log.last = s.log.last :=
  settle_of_quiet (fun x => x.log.last) (fun _ => rfl) s
@[simp] theorem settle_log_statement (s : State) : (settle s).log.statement = s.log.statement :=
  settle_of_quiet (fun x => x.log.statement) (fun _ => rfl) s
@[simp] theorem settle_log_covers (s : State) : (settle s).log.covers = s.log.covers :=
  settle_of_quiet (fun x => x.log.covers) (fun _ => rfl) s
@[simp] theorem settle_log_holdTime (s : State) : (settle s).log.holdTime = s.log.holdTime :=
  settle_of_quiet (fun x => x.log.holdTime) (fun _ => rfl) s
@[simp] theorem settle_log_clearResult (s : State) : (settle s).log.clearResult = s.log.clearResult :=
  settle_of_quiet (fun x => x.log.clearResult) (fun _ => rfl) s
@[simp] theorem settle_log_warn (s : State) : (settle s).log.warn = s.log.warn :=
  settle_of_quiet (fun x => x.log.warn) (fun _ => rfl) s
@[simp] theorem settle_log_tailFound (s : State) : (settle s).log.tailFound = s.log.tailFound :=
  settle_of_quiet (fun x => x.log.tailFound) (fun _ => rfl) s
@[simp] theorem settle_log_inFlight (s : State) : (settle s).log.inFlight = s.log.inFlight :=
  settle_of_quiet (fun x => x.log.inFlight) (fun _ => rfl) s
@[simp] theorem settle_custody_linkUp (s : State) : (settle s).custody.linkUp = s.custody.linkUp :=
  settle_of_quiet (fun x => x.custody.linkUp) (fun _ => rfl) s
@[simp] theorem settle_custody_plcaNode (s : State) : (settle s).custody.plcaNode = s.custody.plcaNode :=
  settle_of_quiet (fun x => x.custody.plcaNode) (fun _ => rfl) s
@[simp] theorem settle_custody_plcaCount (s : State) : (settle s).custody.plcaCount = s.custody.plcaCount :=
  settle_of_quiet (fun x => x.custody.plcaCount) (fun _ => rfl) s
@[simp] theorem settle_custody_newPlca (s : State) : (settle s).custody.newPlca = s.custody.newPlca :=
  settle_of_quiet (fun x => x.custody.newPlca) (fun _ => rfl) s
@[simp] theorem settle_custody_session (s : State) : (settle s).custody.session = s.custody.session :=
  settle_of_quiet (fun x => x.custody.session) (fun _ => rfl) s
@[simp] theorem settle_custody_console (s : State) : (settle s).custody.console = s.custody.console :=
  settle_of_quiet (fun x => x.custody.console) (fun _ => rfl) s
@[simp] theorem settle_custody_sessionId (s : State) : (settle s).custody.sessionId = s.custody.sessionId :=
  settle_of_quiet (fun x => x.custody.sessionId) (fun _ => rfl) s
@[simp] theorem settle_custody_kmac (s : State) : (settle s).custody.kmac = s.custody.kmac :=
  settle_of_quiet (fun x => x.custody.kmac) (fun _ => rfl) s
@[simp] theorem settle_custody_kwrap (s : State) : (settle s).custody.kwrap = s.custody.kwrap :=
  settle_of_quiet (fun x => x.custody.kwrap) (fun _ => rfl) s
@[simp] theorem settle_custody_peerMac (s : State) : (settle s).custody.peerMac = s.custody.peerMac :=
  settle_of_quiet (fun x => x.custody.peerMac) (fun _ => rfl) s
@[simp] theorem settle_custody_seq (s : State) : (settle s).custody.seq = s.custody.seq :=
  settle_of_quiet (fun x => x.custody.seq) (fun _ => rfl) s
@[simp] theorem settle_custody_tagFails (s : State) : (settle s).custody.tagFails = s.custody.tagFails :=
  settle_of_quiet (fun x => x.custody.tagFails) (fun _ => rfl) s
@[simp] theorem settle_custody_closing (s : State) : (settle s).custody.closing = s.custody.closing :=
  settle_of_quiet (fun x => x.custody.closing) (fun _ => rfl) s
@[simp] theorem settle_custody_due (s : State) : (settle s).custody.due = s.custody.due :=
  settle_of_quiet (fun x => x.custody.due) (fun _ => rfl) s
@[simp] theorem settle_custody_idle (s : State) : (settle s).custody.idle = s.custody.idle :=
  settle_of_quiet (fun x => x.custody.idle) (fun _ => rfl) s
@[simp] theorem settle_custody_enrol (s : State) : (settle s).custody.enrol = s.custody.enrol :=
  settle_of_quiet (fun x => x.custody.enrol) (fun _ => rfl) s
@[simp] theorem settle_custody_labels (s : State) : (settle s).custody.labels = s.custody.labels :=
  settle_of_quiet (fun x => x.custody.labels) (fun _ => rfl) s
@[simp] theorem settle_custody_rejected (s : State) : (settle s).custody.rejected = s.custody.rejected :=
  settle_of_quiet (fun x => x.custody.rejected) (fun _ => rfl) s
@[simp] theorem settle_custody_opened (s : State) : (settle s).custody.opened = s.custody.opened :=
  settle_of_quiet (fun x => x.custody.opened) (fun _ => rfl) s
@[simp] theorem settle_custody_presA (s : State) : (settle s).custody.presA = s.custody.presA :=
  settle_of_quiet (fun x => x.custody.presA) (fun _ => rfl) s
@[simp] theorem settle_custody_presB (s : State) : (settle s).custody.presB = s.custody.presB :=
  settle_of_quiet (fun x => x.custody.presB) (fun _ => rfl) s
@[simp] theorem settle_custody_dual (s : State) : (settle s).custody.dual = s.custody.dual :=
  settle_of_quiet (fun x => x.custody.dual) (fun _ => rfl) s
@[simp] theorem settle_custody_ceremony (s : State) : (settle s).custody.ceremony = s.custody.ceremony :=
  settle_of_quiet (fun x => x.custody.ceremony) (fun _ => rfl) s
@[simp] theorem settle_custody_ceremonyResult (s : State) : (settle s).custody.ceremonyResult = s.custody.ceremonyResult :=
  settle_of_quiet (fun x => x.custody.ceremonyResult) (fun _ => rfl) s
@[simp] theorem settle_custody_ceremonyAt (s : State) : (settle s).custody.ceremonyAt = s.custody.ceremonyAt :=
  settle_of_quiet (fun x => x.custody.ceremonyAt) (fun _ => rfl) s
@[simp] theorem settle_custody_components (s : State) : (settle s).custody.components = s.custody.components :=
  settle_of_quiet (fun x => x.custody.components) (fun _ => rfl) s
@[simp] theorem settle_custody_loadTarget (s : State) : (settle s).custody.loadTarget = s.custody.loadTarget :=
  settle_of_quiet (fun x => x.custody.loadTarget) (fun _ => rfl) s
@[simp] theorem settle_custody_loadAttr (s : State) : (settle s).custody.loadAttr = s.custody.loadAttr :=
  settle_of_quiet (fun x => x.custody.loadAttr) (fun _ => rfl) s
@[simp] theorem settle_custody_loadCount (s : State) : (settle s).custody.loadCount = s.custody.loadCount :=
  settle_of_quiet (fun x => x.custody.loadCount) (fun _ => rfl) s
@[simp] theorem settle_custody_lastKcv (s : State) : (settle s).custody.lastKcv = s.custody.lastKcv :=
  settle_of_quiet (fun x => x.custody.lastKcv) (fun _ => rfl) s
@[simp] theorem settle_custody_loadResult (s : State) : (settle s).custody.loadResult = s.custody.loadResult :=
  settle_of_quiet (fun x => x.custody.loadResult) (fun _ => rfl) s
@[simp] theorem settle_custody_announcedAt (s : State) : (settle s).custody.announcedAt = s.custody.announcedAt :=
  settle_of_quiet (fun x => x.custody.announcedAt) (fun _ => rfl) s
@[simp] theorem settle_dict_paths (s : State) : (settle s).dict.paths = s.dict.paths :=
  settle_of_quiet (fun x => x.dict.paths) (fun _ => rfl) s
@[simp] theorem settle_dict_certData (s : State) : (settle s).dict.certData = s.dict.certData :=
  settle_of_quiet (fun x => x.dict.certData) (fun _ => rfl) s
@[simp] theorem settle_dict_certResult (s : State) : (settle s).dict.certResult = s.dict.certResult :=
  settle_of_quiet (fun x => x.dict.certResult) (fun _ => rfl) s
@[simp] theorem settle_dict_board (s : State) : (settle s).dict.board = s.dict.board :=
  settle_of_quiet (fun x => x.dict.board) (fun _ => rfl) s
@[simp] theorem settle_dict_subsystem (s : State) : (settle s).dict.subsystem = s.dict.subsystem :=
  settle_of_quiet (fun x => x.dict.subsystem) (fun _ => rfl) s
@[simp] theorem settle_dict_configSource (s : State) : (settle s).dict.configSource = s.dict.configSource :=
  settle_of_quiet (fun x => x.dict.configSource) (fun _ => rfl) s
@[simp] theorem settle_clasp_link (s : State) : (settle s).clasp.link = s.clasp.link :=
  settle_of_quiet (fun x => x.clasp.link) (fun _ => rfl) s
@[simp] theorem settle_clasp_lanes (s : State) : (settle s).clasp.lanes = s.clasp.lanes :=
  settle_of_quiet (fun x => x.clasp.lanes) (fun _ => rfl) s
@[simp] theorem settle_clasp_myHello (s : State) : (settle s).clasp.myHello = s.clasp.myHello :=
  settle_of_quiet (fun x => x.clasp.myHello) (fun _ => rfl) s
@[simp] theorem settle_clasp_peerHello (s : State) : (settle s).clasp.peerHello = s.clasp.peerHello :=
  settle_of_quiet (fun x => x.clasp.peerHello) (fun _ => rfl) s
@[simp] theorem settle_clasp_confSent (s : State) : (settle s).clasp.confSent = s.clasp.confSent :=
  settle_of_quiet (fun x => x.clasp.confSent) (fun _ => rfl) s
@[simp] theorem settle_clasp_txKey (s : State) : (settle s).clasp.txKey = s.clasp.txKey :=
  settle_of_quiet (fun x => x.clasp.txKey) (fun _ => rfl) s
@[simp] theorem settle_clasp_rxKey (s : State) : (settle s).clasp.rxKey = s.clasp.rxKey :=
  settle_of_quiet (fun x => x.clasp.rxKey) (fun _ => rfl) s
@[simp] theorem settle_clasp_bindKey (s : State) : (settle s).clasp.bindKey = s.clasp.bindKey :=
  settle_of_quiet (fun x => x.clasp.bindKey) (fun _ => rfl) s
@[simp] theorem settle_clasp_rxSeq (s : State) : (settle s).clasp.rxSeq = s.clasp.rxSeq :=
  settle_of_quiet (fun x => x.clasp.rxSeq) (fun _ => rfl) s
@[simp] theorem settle_clasp_fails (s : State) : (settle s).clasp.fails = s.clasp.fails :=
  settle_of_quiet (fun x => x.clasp.fails) (fun _ => rfl) s
@[simp] theorem settle_clasp_rejected (s : State) : (settle s).clasp.rejected = s.clasp.rejected :=
  settle_of_quiet (fun x => x.clasp.rejected) (fun _ => rfl) s
@[simp] theorem settle_clasp_repeated (s : State) : (settle s).clasp.repeated = s.clasp.repeated :=
  settle_of_quiet (fun x => x.clasp.repeated) (fun _ => rfl) s
@[simp] theorem settle_twin_side (s : State) : (settle s).twin.side = s.twin.side :=
  settle_of_quiet (fun x => x.twin.side) (fun _ => rfl) s
@[simp] theorem settle_twin_holder (s : State) : (settle s).twin.holder = s.twin.holder :=
  settle_of_quiet (fun x => x.twin.holder) (fun _ => rfl) s
@[simp] theorem settle_twin_peerSync (s : State) : (settle s).twin.peerSync = s.twin.peerSync :=
  settle_of_quiet (fun x => x.twin.peerSync) (fun _ => rfl) s
@[simp] theorem settle_twin_renewal (s : State) : (settle s).twin.renewal = s.twin.renewal :=
  settle_of_quiet (fun x => x.twin.renewal) (fun _ => rfl) s
@[simp] theorem settle_twin_renewSent (s : State) : (settle s).twin.renewSent = s.twin.renewSent :=
  settle_of_quiet (fun x => x.twin.renewSent) (fun _ => rfl) s
@[simp] theorem settle_twin_renewDue (s : State) : (settle s).twin.renewDue = s.twin.renewDue :=
  settle_of_quiet (fun x => x.twin.renewDue) (fun _ => rfl) s
@[simp] theorem settle_twin_leaseEnd (s : State) : (settle s).twin.leaseEnd = s.twin.leaseEnd :=
  settle_of_quiet (fun x => x.twin.leaseEnd) (fun _ => rfl) s
@[simp] theorem settle_twin_takeoverAt (s : State) : (settle s).twin.takeoverAt = s.twin.takeoverAt :=
  settle_of_quiet (fun x => x.twin.takeoverAt) (fun _ => rfl) s
@[simp] theorem settle_twin_nextRecord (s : State) : (settle s).twin.nextRecord = s.twin.nextRecord :=
  settle_of_quiet (fun x => x.twin.nextRecord) (fun _ => rfl) s
@[simp] theorem settle_twin_unacked (s : State) : (settle s).twin.unacked = s.twin.unacked :=
  settle_of_quiet (fun x => x.twin.unacked) (fun _ => rfl) s
@[simp] theorem settle_twin_ackedTo (s : State) : (settle s).twin.ackedTo = s.twin.ackedTo :=
  settle_of_quiet (fun x => x.twin.ackedTo) (fun _ => rfl) s
@[simp] theorem settle_twin_processed (s : State) : (settle s).twin.processed = s.twin.processed :=
  settle_of_quiet (fun x => x.twin.processed) (fun _ => rfl) s
@[simp] theorem settle_twin_ackWaits (s : State) : (settle s).twin.ackWaits = s.twin.ackWaits :=
  settle_of_quiet (fun x => x.twin.ackWaits) (fun _ => rfl) s
@[simp] theorem settle_twin_vaultHalf (s : State) : (settle s).twin.vaultHalf = s.twin.vaultHalf :=
  settle_of_quiet (fun x => x.twin.vaultHalf) (fun _ => rfl) s
@[simp] theorem settle_twin_binding (s : State) : (settle s).twin.binding = s.twin.binding :=
  settle_of_quiet (fun x => x.twin.binding) (fun _ => rfl) s
@[simp] theorem settle_twin_offer (s : State) : (settle s).twin.offer = s.twin.offer :=
  settle_of_quiet (fun x => x.twin.offer) (fun _ => rfl) s
@[simp] theorem settle_twin_actionResult (s : State) : (settle s).twin.actionResult = s.twin.actionResult :=
  settle_of_quiet (fun x => x.twin.actionResult) (fun _ => rfl) s
@[simp] theorem settle_twin_drain (s : State) : (settle s).twin.drain = s.twin.drain :=
  settle_of_quiet (fun x => x.twin.drain) (fun _ => rfl) s
@[simp] theorem settle_twin_drainDue (s : State) : (settle s).twin.drainDue = s.twin.drainDue :=
  settle_of_quiet (fun x => x.twin.drainDue) (fun _ => rfl) s
@[simp] theorem settle_twin_resyncStart (s : State) : (settle s).twin.resyncStart = s.twin.resyncStart :=
  settle_of_quiet (fun x => x.twin.resyncStart) (fun _ => rfl) s
@[simp] theorem settle_twin_resyncItems (s : State) : (settle s).twin.resyncItems = s.twin.resyncItems :=
  settle_of_quiet (fun x => x.twin.resyncItems) (fun _ => rfl) s
@[simp] theorem settle_twin_recordsSent (s : State) : (settle s).twin.recordsSent = s.twin.recordsSent :=
  settle_of_quiet (fun x => x.twin.recordsSent) (fun _ => rfl) s
@[simp] theorem settle_twin_recordsApplied (s : State) : (settle s).twin.recordsApplied = s.twin.recordsApplied :=
  settle_of_quiet (fun x => x.twin.recordsApplied) (fun _ => rfl) s
@[simp] theorem settle_twin_longest (s : State) : (settle s).twin.longest = s.twin.longest :=
  settle_of_quiet (fun x => x.twin.longest) (fun _ => rfl) s
@[simp] theorem settle_twin_revoked (s : State) : (settle s).twin.revoked = s.twin.revoked :=
  settle_of_quiet (fun x => x.twin.revoked) (fun _ => rfl) s
@[simp] theorem settle_tap_boundary (s : State) : (settle s).tap.boundary = s.tap.boundary :=
  settle_of_quiet (fun x => x.tap.boundary) (fun _ => rfl) s

end Sys2Proof.Machine
end

