-- ==== Sys2Proof/Laws/Tables.lean ====
section
/-!
SUPPORT. Sparse tables and memories: reading after writing, and the canonical form that every operation keeps (R372, R378).
-/
namespace Sys2Proof.Machine

theorem find_put_same {α : Type} (m : SMap α) (k : Nat) (v : α) : SMap.find (SMap.put m k v) k = some v := by
  induction m with
  | nil => simp [SMap.put, SMap.find]
  | cons x t ih =>
    obtain ⟨k', v'⟩ := x
    unfold SMap.put
    split
    · simp [SMap.find]
    · split
      · simp [SMap.find]
      · simp only [SMap.find]
        rw [if_neg (by omega)]
        exact ih

theorem find_put_other {α : Type} (m : SMap α) {k j : Nat} (v : α) (h : j ≠ k) :
    SMap.find (SMap.put m k v) j = SMap.find m j := by
  induction m with
  | nil => simp [SMap.put, SMap.find, Ne.symm h]
  | cons x t ih =>
    obtain ⟨k', v'⟩ := x
    unfold SMap.put
    split
    · simp only [SMap.find]
      rw [if_neg (Ne.symm h)]
    · split
      · subst_vars
        simp only [SMap.find]
        rw [if_neg (Ne.symm h), if_neg (Ne.symm h)]
      · simp only [SMap.find]
        rw [ih]

theorem find_erase_other {α : Type} (m : SMap α) {k j : Nat} (h : j ≠ k) :
    SMap.find (SMap.erase m k) j = SMap.find m j := by
  unfold SMap.erase
  induction m with
  | nil => rfl
  | cons x t ih =>
    rw [List.filter_cons]
    split
    · simp only [SMap.find, ih]
    · rename_i hk
      rw [ih]
      obtain ⟨k', v'⟩ := x
      simp only [SMap.find]
      have : k' = k := by simpa using hk
      rw [if_neg (by omega)]

theorem find_erase_same {α : Type} (m : SMap α) (k : Nat) : SMap.find (SMap.erase m k) k = none := by
  unfold SMap.erase
  induction m with
  | nil => rfl
  | cons x t ih =>
    rw [List.filter_cons]
    split
    · rename_i hk
      obtain ⟨k', v'⟩ := x
      simp only [SMap.find]
      rw [if_neg (by simpa using hk)]
      exact ih
    · exact ih

theorem get_put_same {α : Type} (d : α) (m : SMap α) (k : Nat) (v : α) : SMap.get d (SMap.put m k v) k = v := by
  simp [SMap.get, find_put_same]

theorem get_put_other {α : Type} (d : α) (m : SMap α) {k j : Nat} (v : α) (h : j ≠ k) :
    SMap.get d (SMap.put m k v) j = SMap.get d m j := by
  simp [SMap.get, find_put_other m v h]

theorem get_set_other {α : Type} [DecidableEq α] (d : α) (m : SMap α) {k j : Nat} (v : α) (h : j ≠ k) :
    SMap.get d (SMap.set d m k v) j = SMap.get d m j := by
  unfold SMap.set SMap.get
  split
  · rw [find_erase_other m h]
  · rw [find_put_other m v h]

/-- Every value is read back, the default one too. -/
theorem get_set_same {α : Type} [DecidableEq α] (d : α) (m : SMap α) (k : Nat) (v : α) : SMap.get d (SMap.set d m k v) k = v := by
  unfold SMap.set
  split
  · rename_i h
    rw [SMap.get, find_erase_same, h]
    rfl
  · rw [get_put_same]

/-! ### The canonical form -/

theorem rising_weaken {α : Type} {a b : Nat} (h : a ≤ b) : ∀ {m : SMap α}, SMap.rising b m = true → SMap.rising a m = true
  | [], _ => rfl
  | (k, v) :: t, hm => by
    simp only [SMap.rising, Bool.and_eq_true, decide_eq_true_eq] at hm ⊢
    exact ⟨by omega, hm.2⟩

theorem find_below {α : Type} {lo k : Nat} (h : k < lo) : ∀ {m : SMap α}, SMap.rising lo m = true → SMap.find m k = none
  | [], _ => rfl
  | (j, v) :: t, hm => by
    simp only [SMap.rising, Bool.and_eq_true, decide_eq_true_eq] at hm
    simp only [SMap.find]
    rw [if_neg (by omega)]
    exact find_below (by omega) hm.2

theorem rising_put {α : Type} (k : Nat) (v : α) :
    ∀ {lo : Nat} {m : SMap α}, lo ≤ k → SMap.rising lo m = true → SMap.rising lo (SMap.put m k v) = true
  | lo, [], h, _ => by simp [SMap.put, SMap.rising, h]
  | lo, (j, w) :: t, h, hm => by
    simp only [SMap.rising, Bool.and_eq_true, decide_eq_true_eq] at hm
    unfold SMap.put
    split
    · simp only [SMap.rising, Bool.and_eq_true, decide_eq_true_eq]
      exact ⟨h, by omega, hm.2⟩
    · split
      · subst_vars
        simp only [SMap.rising, Bool.and_eq_true, decide_eq_true_eq]
        exact hm
      · simp only [SMap.rising, Bool.and_eq_true, decide_eq_true_eq]
        exact ⟨hm.1, rising_put k v (by omega) hm.2⟩

theorem rising_filter {α : Type} (p : Nat × α → Bool) :
    ∀ {lo : Nat} {m : SMap α}, SMap.rising lo m = true → SMap.rising lo (m.filter p) = true
  | lo, [], _ => rfl
  | lo, (j, w) :: t, hm => by
    simp only [SMap.rising, Bool.and_eq_true, decide_eq_true_eq] at hm
    have ih := rising_filter p hm.2
    rw [List.filter_cons]
    split
    · simp only [SMap.rising, Bool.and_eq_true, decide_eq_true_eq]
      exact ⟨hm.1, ih⟩
    · exact rising_weaken (by omega) ih

theorem rising_erase {α : Type} (k : Nat) {lo : Nat} {m : SMap α} (h : SMap.rising lo m = true) :
    SMap.rising lo (SMap.erase m k) = true := rising_filter _ h

theorem mem_put {α : Type} {m : SMap α} {k : Nat} {v : α} {x : Nat × α} (h : x ∈ SMap.put m k v) : x = (k, v) ∨ x ∈ m := by
  induction m with
  | nil => simpa [SMap.put] using h
  | cons y t ih =>
    obtain ⟨j, w⟩ := y
    unfold SMap.put at h
    split at h
    · simpa using h
    · split at h
      · rcases List.mem_cons.mp h with h | h
        · exact .inl h
        · exact .inr (List.mem_cons_of_mem _ h)
      · rcases List.mem_cons.mp h with h | h
        · exact .inr (h ▸ List.mem_cons_self)
        · rcases ih h with h | h
          · exact .inl h
          · exact .inr (List.mem_cons_of_mem _ h)

theorem mem_erase {α : Type} {m : SMap α} {k : Nat} {x : Nat × α} (h : x ∈ SMap.erase m k) : x ∈ m :=
  (List.mem_filter.mp h).1

theorem wf_set {α : Type} [DecidableEq α] {d : α} {m : SMap α} (k : Nat) (v : α) (h : SMap.wf d m = true) :
    SMap.wf d (SMap.set d m k v) = true := by
  simp only [SMap.wf, Bool.and_eq_true, List.all_eq_true, decide_eq_true_eq] at h ⊢
  unfold SMap.set
  split
  · exact ⟨rising_erase k h.1, fun x hx => h.2 x (mem_erase hx)⟩
  · refine ⟨rising_put k v (Nat.zero_le k) h.1, fun x hx => ?_⟩
    rcases mem_put hx with rfl | hx
    · assumption
    · exact h.2 x hx

/-! ### Memories -/

theorem memory_wf_write {m : List Host.Cell} (a : Nat) (v : Byte) (h : Memory.wf m = true) : Memory.wf (Memory.write m a v) = true :=
  wf_set a v h

theorem memory_wf_writeN {m : List Host.Cell} (a : Nat) (data : Bytes) (h : Memory.wf m = true) :
    Memory.wf (Memory.writeN m a data) = true := by
  induction data generalizing m a with
  | nil => exact h
  | cons b t ih => exact ih (a + 1) (memory_wf_write a b h)

theorem memory_wf_clear {m : List Host.Cell} (a n : Nat) (h : Memory.wf m = true) : Memory.wf (Memory.clear m a n) = true := by
  simp only [Memory.wf, SMap.wf, Bool.and_eq_true, List.all_eq_true] at h ⊢
  exact ⟨rising_filter _ h.1, fun x hx => h.2 x (List.mem_filter.mp hx).1⟩

theorem memory_read_write (m : List Host.Cell) (a : Nat) (v : Byte) : Memory.read (Memory.write m a v) a = v :=
  get_set_same 0 m a v

theorem memory_read_write_other (m : List Host.Cell) {a b : Nat} (v : Byte) (h : b ≠ a) :
    Memory.read (Memory.write m a v) b = Memory.read m b := get_set_other 0 m v h

end Sys2Proof.Machine
end

