-- ==== Sys2Proof/Laws/Ends.lean ====
section
/-!
SUPPORT. How a command's answer is read off its meaning, and what of the things sent and the events staged the end of a command
keeps: nothing sent is taken back, and no event is dropped.
-/
namespace Sys2Proof.Machine

/-- A command whose meaning completes at a state ends in what holds of that state settled. -/
theorem ends_of_complete {c : Instr} {s u : State} {P : State → Prop} (h : exec c s = complete u) (hp : P (settle u)) :
    Ends c s P := ⟨settle u, h, hp⟩

/-- Two outputs compared as lists: what was sent stays sent, and the events staged stay in their order. -/
def Grows (s t : State) : Prop := s.sent <:+ t.sent ∧ s.log.staged <+: t.log.staged

theorem grows_refl (s : State) : Grows s s := ⟨List.suffix_refl _, List.prefix_refl _⟩

theorem grows_trans {a b c : State} (h : Grows a b) (k : Grows b c) : Grows a c := ⟨h.1.trans k.1, h.2.trans k.2⟩

theorem grows_of_eq {s t : State} (h : t.sent = s.sent) (k : t.log.staged = s.log.staged) : Grows s t :=
  ⟨h ▸ List.suffix_refl _, k ▸ List.prefix_refl _⟩

theorem grows_after {a b c : State} (h : Grows b c) (hs : b.sent = a.sent) (hl : b.log.staged = a.log.staged) : Grows a c :=
  grows_trans (grows_of_eq hs hl) h

theorem grows_send (o : Sent) (s : State) : Grows s (send o s) := ⟨List.suffix_cons o _, List.prefix_refl _⟩

theorem grows_foldl {α : Type} (f : State → α → State) (h : ∀ s a, Grows s (f s a)) (l : List α) (s : State) :
    Grows s (l.foldl f s) := by
  induction l generalizing s with
  | nil => exact grows_refl s
  | cons a t ih => exact grows_trans (h s a) (ih _)

theorem grows_sendMsix (fn vector : Nat) (s : State) : Grows s (sendMsix fn vector s) := by
  unfold sendMsix
  dsimp only
  split
  · exact grows_of_eq rfl rfl
  · split
    · exact grows_after (grows_send _ _) rfl rfl
    · exact grows_of_eq rfl rfl

theorem grows_managerNotify (b : Nat) (s : State) : Grows s (managerNotify b s) := by
  unfold managerNotify
  split
  · exact grows_refl s
  · exact grows_after (grows_sendMsix _ _ _) rfl rfl

theorem grows_tenantNotify (fn b : Nat) (s : State) : Grows s (tenantNotify fn b s) := by
  unfold tenantNotify
  split
  · exact grows_refl s
  · dsimp only
    split
    · exact grows_refl s
    · split
      · exact grows_after (grows_sendMsix _ _ _) rfl rfl
      · exact grows_of_eq rfl rfl

theorem grows_notifyTenants (b : Nat) (s : State) : Grows s (notifyTenants b s) := by
  unfold notifyTenants
  refine grows_foldl _ (fun s a => ?_) _ _
  split
  · exact grows_tenantNotify _ _ _
  · exact grows_refl s

theorem grows_logEvent (code source : Nat) (args : Bytes) (s : State) : Grows s (logEvent code source args s) := by
  unfold logEvent
  split
  · exact grows_of_eq rfl rfl
  · split
    · exact grows_of_eq rfl rfl
    · exact ⟨List.suffix_refl _, List.prefix_append _ _⟩

theorem grows_setMailbox (fn : Nat) (m : Mailbox) (s : State) : Grows s (setMailbox fn m s) := grows_of_eq rfl rfl

theorem grows_setMailSlot (fn slot : Nat) (v : MailSlot) (s : State) : Grows s (setMailSlot fn slot v s) := grows_of_eq rfl rfl

theorem grows_writeReply (fn slot seq result : Nat) (value : Bytes) (s : State) :
    Grows s (writeReply fn slot seq result value s) := by
  unfold writeReply
  extract_lets v n s₁ m s₂
  have h : Grows s s₂ := grows_trans (grows_setMailSlot _ _ _ _) (grows_setMailbox _ _ _)
  split
  · exact grows_trans h (grows_managerNotify _ _)
  · exact grows_trans h (grows_tenantNotify _ _ _)

theorem grows_runPlain (fn n : Nat) (s : State) : Grows s (runPlain fn n s) := by
  induction n generalizing s with
  | zero => exact grows_refl s
  | succ n ih =>
    unfold runPlain
    split
    · exact grows_trans (grows_writeReply _ _ _ _ _ _) (ih _)
    · exact grows_refl s

theorem grows_giveReply (h : HeldReply) (s : State) : Grows s (giveReply h s) := by
  unfold giveReply
  split
  · exact grows_trans (grows_writeReply _ _ _ _ _ _) (grows_runPlain _ _ _)
  · split
    · exact ⟨List.suffix_cons _ _, List.prefix_refl _⟩
    · exact grows_of_eq rfl rfl

theorem grows_releaseReplies (s : State) : Grows s (releaseReplies s) := by
  unfold releaseReplies
  dsimp only
  exact grows_after (grows_foldl _ (fun s h => grows_giveReply h s) _ _) rfl rfl

theorem grows_reportResets (s : State) : Grows s (reportResets s) := by
  unfold reportResets
  dsimp only
  exact grows_after (grows_foldl _ (fun s x => grows_trans (grows_managerNotify _ _) (grows_tenantNotify _ _ _)) _ _) rfl rfl

theorem grows_noteActivity (s : State) : Grows s (noteActivity s) := grows_of_eq rfl rfl

theorem grows_claspSend (kind : Nat) (body : Bytes) (s : State) : Grows s (claspSend kind body s) :=
  ⟨List.suffix_cons _ _, List.prefix_refl _⟩

theorem grows_becomeInSync (s : State) : Grows s (becomeInSync s) := by
  unfold becomeInSync
  refine grows_trans ?_ (grows_logEvent _ _ _ _)
  exact grows_of_eq rfl rfl

theorem grows_advanceApplied (s : State) : Grows s (advanceApplied s) := by
  unfold advanceApplied
  split
  · exact grows_refl s
  · extract_lets w t u
    have ht : Grows s t := grows_of_eq rfl rfl
    have hu : Grows s u := by
      unfold u
      split
      · exact grows_trans ht (grows_becomeInSync t)
      · exact ht
    split
    · exact grows_trans hu (grows_claspSend _ _ _)
    · exact hu

theorem grows_kickMram (s : State) : Grows s (kickMram s) := by
  unfold kickMram
  split
  · exact grows_refl s
  · split <;> exact grows_of_eq rfl rfl

theorem grows_holdPort (s : State) : Grows s (holdPort s) := by
  unfold holdPort
  split
  · exact grows_refl s
  · unfold endCapture
    dsimp only
    split <;> exact grows_of_eq rfl rfl

theorem grows_postDeviceEvent (b : Nat) (s : State) : Grows s (postDeviceEvent b s) := grows_of_eq rfl rfl

theorem grows_withModes (m : Modes) (s : State) : Grows s { s with modes := m } := grows_of_eq rfl rfl

theorem grows_drivePins (s : State) : Grows s (drivePins s) := grows_of_eq rfl rfl

theorem grows_modeChanged (old new : ModeWord) (s : State) : Grows s (modeChanged old new s) := by
  unfold modeChanged
  extract_lets changed m a b c
  have ha : Grows s a := grows_of_eq rfl rfl
  have hb : Grows s b := grows_trans ha (grows_logEvent _ _ _ _)
  have hc : Grows s c := by
    unfold c
    split
    · exact hb
    · exact grows_trans hb (grows_managerNotify _ _)
  exact grows_trans hc (grows_trans (grows_notifyTenants _ _) (grows_postDeviceEvent _ _))

theorem grows_updateModes (s : State) : Grows s (updateModes s) := by
  unfold updateModes
  extract_lets old new u
  split
  · exact grows_refl s
  · exact grows_trans (grows_modeChanged _ _ _) (grows_withModes _ _)

/-- The end of a command takes back nothing sent and drops no event staged. -/
theorem grows_settle (s : State) : Grows s (settle s) := by
  unfold settle
  have h1 := grows_trans (grows_trans (grows_advanceApplied s) (grows_releaseReplies _)) (grows_reportResets _)
  have h2 := grows_trans (grows_trans h1 (grows_kickMram _)) (grows_noteActivity _)
  exact grows_trans (grows_trans (grows_trans h2 (grows_holdPort _)) (grows_updateModes _)) (grows_drivePins _)

theorem sent_settle {o : Sent} {s : State} (h : o ∈ s.sent) : o ∈ (settle s).sent := (grows_settle s).1.subset h

theorem logged_settle {s : State} {code : Nat} {args : Bytes} (h : Logged s code args) : Logged (settle s) code args := by
  obtain ⟨e, he, h⟩ := h
  exact ⟨e, (grows_settle s).2.subset he, h⟩

/-- An event that finds room is staged. -/
theorem logged_logEvent {s : State} (code source : Nat) (args : Bytes) (h : logRoom s = true) :
    Logged (logEvent code source args s) code args := by
  unfold logRoom at h
  simp only [Bool.and_eq_true, Bool.not_eq_true', decide_eq_true_eq] at h
  unfold logEvent
  rw [if_neg (by simp [h.1]), if_neg (by omega)]
  exact ⟨_, List.mem_append_right _ (List.mem_singleton.mpr rfl), rfl, rfl⟩

end Sys2Proof.Machine
end

