-- ==== Sys2Proof/Laws/Writes.lean ====
section
/-!
SUPPORT. Writes of the object dictionary: what reading, answering and holding an answer leave alone, so that only the entry's own
action is left of a write that reaches it (R275, R515, R524).
-/
namespace Sys2Proof.Machine

@[simp] theorem quiet_startMessage (fn slot : Nat) (s : State) : quiet (startMessage fn slot s) = quiet s := rfl

theorem quiet_withHeld (h : List HeldReply) (s : State) : quiet { s with dict := { s.dict with held := h } } = quiet s := rfl

@[simp] theorem quiet_answerMessage (fn slot : Nat) (a : Answer) : quiet (answerMessage fn slot a) = quiet a.state := by
  unfold answerMessage
  dsimp only
  split
  · exact quiet_mailReply _ _ _ _ _ _
  · exact (quiet_withHeld _ _).trans (quiet_startMessage _ _ _)

@[simp] theorem quiet_answerWrite (p : Path) (a : Answer) : quiet (answerWrite p a) = quiet a.state := by
  unfold answerWrite
  split
  · rfl
  · exact quiet_withHeld _ _

/-- A write that reaches its entry does what the entry's action does. -/
theorem quiet_runWrite {src : Src} {given value : Bytes} {s : State} {path : Path} {index sub : Nat} {mine : Bytes → Bool}
    {act : Path → Bytes → State → Answer} (h : reaches src given s path index sub value = true) (hm : mine value = true) :
    quiet (runWrite src index sub given mine act s) = quiet (act path value s).state := by
  unfold reaches at h
  unfold runWrite
  cases src with
  | message fn slot =>
    simp only [Bool.and_eq_true, decide_eq_true_eq] at h
    obtain ⟨hr, ⟨⟨⟨⟨⟨⟨rfl, h1⟩, h2⟩, h3⟩, h4⟩, h5⟩, h6⟩, h7⟩ := h
    simp [h1, h2, h3, h4, h5, h6, h7, hm, hr]
  | write p =>
    simp only [Bool.and_eq_true, decide_eq_true_eq] at h
    obtain ⟨hr, rfl, rfl⟩ := h
    simp [hm, hr]
  | debugPort => simp at h

/-- An action that reaches its entry has its effect. -/
theorem quiet_runAction {src : Src} {s : State} {path : Path} {index sub code : Nat} {act : Path → State → Answer}
    (h : reaches src [byte code] s path index sub [byte code] = true) :
    quiet (runAction src index sub code act s) = quiet (act path s).state :=
  quiet_runWrite h (by simp [codeIs])

end Sys2Proof.Machine
end

