-- ==== Sys2Proof/Laws/Links.lean ====
section
/-!
SUPPORT. How a Link ends: what its Chain context holds afterwards, and that nothing beside the Chain, its engine, its output and
the core that requested it changes (R53, R60, R61, R81, R359).
-/
namespace Sys2Proof.Machine

/-! ### Chain contexts -/

theorem find_adjust_same {α : Type} {m : SMap α} {k : Nat} {v : α} (f : α → α) (h : SMap.find m k = some v) :
    SMap.find (SMap.adjust m k f) k = some (f v) := by
  unfold SMap.adjust
  rw [h]
  exact find_put_same _ _ _

theorem getChain_modifyChain {s : State} {c : Nat} {ch : Chain} (f : Chain → Chain) (h : getChain s c = some ch) :
    getChain (modifyChain c f s) c = some (f ch) := find_adjust_same f h

theorem getChain_putChain (s : State) (c : Nat) (ch : Chain) : getChain (putChain c ch s) c = some ch := find_put_same _ _ _

/-- The record of a Link after it has been changed. -/
theorem link_setRun {ch : Chain} {n : Nat} {l : LinkWords} {r : LinkRun} (f : LinkRun → LinkRun) (h : ch.link n = some (l, r)) :
    (ch.setRun n f).link n = some (l, f r) := by
  unfold Chain.link at h ⊢
  unfold Chain.setRun
  split at h
  · rename_i hn
    rw [if_pos hn, if_pos hn]
    split at h
    · rename_i l' r' hl hr
      simp only [Option.some.injEq, Prod.mk.injEq] at h
      obtain ⟨rfl, rfl⟩ := h
      simp only [hr, hl]
      have hlt : n < ch.links.length := by
        refine Decidable.byContradiction fun hc => ?_
        rw [List.getElem?_eq_none (by omega)] at hr
        cases hr
      simp [List.getElem?_set_self hlt]
    · cases h
  · rename_i hn
    rw [if_neg hn, if_neg hn]
    dsimp only
    generalize ch.requested = qs at h ⊢
    induction qs with
    | nil => simp at h
    | cons q t ih =>
      simp only [List.map_cons, List.find?_cons] at h ⊢
      by_cases hq : (q.1 == n) = true
      · simp only [hq, Option.map_some, Option.some.injEq] at h
        rw [if_pos hq]
        simp only [hq, Option.map_some]
        rw [h]
      · simp only [Bool.not_eq_true] at hq
        simp only [hq] at h
        rw [if_neg (by simp [hq])]
        simp only [hq]
        exact ih h

theorem setRun_keys (ch : Chain) (n : Nat) (f : LinkRun → LinkRun) : (ch.setRun n f).keys = ch.keys := by
  unfold Chain.setRun
  split <;> rfl

theorem setRun_closed (ch : Chain) (n : Nat) (f : LinkRun → LinkRun) : (ch.setRun n f).closed = ch.closed := by
  unfold Chain.setRun
  split <;> rfl

theorem setRun_expired (ch : Chain) (n : Nat) (f : LinkRun → LinkRun) : (ch.setRun n f).expired = ch.expired := by
  unfold Chain.setRun
  split <;> rfl

theorem setRun_status (ch : Chain) (n : Nat) (f : LinkRun → LinkRun) :
    (ch.setRun n f).status = ch.status ∧ (ch.setRun n f).firstFail = ch.firstFail := by
  unfold Chain.setRun
  split <;> exact ⟨rfl, rfl⟩

/-- Another Link's record is left alone. -/
theorem link_setRun_other {ch : Chain} {n m : Nat} (f : LinkRun → LinkRun) (h : m ≠ n) : (ch.setRun n f).link m = ch.link m := by
  unfold Chain.setRun
  by_cases hn : n < 32
  · rw [if_pos hn]
    cases hc : ch.links[n]? with
    | none => rfl
    | some r =>
      unfold Chain.link
      dsimp only
      rw [List.getElem?_set_ne (Ne.symm h)]
  · rw [if_neg hn]
    unfold Chain.link
    dsimp only
    generalize ch.requested = qs
    split
    · rfl
    · congr 1
      induction qs with
      | nil => rfl
      | cons q t ih =>
        simp only [List.map_cons, List.find?_cons]
        by_cases hq : (q.1 == n) = true
        · have hm : (q.1 == m) = false := by
            simp only [beq_iff_eq] at hq
            simp only [beq_eq_false_iff_ne]
            omega
          simp only [hq, if_true, hm, ih]
        · simp only [Bool.not_eq_true] at hq
          rw [if_neg (by simp [hq])]
          by_cases hm : (q.1 == m) = true
          · simp only [hm]
          · simp only [Bool.not_eq_true] at hm
            simp only [hm]
            exact ih

/-- What a change of one Chain context, and of the dispatcher's counters, leaves alone. -/
theorem quiet_modifyChain (c : Nat) (f : Chain → Chain) (s : State) :
    quiet (modifyChain c f s) = quiet { s with disp := (modifyChain c f s).disp } := rfl

/-! ### Scanning -/

/-- One visit of a scan keeps the Chain's key records and every Link that is not PENDING. -/
theorem scan_foldl (f : Chain × Nat → Nat → Chain × Nat)
    (hf : ∀ acc m, m < 32 → (f acc m).1.keys = acc.1.keys ∧ (f acc m).1.closed = acc.1.closed ∧
      ∀ n l r, acc.1.link n = some (l, r) → r.st ≠ .pending → (f acc m).1.link n = some (l, r))
    (ns : List Nat) (hn : ∀ m ∈ ns, m < 32) (acc : Chain × Nat) :
    (ns.foldl f acc).1.keys = acc.1.keys ∧ (ns.foldl f acc).1.closed = acc.1.closed ∧
      ∀ n l r, acc.1.link n = some (l, r) → r.st ≠ .pending → (ns.foldl f acc).1.link n = some (l, r) := by
  induction ns generalizing acc with
  | nil => exact ⟨rfl, rfl, fun _ _ _ h _ => h⟩
  | cons m t ih =>
    obtain ⟨h1, h2, h3⟩ := hf acc m (hn m List.mem_cons_self)
    obtain ⟨k1, k2, k3⟩ := ih (fun j hj => hn j (List.mem_cons_of_mem _ hj)) (f acc m)
    exact ⟨k1.trans h1, k2.trans h2, fun n l r hl hr => k3 n l r (h3 n l r hl hr) hr⟩

/-- A scan keeps every Link that is not PENDING, and the Chain's key records. -/
theorem getChain_rescan {s : State} {c : Nat} {ch : Chain} (h : getChain s c = some ch) :
    ∃ ch', getChain (rescan c s) c = some ch' ∧ ch'.keys = ch.keys ∧ ch'.closed = ch.closed ∧
      ∀ n l r, ch.link n = some (l, r) → r.st ≠ .pending → ch'.link n = some (l, r) := by
  unfold rescan
  rw [h]
  dsimp only
  split
  · exact ⟨ch, h, rfl, rfl, fun _ _ _ hl _ => hl⟩
  · refine ⟨_, getChain_putChain _ _ _, scan_foldl _ (fun acc m hm => ?_) _ (fun m hm => ?_) (ch, s.disp.readySeq)⟩
    · split
      · rename_i l' r' hb hr
        split
        · exact ⟨rfl, rfl, fun _ _ _ hl _ => hl⟩
        · rename_i hp
          have hother : ∀ f n l r, acc.1.link n = some (l, r) → r.st ≠ .pending → (acc.1.setRun m f).link n = some (l, r) := by
            intro f n l r hl hst
            refine (link_setRun_other f ?_).trans hl
            rintro rfl
            unfold Chain.link at hl
            rw [if_pos hm, hb, hr] at hl
            simp only [Option.some.injEq, Prod.mk.injEq] at hl
            exact hp (hl.2 ▸ hst)
          split
          · exact ⟨rfl, rfl, fun _ _ _ hl _ => hl⟩
          · exact ⟨setRun_keys _ _ _, setRun_closed _ _ _, hother _⟩
          · exact ⟨setRun_keys _ _ _, setRun_closed _ _ _, hother _⟩
      · exact ⟨rfl, rfl, fun _ _ _ hl _ => hl⟩
    · simp only [List.mem_range] at hm
      omega

/-! ### What ending a Link may touch -/

/-- `t` differs from `s` in the dispatcher, chain memory, engines, cores and the bucket alone. -/
def Touched (s t : State) : Prop :=
  t = { s with disp := t.disp, chainMem := t.chainMem, engines := t.engines, cores := t.cores, energy := t.energy }

theorem touched_refl (s : State) : Touched s s := rfl

theorem touched_trans {s t u : State} (h : Touched s t) (k : Touched t u) : Touched s u := by
  have e : ({ t with disp := u.disp, chainMem := u.chainMem, engines := u.engines, cores := u.cores, energy := u.energy } : State) =
      { s with disp := u.disp, chainMem := u.chainMem, engines := u.engines, cores := u.cores, energy := u.energy } := by
    rw [h]
  exact k.trans e

theorem touched_modifyChain (c : Nat) (f : Chain → Chain) (s : State) : Touched s (modifyChain c f s) := rfl
theorem touched_putChain (c : Nat) (ch : Chain) (s : State) : Touched s (putChain c ch s) := rfl
theorem touched_noteFinal (c : Nat) (s : State) : Touched s (noteFinal c s) := by
  unfold noteFinal
  split
  · rfl
  · split <;> rfl

/-- Whatever becomes of a Chain whose Links are final, its context keeps all but the marks of having finished. -/
theorem getChain_noteFinal {s : State} {c : Nat} {ch : Chain} (h : getChain s c = some ch) :
    ∃ b n, getChain (noteFinal c s) c = some { ch with finished := b, finSeq := n } := by
  unfold noteFinal
  rw [h]
  dsimp only
  split
  · refine ⟨true, if ch.finished then ch.finSeq else s.disp.finishSeq, ?_⟩
    refine (getChain_modifyChain _ h).trans ?_
    split
    · rename_i hf
      rw [← hf]
    · rfl
  · exact ⟨ch.finished, ch.finSeq, h⟩

theorem mem_noteFinal (c : Nat) (s : State) : (noteFinal c s).chainMem = s.chainMem ∧ (noteFinal c s).energy = s.energy := by
  unfold noteFinal
  split
  · exact ⟨rfl, rfl⟩
  · split <;> exact ⟨rfl, rfl⟩

/-- A request's report touches no Chain. -/
theorem disp_reportRequest (c n st : Nat) (v : Bool) (s : State) :
    (reportRequest c n st v s).disp = s.disp ∧ (reportRequest c n st v s).chainMem = s.chainMem ∧
      (reportRequest c n st v s).energy = s.energy := by
  unfold reportRequest
  dsimp only
  split <;> exact ⟨rfl, rfl, rfl⟩

theorem getChain_reportRequest (c n st : Nat) (v : Bool) (s : State) (d : Nat) :
    getChain (reportRequest c n st v s) d = getChain s d :=
  congrArg (fun x : Dispatcher => SMap.find x.chains d) (disp_reportRequest c n st v s).1

theorem touched_leaveEngine (c n : Nat) (w : Bool) (s : State) : Touched s (leaveEngine c n w s) := rfl
theorem touched_reportRequest (c n st : Nat) (v : Bool) (s : State) : Touched s (reportRequest c n st v s) := by
  unfold reportRequest
  dsimp only
  split <;> rfl

theorem touched_writeOut (ch : Chain) (l : LinkWords) (d : Bytes) (s : State) : Touched s (writeOut ch l d s) := by
  unfold writeOut writeChain
  split <;> rfl

theorem touched_rescan (c : Nat) (s : State) : Touched s (rescan c s) := by
  unfold rescan
  split
  · rfl
  · split
    · rfl
    · dsimp only
      rfl

theorem touched_closeHold (s : State) : Touched s (closeHold s) := by
  unfold closeHold
  split <;> rfl

theorem touched_dropHold (c : Nat) (s : State) : Touched s (dropHold c s) := by
  unfold dropHold
  split
  · rfl
  · split
    · rfl
    · split
      · split
        · rfl
        · exact touched_closeHold s
      · exact touched_closeHold s

theorem touched_foldl {α : Type} (f : State → α → State) (h : ∀ s a, Touched s (f s a)) (l : List α) (s : State) :
    Touched s (l.foldl f s) := by
  induction l generalizing s with
  | nil => rfl
  | cons a t ih => exact touched_trans (h s a) (ih _)

theorem touched_skipWaiting (c : Nat) (s : State) : Touched s (skipWaiting c s) := by
  unfold skipWaiting
  split
  · rfl
  · dsimp only
    refine touched_trans ?_ (touched_dropHold _ _)
    exact touched_trans (touched_putChain _ _ _) (touched_foldl _ (fun s q => touched_reportRequest _ _ _ _ s) _ _)

theorem touched_closeChain (c st f : Nat) (s : State) : Touched s (closeChain c st f s) :=
  touched_trans (touched_modifyChain _ _ _) (touched_skipWaiting _ _)

/-- Nothing that ends a Link but its output writes chain memory. -/
theorem quiet_of_touched {s t : State} (h : Touched s t) :
    quiet t = quiet { s with disp := t.disp, chainMem := t.chainMem, engines := t.engines, cores := t.cores, energy := t.energy } :=
  congrArg quiet h

/-- States that differ in what the end of a command writes give the same parts to a state. -/
theorem quiet_with_four {u v : State} (h : quiet u = quiet v) (s : State) :
    quiet { s with disp := u.disp, chainMem := u.chainMem, engines := u.engines, cores := u.cores } =
      quiet { s with disp := v.disp, chainMem := v.chainMem, engines := v.engines, cores := v.cores } :=
  congrArg (fun q : State =>
    { quiet s with disp := q.disp, chainMem := q.chainMem, engines := q.engines, cores := q.cores }) h

theorem quiet_with_energy {u v : State} (h : quiet u = quiet v) (s : State) :
    quiet { s with disp := u.disp, engines := u.engines, cores := u.cores, energy := u.energy } =
      quiet { s with disp := v.disp, engines := v.engines, cores := v.cores, energy := v.energy } :=
  congrArg (fun q : State => { quiet s with disp := q.disp, engines := q.engines, cores := q.cores, energy := q.energy }) h

theorem chainMem_rescan (c : Nat) (s : State) : (rescan c s).chainMem = s.chainMem ∧ (rescan c s).energy = s.energy := by
  unfold rescan
  split
  · exact ⟨rfl, rfl⟩
  · split
    · exact ⟨rfl, rfl⟩
    · exact ⟨rfl, rfl⟩

/-! ### A Link that is DONE -/

theorem linkCtx_chain {s : State} {c n op : Nat} {x : LinkCtx} (h : linkCtx s c n op = some x) :
    getChain s c = some x.ch ∧ x.ch.link n = some (x.l, x.r) ∧ x.r.st = .issued ∧ x.l.opcode = op := by
  unfold linkCtx issuedLink at h
  split at h
  · cases h
  · rename_i ch l r hi
    simp only [Option.some.injEq] at h
    subst h
    split at hi
    · cases hi
    · rename_i ch' hc
      split at hi
      · cases hi
      · rename_i l' r' hl
        split at hi
        · rename_i hcond
          simp only [Option.some.injEq, Prod.mk.injEq] at hi
          obtain ⟨rfl, rfl, rfl⟩ := hi
          exact ⟨hc, hl, hcond.1, hcond.2⟩
        · cases hi

theorem stateOf_of_link {ch : Chain} {n : Nat} {l : LinkWords} {r : LinkRun} (h : ch.link n = some (l, r)) : ch.stateOf n = r.st := by
  unfold Chain.stateOf
  rw [h]

/-- The chain memory after a result has been written, and nothing else of the state. -/
theorem disp_writeOut (ch : Chain) (l : LinkWords) (d : Bytes) (s : State) :
    (writeOut ch l d s).disp = s.disp ∧ (writeOut ch l d s).energy = s.energy := by
  unfold writeOut writeChain
  split <;> exact ⟨rfl, rfl⟩

theorem linkDone_doneLink {s : State} {c n op : Nat} {x : LinkCtx} (verify : Option Bool) (out : Bytes) (key : Option (Nat × Nat))
    (h : linkCtx s c n op = some x) : LinkDone s c n x verify out key (settle (doneLink c n verify out key s)) := by
  obtain ⟨hc, hl, hst, -⟩ := linkCtx_chain h
  unfold doneLink
  rw [hc]
  dsimp -zeta only
  rw [hl]
  dsimp -zeta only
  extract_lets s1 start s2 s3 s4 s5
  have h1 : getChain s1 c = some x.ch := by
    unfold s1
    split
    · exact hc
    · exact (congrArg (fun d : Dispatcher => SMap.find d.chains c) (disp_writeOut _ _ _ _).1).trans hc
  have h2 : ∃ ch, getChain s2 c = some ch ∧ ch.link n = some (x.l, x.r) ∧ ch.keys = x.ch.keys ++ keyRecord x.l key := by
    unfold s2
    cases key with
    | none => exact ⟨_, h1, hl, by simp [keyRecord]⟩
    | some k => exact ⟨_, getChain_modifyChain _ h1, hl, rfl⟩
  obtain ⟨ch, e1, e2, e3⟩ := h2
  have h4 : getChain s4 c = some (ch.setRun n fun r => { r with st := .done, verify := verify }) :=
    getChain_modifyChain _ (show getChain s3 c = some ch from e1)
  have h5 : getChain s5 c = some (ch.setRun n fun r => { r with st := .done, verify := verify }) := by
    unfold s5
    split
    · exact h4
    · exact (getChain_reportRequest _ _ _ _ _ _).trans h4
  obtain ⟨ch', f1, f2, -, f4⟩ := getChain_rescan h5
  obtain ⟨fin, seq, hn⟩ := getChain_noteFinal f1
  have hlink := f4 n _ _ (link_setRun _ e2) (by simp)
  have t5 : Touched s1 s5 := by
    refine touched_trans (t := s4) ?_ ?_
    · refine touched_trans (t := s2) ?_ (touched_trans (touched_leaveEngine _ _ _ _) (touched_modifyChain _ _ _))
      unfold s2
      split
      · exact touched_modifyChain _ _ _
      · exact touched_refl _
    · unfold s5
      split
      · exact touched_refl _
      · exact touched_reportRequest _ _ _ _ _
  have t6 : Touched s1 (noteFinal c (rescan c s5)) :=
    touched_trans t5 (touched_trans (touched_rescan _ _) (touched_noteFinal _ _))
  have m5 : s5.chainMem = s1.chainMem ∧ s5.energy = s1.energy := by
    have m4 : s4.chainMem = s1.chainMem ∧ s4.energy = s1.energy := by
      cases key with
      | none => exact ⟨rfl, rfl⟩
      | some k => exact ⟨rfl, rfl⟩
    unfold s5
    split
    · exact m4
    · exact ⟨(disp_reportRequest _ _ _ _ _).2.1.trans m4.1, (disp_reportRequest _ _ _ _ _).2.2.trans m4.2⟩
  have m6 : (noteFinal c (rescan c s5)).chainMem = s1.chainMem ∧ (noteFinal c (rescan c s5)).energy = s1.energy :=
    ⟨((mem_noteFinal c _).1.trans (chainMem_rescan c s5).1).trans m5.1,
      ((mem_noteFinal c _).2.trans (chainMem_rescan c s5).2).trans m5.2⟩
  have t1 : Touched s s1 := by
    unfold s1
    split
    · exact touched_refl s
    · exact touched_writeOut _ _ _ _
  have en : (noteFinal c (rescan c s5)).energy = s.energy := by
    rw [m6.2]
    unfold s1
    split
    · rfl
    · exact (disp_writeOut _ _ _ _).2
  have hq := quiet_of_touched (touched_trans t1 t6)
  rw [en] at hq
  refine ⟨?_, ?_, ?_⟩
  · have hg : getChain (settle (noteFinal c (rescan c s5))) c = getChain (noteFinal c (rescan c s5)) c :=
      congrArg (fun m => SMap.find m c) (settle_disp_chains _)
    rw [hg, hn, Option.map_some]
    have hfin : ∀ ch'' : Chain, ch''.link n = some (x.l, { x.r with st := .done, verify := verify }) → ch''.keys = ch.keys →
        (ch''.stateOf n, (ch''.link n).map (fun y => y.2.verify), ch''.keys) = (.done, some verify, ch.keys) := by
      intro ch'' hl'' hk''
      rw [stateOf_of_link hl'', hl'', hk'']
      rfl
    rw [← e3]
    congr 1
    exact hfin _ hlink (f2.trans (setRun_keys _ _ _))
  · rw [settle_chainMem]
    exact m6.1
  · rw [quiet_settle]
    exact hq.trans (quiet_with_four (quiet_settle _).symm s)

/-! ### A Link that is FAILED -/

theorem chains_foldl_report (c : Nat) (qs : List (Nat × LinkWords × LinkRun)) (st : Nat) (v : Bool) (s : State) :
    (qs.foldl (fun s q => reportRequest c q.1 st v s) s).disp = s.disp ∧
      (qs.foldl (fun s q => reportRequest c q.1 st v s) s).chainMem = s.chainMem := by
  induction qs generalizing s with
  | nil => exact ⟨rfl, rfl⟩
  | cons q t ih =>
    have h := disp_reportRequest c q.1 st v s
    exact ⟨(ih _).1.trans h.1, (ih _).2.trans h.2.1⟩

theorem chains_dropHold (c : Nat) (s : State) : (dropHold c s).disp.chains = s.disp.chains ∧ (dropHold c s).chainMem = s.chainMem := by
  have h : (closeHold s).disp.chains = s.disp.chains ∧ (closeHold s).chainMem = s.chainMem := by
    unfold closeHold
    split <;> exact ⟨rfl, rfl⟩
  unfold dropHold
  split
  · exact ⟨rfl, rfl⟩
  · split
    · exact ⟨rfl, rfl⟩
    · split
      · split
        · exact ⟨rfl, rfl⟩
        · exact h
      · exact h

/-- Links not yet issued become SKIPPED. -/
def skipRun (r : LinkRun) : LinkRun := if r.st = .pending ∨ r.st = .ready then { r with st := .skipped } else r

theorem getChain_skipWaiting {s : State} {c : Nat} {ch : Chain} (h : getChain s c = some ch) :
    getChain (skipWaiting c s) c = some { ch with
      links := ch.links.map skipRun, requested := ch.requested.map fun q => (q.1, q.2.1, skipRun q.2.2) } ∧
    (skipWaiting c s).chainMem = s.chainMem := by
  unfold skipWaiting
  rw [h]
  dsimp only
  refine ⟨?_, ?_⟩
  · unfold getChain
    rw [(chains_dropHold _ _).1, (chains_foldl_report _ _ _ _ _).1]
    exact getChain_putChain _ _ _
  · rw [(chains_dropHold _ _).2, (chains_foldl_report _ _ _ _ _).2]
    rfl

/-- A Link that has been issued stays as it is when the rest of its Chain is skipped. -/
theorem link_skip {ch : Chain} {n : Nat} {l : LinkWords} {r : LinkRun} (h : ch.link n = some (l, r)) (hn : n < 32)
    (hp : r.st ≠ .pending) (hr : r.st ≠ .ready) :
    ({ ch with links := ch.links.map skipRun, requested := ch.requested.map fun q => (q.1, q.2.1, skipRun q.2.2) } : Chain).link n =
      some (l, r) := by
  unfold Chain.link at h ⊢
  rw [if_pos hn] at h ⊢
  dsimp only
  rw [List.getElem?_map]
  split at h
  · rename_i l' r' hb hl
    simp only [Option.some.injEq, Prod.mk.injEq] at h
    obtain ⟨rfl, rfl⟩ := h
    rw [hb, hl, Option.map_some]
    unfold skipRun
    rw [if_neg (by simp [hp, hr])]
  · cases h

theorem linkFailed_failLink {s : State} {c n op : Nat} {x : LinkCtx} (st : Nat) (h : linkCtx s c n op = some x) :
    LinkFailed s c n x st (settle (failLink c n st s)) := by
  obtain ⟨hc, hl, hst, -⟩ := linkCtx_chain h
  unfold failLink
  extract_lets s1 s2 s3
  have h2 : getChain s2 c = some (x.ch.setRun n fun r => { r with st := .failed }) := getChain_modifyChain _ (show getChain s1 c = _ from hc)
  have l2 := link_setRun (fun r => { r with st := LinkState.failed }) hl
  have t2 : Touched s s2 := touched_trans (touched_leaveEngine _ _ _ _) (touched_modifyChain _ _ _)
  have t3 : Touched s s3 := by
    refine touched_trans t2 ?_
    unfold s3
    split
    · exact touched_closeChain _ _ _ _
    · exact touched_reportRequest _ _ _ _ _
  have m3 : s3.chainMem = s.chainMem := by
    unfold s3
    split
    · exact (getChain_skipWaiting (getChain_modifyChain _ h2)).2
    · exact (disp_reportRequest _ _ _ _ _).2.1
  have h3 : ∃ ch, getChain s3 c = some ch ∧ ch.stateOf n = .failed ∧
      (n < 32 → x.ch.closed = false → (ch.closed, ch.status, ch.firstFail) = (if x.ch.expired then (true, 0x0601, 0xFF) else (true, st, n)) ∧
        ∀ r ∈ ch.links, r.st ≠ .pending ∧ r.st ≠ .ready) := by
    unfold s3
    split
    · rename_i hn
      refine ⟨_, (getChain_skipWaiting (getChain_modifyChain _ h2)).1, ?_, fun _ hcl => ⟨?_, ?_⟩⟩
      · refine stateOf_of_link (link_skip (l := x.l) (r := { x.r with st := .failed }) ?_ hn (by simp) (by simp))
        split
        · exact l2
        · split <;> exact l2
      · dsimp only
        rw [setRun_closed, hcl, if_neg (by simp), setRun_expired]
        split <;> rfl
      · dsimp only
        intro r hr
        obtain ⟨r', -, rfl⟩ := List.mem_map.mp hr
        unfold skipRun
        split
        · exact ⟨by simp, by simp⟩
        · rename_i hh
          exact ⟨fun e => hh (.inl e), fun e => hh (.inr e)⟩
    · rename_i hn
      exact ⟨_, (getChain_reportRequest _ _ _ _ _ _).trans h2, stateOf_of_link l2, fun hlt => absurd hlt hn⟩
  obtain ⟨ch, e1, e2, e3⟩ := h3
  obtain ⟨fin, seq, hn'⟩ := getChain_noteFinal e1
  have hf : getChain (settle (noteFinal c s3)) c = some { ch with finished := fin, finSeq := seq } :=
    (congrArg (fun m => SMap.find m c) (settle_disp_chains _)).trans hn'
  refine ⟨?_, fun hn hcl => ⟨?_, ?_⟩, ?_⟩
  · rw [hf, Option.map_some]
    exact congrArg some e2
  · rw [hf, Option.map_some]
    exact congrArg some (e3 hn hcl).1
  · intro ch' hch' r hr
    rw [hf, Option.some.injEq] at hch'
    subst hch'
    exact (e3 hn hcl).2 r hr
  · rw [quiet_settle]
    have hq := quiet_of_touched (touched_trans t3 (touched_noteFinal c s3))
    have hm : (noteFinal c s3).chainMem = s.chainMem := (mem_noteFinal c s3).1.trans m3
    rw [hm] at hq
    exact hq.trans (quiet_with_energy (quiet_settle _).symm s)

/-- A Link ends as its operation's result gives. -/
theorem linkEnds_endLink {s : State} {c n op : Nat} {x : LinkCtx} (res : OpResult) (key : Bytes → Option (Nat × Nat))
    (h : linkCtx s c n op = some x) :
    LinkEnds s c n x res key (settle (endLink c n x.l.soft res (match res with
      | .done out => key out
      | _ => none) s)) := by
  unfold LinkEnds endLink
  cases res with
  | done out => exact linkDone_doneLink _ _ _ h
  | verified ok m out =>
    cases ok with
    | true => exact linkDone_doneLink _ _ _ h
    | false =>
      dsimp only
      split
      · exact linkDone_doneLink _ _ _ h
      · exact linkFailed_failLink _ h
  | failed st => exact linkFailed_failLink _ h

/-- An operation row with no key output. -/
theorem ends_runLink {i : Instr} {s : State} {op c n : Nat} {x : LinkCtx} {f : LinkCtx → OpResult}
    (hi : exec i s = complete (runLink op c n f s)) (h : linkCtx s c n op = some x) :
    Ends i s fun t => LinkEnds s c n x (nonceGate x (f x)) plainOut t := by
  refine ends_of_complete hi ?_
  unfold runLink
  rw [h]
  have := linkEnds_endLink (nonceGate x (f x)) plainOut h
  dsimp only
  revert this
  generalize nonceGate x (f x) = res
  cases res <;> exact id

/-- An operation that takes no nonce is not held up by one. -/
theorem nonceGate_plain {x : LinkCtx} {res : OpResult} (h : makesNonce x.l.opcode x.p = false) : nonceGate x res = res := by
  unfold nonceGate
  rw [h]
  rfl

/-- An operation row with no key output and no nonce. -/
theorem ends_runPlain {i : Instr} {s : State} {op c n : Nat} {x : LinkCtx} {f : LinkCtx → OpResult}
    (hi : exec i s = complete (runLink op c n f s)) (h : linkCtx s c n op = some x) (hm : makesNonce op x.p = false) :
    Ends i s fun t => LinkEnds s c n x (f x) plainOut t := by
  have e := ends_runLink hi h
  rwa [nonceGate_plain (by rw [(linkCtx_chain h).2.2.2]; exact hm)] at e

/-- An operation row whose output is a protected key. -/
theorem ends_runKeyLink {i : Instr} {s : State} {op c n : Nat} {x : LinkCtx} {f : LinkCtx → OpResult} {attr : LinkCtx → Nat}
    {len : LinkCtx → Bytes → Nat} (hi : exec i s = complete (runKeyLink op c n f attr len s)) (h : linkCtx s c n op = some x) :
    Ends i s fun t => LinkEnds s c n x (nonceGate x (f x)) (fun out => some (attr x, len x out)) t := by
  refine ends_of_complete hi ?_
  unfold runKeyLink
  rw [h]
  have := linkEnds_endLink (nonceGate x (f x)) (fun out => some (attr x, len x out)) h
  dsimp only
  revert this
  generalize nonceGate x (f x) = res
  cases res <;> exact id

end Sys2Proof.Machine
end

