-- ==== Sys2Proof/Laws/State.lean ====
section
/-!
SUPPORT. What each named update of the state leaves alone: one lemma a field, so that no proof unfolds a record update.
-/
namespace Sys2Proof.Machine

/-! ### `send` -/

@[simp] theorem send_modes (o : Sent) (s : State) : (send o s).modes = s.modes := rfl
@[simp] theorem send_fuses (o : Sent) (s : State) : (send o s).fuses = s.fuses := rfl
@[simp] theorem send_boot (o : Sent) (s : State) : (send o s).boot = s.boot := rfl
@[simp] theorem send_disp (o : Sent) (s : State) : (send o s).disp = s.disp := rfl
@[simp] theorem send_chainMem (o : Sent) (s : State) : (send o s).chainMem = s.chainMem := rfl
@[simp] theorem send_scratch (o : Sent) (s : State) : (send o s).scratch = s.scratch := rfl
@[simp] theorem send_epochs (o : Sent) (s : State) : (send o s).epochs = s.epochs := rfl
@[simp] theorem send_engines (o : Sent) (s : State) : (send o s).engines = s.engines := rfl
@[simp] theorem send_energy (o : Sent) (s : State) : (send o s).energy = s.energy := rfl
@[simp] theorem send_flow (o : Sent) (s : State) : (send o s).flow = s.flow := rfl
@[simp] theorem send_host (o : Sent) (s : State) : (send o s).host = s.host := rfl
@[simp] theorem send_tenants (o : Sent) (s : State) : (send o s).tenants = s.tenants := rfl
@[simp] theorem send_keys (o : Sent) (s : State) : (send o s).keys = s.keys := rfl
@[simp] theorem send_rng (o : Sent) (s : State) : (send o s).rng = s.rng := rfl
@[simp] theorem send_cores (o : Sent) (s : State) : (send o s).cores = s.cores := rfl
@[simp] theorem send_memTest (o : Sent) (s : State) : (send o s).memTest = s.memTest := rfl
@[simp] theorem send_access (o : Sent) (s : State) : (send o s).access = s.access := rfl
@[simp] theorem send_mram (o : Sent) (s : State) : (send o s).mram = s.mram := rfl
@[simp] theorem send_images (o : Sent) (s : State) : (send o s).images = s.images := rfl
@[simp] theorem send_locket (o : Sent) (s : State) : (send o s).locket = s.locket := rfl
@[simp] theorem send_sec (o : Sent) (s : State) : (send o s).sec = s.sec := rfl
@[simp] theorem send_tamper (o : Sent) (s : State) : (send o s).tamper = s.tamper := rfl
@[simp] theorem send_life (o : Sent) (s : State) : (send o s).life = s.life := rfl
@[simp] theorem send_faults (o : Sent) (s : State) : (send o s).faults = s.faults := rfl
@[simp] theorem send_log (o : Sent) (s : State) : (send o s).log = s.log := rfl
@[simp] theorem send_custody (o : Sent) (s : State) : (send o s).custody = s.custody := rfl
@[simp] theorem send_dict (o : Sent) (s : State) : (send o s).dict = s.dict := rfl
@[simp] theorem send_clasp (o : Sent) (s : State) : (send o s).clasp = s.clasp := rfl
@[simp] theorem send_twin (o : Sent) (s : State) : (send o s).twin = s.twin := rfl
@[simp] theorem send_domain (o : Sent) (s : State) : (send o s).domain = s.domain := rfl
@[simp] theorem send_pins (o : Sent) (s : State) : (send o s).pins = s.pins := rfl
@[simp] theorem send_telemetry (o : Sent) (s : State) : (send o s).telemetry = s.telemetry := rfl
@[simp] theorem send_tap (o : Sent) (s : State) : (send o s).tap = s.tap := rfl
@[simp] theorem send_reply (o : Sent) (s : State) : (send o s).reply = s.reply := rfl
@[simp] theorem send_freeUses (o : Sent) (s : State) : (send o s).freeUses = s.freeUses := rfl
@[simp] theorem send_pending (o : Sent) (s : State) : (send o s).pending = s.pending := rfl

/-! ### `setMailbox` -/

@[simp] theorem setMailbox_modes (fn : Nat) (m : Mailbox) (s : State) : (setMailbox fn m s).modes = s.modes := rfl
@[simp] theorem setMailbox_fuses (fn : Nat) (m : Mailbox) (s : State) : (setMailbox fn m s).fuses = s.fuses := rfl
@[simp] theorem setMailbox_boot (fn : Nat) (m : Mailbox) (s : State) : (setMailbox fn m s).boot = s.boot := rfl
@[simp] theorem setMailbox_disp (fn : Nat) (m : Mailbox) (s : State) : (setMailbox fn m s).disp = s.disp := rfl
@[simp] theorem setMailbox_chainMem (fn : Nat) (m : Mailbox) (s : State) : (setMailbox fn m s).chainMem = s.chainMem := rfl
@[simp] theorem setMailbox_scratch (fn : Nat) (m : Mailbox) (s : State) : (setMailbox fn m s).scratch = s.scratch := rfl
@[simp] theorem setMailbox_epochs (fn : Nat) (m : Mailbox) (s : State) : (setMailbox fn m s).epochs = s.epochs := rfl
@[simp] theorem setMailbox_engines (fn : Nat) (m : Mailbox) (s : State) : (setMailbox fn m s).engines = s.engines := rfl
@[simp] theorem setMailbox_energy (fn : Nat) (m : Mailbox) (s : State) : (setMailbox fn m s).energy = s.energy := rfl
@[simp] theorem setMailbox_flow (fn : Nat) (m : Mailbox) (s : State) : (setMailbox fn m s).flow = s.flow := rfl
@[simp] theorem setMailbox_host (fn : Nat) (m : Mailbox) (s : State) : (setMailbox fn m s).host = s.host := rfl
@[simp] theorem setMailbox_keys (fn : Nat) (m : Mailbox) (s : State) : (setMailbox fn m s).keys = s.keys := rfl
@[simp] theorem setMailbox_rng (fn : Nat) (m : Mailbox) (s : State) : (setMailbox fn m s).rng = s.rng := rfl
@[simp] theorem setMailbox_cores (fn : Nat) (m : Mailbox) (s : State) : (setMailbox fn m s).cores = s.cores := rfl
@[simp] theorem setMailbox_memTest (fn : Nat) (m : Mailbox) (s : State) : (setMailbox fn m s).memTest = s.memTest := rfl
@[simp] theorem setMailbox_access (fn : Nat) (m : Mailbox) (s : State) : (setMailbox fn m s).access = s.access := rfl
@[simp] theorem setMailbox_mram (fn : Nat) (m : Mailbox) (s : State) : (setMailbox fn m s).mram = s.mram := rfl
@[simp] theorem setMailbox_images (fn : Nat) (m : Mailbox) (s : State) : (setMailbox fn m s).images = s.images := rfl
@[simp] theorem setMailbox_locket (fn : Nat) (m : Mailbox) (s : State) : (setMailbox fn m s).locket = s.locket := rfl
@[simp] theorem setMailbox_sec (fn : Nat) (m : Mailbox) (s : State) : (setMailbox fn m s).sec = s.sec := rfl
@[simp] theorem setMailbox_tamper (fn : Nat) (m : Mailbox) (s : State) : (setMailbox fn m s).tamper = s.tamper := rfl
@[simp] theorem setMailbox_life (fn : Nat) (m : Mailbox) (s : State) : (setMailbox fn m s).life = s.life := rfl
@[simp] theorem setMailbox_faults (fn : Nat) (m : Mailbox) (s : State) : (setMailbox fn m s).faults = s.faults := rfl
@[simp] theorem setMailbox_log (fn : Nat) (m : Mailbox) (s : State) : (setMailbox fn m s).log = s.log := rfl
@[simp] theorem setMailbox_custody (fn : Nat) (m : Mailbox) (s : State) : (setMailbox fn m s).custody = s.custody := rfl
@[simp] theorem setMailbox_dict (fn : Nat) (m : Mailbox) (s : State) : (setMailbox fn m s).dict = s.dict := rfl
@[simp] theorem setMailbox_clasp (fn : Nat) (m : Mailbox) (s : State) : (setMailbox fn m s).clasp = s.clasp := rfl
@[simp] theorem setMailbox_twin (fn : Nat) (m : Mailbox) (s : State) : (setMailbox fn m s).twin = s.twin := rfl
@[simp] theorem setMailbox_domain (fn : Nat) (m : Mailbox) (s : State) : (setMailbox fn m s).domain = s.domain := rfl
@[simp] theorem setMailbox_pins (fn : Nat) (m : Mailbox) (s : State) : (setMailbox fn m s).pins = s.pins := rfl
@[simp] theorem setMailbox_telemetry (fn : Nat) (m : Mailbox) (s : State) : (setMailbox fn m s).telemetry = s.telemetry := rfl
@[simp] theorem setMailbox_tap (fn : Nat) (m : Mailbox) (s : State) : (setMailbox fn m s).tap = s.tap := rfl
@[simp] theorem setMailbox_sent (fn : Nat) (m : Mailbox) (s : State) : (setMailbox fn m s).sent = s.sent := rfl
@[simp] theorem setMailbox_reply (fn : Nat) (m : Mailbox) (s : State) : (setMailbox fn m s).reply = s.reply := rfl
@[simp] theorem setMailbox_freeUses (fn : Nat) (m : Mailbox) (s : State) : (setMailbox fn m s).freeUses = s.freeUses := rfl
@[simp] theorem setMailbox_pending (fn : Nat) (m : Mailbox) (s : State) : (setMailbox fn m s).pending = s.pending := rfl

/-! ### `putSource` -/

@[simp] theorem putSource_modes (i : Nat) (x : Source) (s : State) : (putSource i x s).modes = s.modes := rfl
@[simp] theorem putSource_fuses (i : Nat) (x : Source) (s : State) : (putSource i x s).fuses = s.fuses := rfl
@[simp] theorem putSource_boot (i : Nat) (x : Source) (s : State) : (putSource i x s).boot = s.boot := rfl
@[simp] theorem putSource_disp (i : Nat) (x : Source) (s : State) : (putSource i x s).disp = s.disp := rfl
@[simp] theorem putSource_chainMem (i : Nat) (x : Source) (s : State) : (putSource i x s).chainMem = s.chainMem := rfl
@[simp] theorem putSource_scratch (i : Nat) (x : Source) (s : State) : (putSource i x s).scratch = s.scratch := rfl
@[simp] theorem putSource_epochs (i : Nat) (x : Source) (s : State) : (putSource i x s).epochs = s.epochs := rfl
@[simp] theorem putSource_engines (i : Nat) (x : Source) (s : State) : (putSource i x s).engines = s.engines := rfl
@[simp] theorem putSource_energy (i : Nat) (x : Source) (s : State) : (putSource i x s).energy = s.energy := rfl
@[simp] theorem putSource_flow (i : Nat) (x : Source) (s : State) : (putSource i x s).flow = s.flow := rfl
@[simp] theorem putSource_host (i : Nat) (x : Source) (s : State) : (putSource i x s).host = s.host := rfl
@[simp] theorem putSource_tenants (i : Nat) (x : Source) (s : State) : (putSource i x s).tenants = s.tenants := rfl
@[simp] theorem putSource_keys (i : Nat) (x : Source) (s : State) : (putSource i x s).keys = s.keys := rfl
@[simp] theorem putSource_cores (i : Nat) (x : Source) (s : State) : (putSource i x s).cores = s.cores := rfl
@[simp] theorem putSource_memTest (i : Nat) (x : Source) (s : State) : (putSource i x s).memTest = s.memTest := rfl
@[simp] theorem putSource_access (i : Nat) (x : Source) (s : State) : (putSource i x s).access = s.access := rfl
@[simp] theorem putSource_mram (i : Nat) (x : Source) (s : State) : (putSource i x s).mram = s.mram := rfl
@[simp] theorem putSource_images (i : Nat) (x : Source) (s : State) : (putSource i x s).images = s.images := rfl
@[simp] theorem putSource_locket (i : Nat) (x : Source) (s : State) : (putSource i x s).locket = s.locket := rfl
@[simp] theorem putSource_sec (i : Nat) (x : Source) (s : State) : (putSource i x s).sec = s.sec := rfl
@[simp] theorem putSource_tamper (i : Nat) (x : Source) (s : State) : (putSource i x s).tamper = s.tamper := rfl
@[simp] theorem putSource_life (i : Nat) (x : Source) (s : State) : (putSource i x s).life = s.life := rfl
@[simp] theorem putSource_faults (i : Nat) (x : Source) (s : State) : (putSource i x s).faults = s.faults := rfl
@[simp] theorem putSource_log (i : Nat) (x : Source) (s : State) : (putSource i x s).log = s.log := rfl
@[simp] theorem putSource_custody (i : Nat) (x : Source) (s : State) : (putSource i x s).custody = s.custody := rfl
@[simp] theorem putSource_dict (i : Nat) (x : Source) (s : State) : (putSource i x s).dict = s.dict := rfl
@[simp] theorem putSource_clasp (i : Nat) (x : Source) (s : State) : (putSource i x s).clasp = s.clasp := rfl
@[simp] theorem putSource_twin (i : Nat) (x : Source) (s : State) : (putSource i x s).twin = s.twin := rfl
@[simp] theorem putSource_domain (i : Nat) (x : Source) (s : State) : (putSource i x s).domain = s.domain := rfl
@[simp] theorem putSource_pins (i : Nat) (x : Source) (s : State) : (putSource i x s).pins = s.pins := rfl
@[simp] theorem putSource_telemetry (i : Nat) (x : Source) (s : State) : (putSource i x s).telemetry = s.telemetry := rfl
@[simp] theorem putSource_tap (i : Nat) (x : Source) (s : State) : (putSource i x s).tap = s.tap := rfl
@[simp] theorem putSource_sent (i : Nat) (x : Source) (s : State) : (putSource i x s).sent = s.sent := rfl
@[simp] theorem putSource_reply (i : Nat) (x : Source) (s : State) : (putSource i x s).reply = s.reply := rfl
@[simp] theorem putSource_freeUses (i : Nat) (x : Source) (s : State) : (putSource i x s).freeUses = s.freeUses := rfl
@[simp] theorem putSource_pending (i : Nat) (x : Source) (s : State) : (putSource i x s).pending = s.pending := rfl

/-! ### `putSlot` -/

@[simp] theorem putSlot_modes (n : Nat) (sl : Slot) (s : State) : (putSlot n sl s).modes = s.modes := rfl
@[simp] theorem putSlot_fuses (n : Nat) (sl : Slot) (s : State) : (putSlot n sl s).fuses = s.fuses := rfl
@[simp] theorem putSlot_boot (n : Nat) (sl : Slot) (s : State) : (putSlot n sl s).boot = s.boot := rfl
@[simp] theorem putSlot_disp (n : Nat) (sl : Slot) (s : State) : (putSlot n sl s).disp = s.disp := rfl
@[simp] theorem putSlot_chainMem (n : Nat) (sl : Slot) (s : State) : (putSlot n sl s).chainMem = s.chainMem := rfl
@[simp] theorem putSlot_scratch (n : Nat) (sl : Slot) (s : State) : (putSlot n sl s).scratch = s.scratch := rfl
@[simp] theorem putSlot_epochs (n : Nat) (sl : Slot) (s : State) : (putSlot n sl s).epochs = s.epochs := rfl
@[simp] theorem putSlot_engines (n : Nat) (sl : Slot) (s : State) : (putSlot n sl s).engines = s.engines := rfl
@[simp] theorem putSlot_energy (n : Nat) (sl : Slot) (s : State) : (putSlot n sl s).energy = s.energy := rfl
@[simp] theorem putSlot_flow (n : Nat) (sl : Slot) (s : State) : (putSlot n sl s).flow = s.flow := rfl
@[simp] theorem putSlot_host (n : Nat) (sl : Slot) (s : State) : (putSlot n sl s).host = s.host := rfl
@[simp] theorem putSlot_tenants (n : Nat) (sl : Slot) (s : State) : (putSlot n sl s).tenants = s.tenants := rfl
@[simp] theorem putSlot_rng (n : Nat) (sl : Slot) (s : State) : (putSlot n sl s).rng = s.rng := rfl
@[simp] theorem putSlot_cores (n : Nat) (sl : Slot) (s : State) : (putSlot n sl s).cores = s.cores := rfl
@[simp] theorem putSlot_memTest (n : Nat) (sl : Slot) (s : State) : (putSlot n sl s).memTest = s.memTest := rfl
@[simp] theorem putSlot_access (n : Nat) (sl : Slot) (s : State) : (putSlot n sl s).access = s.access := rfl
@[simp] theorem putSlot_mram (n : Nat) (sl : Slot) (s : State) : (putSlot n sl s).mram = s.mram := rfl
@[simp] theorem putSlot_images (n : Nat) (sl : Slot) (s : State) : (putSlot n sl s).images = s.images := rfl
@[simp] theorem putSlot_locket (n : Nat) (sl : Slot) (s : State) : (putSlot n sl s).locket = s.locket := rfl
@[simp] theorem putSlot_sec (n : Nat) (sl : Slot) (s : State) : (putSlot n sl s).sec = s.sec := rfl
@[simp] theorem putSlot_tamper (n : Nat) (sl : Slot) (s : State) : (putSlot n sl s).tamper = s.tamper := rfl
@[simp] theorem putSlot_life (n : Nat) (sl : Slot) (s : State) : (putSlot n sl s).life = s.life := rfl
@[simp] theorem putSlot_faults (n : Nat) (sl : Slot) (s : State) : (putSlot n sl s).faults = s.faults := rfl
@[simp] theorem putSlot_log (n : Nat) (sl : Slot) (s : State) : (putSlot n sl s).log = s.log := rfl
@[simp] theorem putSlot_custody (n : Nat) (sl : Slot) (s : State) : (putSlot n sl s).custody = s.custody := rfl
@[simp] theorem putSlot_dict (n : Nat) (sl : Slot) (s : State) : (putSlot n sl s).dict = s.dict := rfl
@[simp] theorem putSlot_clasp (n : Nat) (sl : Slot) (s : State) : (putSlot n sl s).clasp = s.clasp := rfl
@[simp] theorem putSlot_twin (n : Nat) (sl : Slot) (s : State) : (putSlot n sl s).twin = s.twin := rfl
@[simp] theorem putSlot_domain (n : Nat) (sl : Slot) (s : State) : (putSlot n sl s).domain = s.domain := rfl
@[simp] theorem putSlot_pins (n : Nat) (sl : Slot) (s : State) : (putSlot n sl s).pins = s.pins := rfl
@[simp] theorem putSlot_telemetry (n : Nat) (sl : Slot) (s : State) : (putSlot n sl s).telemetry = s.telemetry := rfl
@[simp] theorem putSlot_tap (n : Nat) (sl : Slot) (s : State) : (putSlot n sl s).tap = s.tap := rfl
@[simp] theorem putSlot_sent (n : Nat) (sl : Slot) (s : State) : (putSlot n sl s).sent = s.sent := rfl
@[simp] theorem putSlot_reply (n : Nat) (sl : Slot) (s : State) : (putSlot n sl s).reply = s.reply := rfl
@[simp] theorem putSlot_freeUses (n : Nat) (sl : Slot) (s : State) : (putSlot n sl s).freeUses = s.freeUses := rfl
@[simp] theorem putSlot_pending (n : Nat) (sl : Slot) (s : State) : (putSlot n sl s).pending = s.pending := rfl

/-! ### `putChain` -/

@[simp] theorem putChain_modes (c : Nat) (ch : Chain) (s : State) : (putChain c ch s).modes = s.modes := rfl
@[simp] theorem putChain_fuses (c : Nat) (ch : Chain) (s : State) : (putChain c ch s).fuses = s.fuses := rfl
@[simp] theorem putChain_boot (c : Nat) (ch : Chain) (s : State) : (putChain c ch s).boot = s.boot := rfl
@[simp] theorem putChain_chainMem (c : Nat) (ch : Chain) (s : State) : (putChain c ch s).chainMem = s.chainMem := rfl
@[simp] theorem putChain_scratch (c : Nat) (ch : Chain) (s : State) : (putChain c ch s).scratch = s.scratch := rfl
@[simp] theorem putChain_epochs (c : Nat) (ch : Chain) (s : State) : (putChain c ch s).epochs = s.epochs := rfl
@[simp] theorem putChain_engines (c : Nat) (ch : Chain) (s : State) : (putChain c ch s).engines = s.engines := rfl
@[simp] theorem putChain_energy (c : Nat) (ch : Chain) (s : State) : (putChain c ch s).energy = s.energy := rfl
@[simp] theorem putChain_flow (c : Nat) (ch : Chain) (s : State) : (putChain c ch s).flow = s.flow := rfl
@[simp] theorem putChain_host (c : Nat) (ch : Chain) (s : State) : (putChain c ch s).host = s.host := rfl
@[simp] theorem putChain_tenants (c : Nat) (ch : Chain) (s : State) : (putChain c ch s).tenants = s.tenants := rfl
@[simp] theorem putChain_keys (c : Nat) (ch : Chain) (s : State) : (putChain c ch s).keys = s.keys := rfl
@[simp] theorem putChain_rng (c : Nat) (ch : Chain) (s : State) : (putChain c ch s).rng = s.rng := rfl
@[simp] theorem putChain_cores (c : Nat) (ch : Chain) (s : State) : (putChain c ch s).cores = s.cores := rfl
@[simp] theorem putChain_memTest (c : Nat) (ch : Chain) (s : State) : (putChain c ch s).memTest = s.memTest := rfl
@[simp] theorem putChain_access (c : Nat) (ch : Chain) (s : State) : (putChain c ch s).access = s.access := rfl
@[simp] theorem putChain_mram (c : Nat) (ch : Chain) (s : State) : (putChain c ch s).mram = s.mram := rfl
@[simp] theorem putChain_images (c : Nat) (ch : Chain) (s : State) : (putChain c ch s).images = s.images := rfl
@[simp] theorem putChain_locket (c : Nat) (ch : Chain) (s : State) : (putChain c ch s).locket = s.locket := rfl
@[simp] theorem putChain_sec (c : Nat) (ch : Chain) (s : State) : (putChain c ch s).sec = s.sec := rfl
@[simp] theorem putChain_tamper (c : Nat) (ch : Chain) (s : State) : (putChain c ch s).tamper = s.tamper := rfl
@[simp] theorem putChain_life (c : Nat) (ch : Chain) (s : State) : (putChain c ch s).life = s.life := rfl
@[simp] theorem putChain_faults (c : Nat) (ch : Chain) (s : State) : (putChain c ch s).faults = s.faults := rfl
@[simp] theorem putChain_log (c : Nat) (ch : Chain) (s : State) : (putChain c ch s).log = s.log := rfl
@[simp] theorem putChain_custody (c : Nat) (ch : Chain) (s : State) : (putChain c ch s).custody = s.custody := rfl
@[simp] theorem putChain_dict (c : Nat) (ch : Chain) (s : State) : (putChain c ch s).dict = s.dict := rfl
@[simp] theorem putChain_clasp (c : Nat) (ch : Chain) (s : State) : (putChain c ch s).clasp = s.clasp := rfl
@[simp] theorem putChain_twin (c : Nat) (ch : Chain) (s : State) : (putChain c ch s).twin = s.twin := rfl
@[simp] theorem putChain_domain (c : Nat) (ch : Chain) (s : State) : (putChain c ch s).domain = s.domain := rfl
@[simp] theorem putChain_pins (c : Nat) (ch : Chain) (s : State) : (putChain c ch s).pins = s.pins := rfl
@[simp] theorem putChain_telemetry (c : Nat) (ch : Chain) (s : State) : (putChain c ch s).telemetry = s.telemetry := rfl
@[simp] theorem putChain_tap (c : Nat) (ch : Chain) (s : State) : (putChain c ch s).tap = s.tap := rfl
@[simp] theorem putChain_sent (c : Nat) (ch : Chain) (s : State) : (putChain c ch s).sent = s.sent := rfl
@[simp] theorem putChain_reply (c : Nat) (ch : Chain) (s : State) : (putChain c ch s).reply = s.reply := rfl
@[simp] theorem putChain_freeUses (c : Nat) (ch : Chain) (s : State) : (putChain c ch s).freeUses = s.freeUses := rfl
@[simp] theorem putChain_pending (c : Nat) (ch : Chain) (s : State) : (putChain c ch s).pending = s.pending := rfl

/-! ### `modifyChain` -/

@[simp] theorem modifyChain_modes (c : Nat) (f : Chain → Chain) (s : State) : (modifyChain c f s).modes = s.modes := rfl
@[simp] theorem modifyChain_fuses (c : Nat) (f : Chain → Chain) (s : State) : (modifyChain c f s).fuses = s.fuses := rfl
@[simp] theorem modifyChain_boot (c : Nat) (f : Chain → Chain) (s : State) : (modifyChain c f s).boot = s.boot := rfl
@[simp] theorem modifyChain_chainMem (c : Nat) (f : Chain → Chain) (s : State) : (modifyChain c f s).chainMem = s.chainMem := rfl
@[simp] theorem modifyChain_scratch (c : Nat) (f : Chain → Chain) (s : State) : (modifyChain c f s).scratch = s.scratch := rfl
@[simp] theorem modifyChain_epochs (c : Nat) (f : Chain → Chain) (s : State) : (modifyChain c f s).epochs = s.epochs := rfl
@[simp] theorem modifyChain_engines (c : Nat) (f : Chain → Chain) (s : State) : (modifyChain c f s).engines = s.engines := rfl
@[simp] theorem modifyChain_energy (c : Nat) (f : Chain → Chain) (s : State) : (modifyChain c f s).energy = s.energy := rfl
@[simp] theorem modifyChain_flow (c : Nat) (f : Chain → Chain) (s : State) : (modifyChain c f s).flow = s.flow := rfl
@[simp] theorem modifyChain_host (c : Nat) (f : Chain → Chain) (s : State) : (modifyChain c f s).host = s.host := rfl
@[simp] theorem modifyChain_tenants (c : Nat) (f : Chain → Chain) (s : State) : (modifyChain c f s).tenants = s.tenants := rfl
@[simp] theorem modifyChain_keys (c : Nat) (f : Chain → Chain) (s : State) : (modifyChain c f s).keys = s.keys := rfl
@[simp] theorem modifyChain_rng (c : Nat) (f : Chain → Chain) (s : State) : (modifyChain c f s).rng = s.rng := rfl
@[simp] theorem modifyChain_cores (c : Nat) (f : Chain → Chain) (s : State) : (modifyChain c f s).cores = s.cores := rfl
@[simp] theorem modifyChain_memTest (c : Nat) (f : Chain → Chain) (s : State) : (modifyChain c f s).memTest = s.memTest := rfl
@[simp] theorem modifyChain_access (c : Nat) (f : Chain → Chain) (s : State) : (modifyChain c f s).access = s.access := rfl
@[simp] theorem modifyChain_mram (c : Nat) (f : Chain → Chain) (s : State) : (modifyChain c f s).mram = s.mram := rfl
@[simp] theorem modifyChain_images (c : Nat) (f : Chain → Chain) (s : State) : (modifyChain c f s).images = s.images := rfl
@[simp] theorem modifyChain_locket (c : Nat) (f : Chain → Chain) (s : State) : (modifyChain c f s).locket = s.locket := rfl
@[simp] theorem modifyChain_sec (c : Nat) (f : Chain → Chain) (s : State) : (modifyChain c f s).sec = s.sec := rfl
@[simp] theorem modifyChain_tamper (c : Nat) (f : Chain → Chain) (s : State) : (modifyChain c f s).tamper = s.tamper := rfl
@[simp] theorem modifyChain_life (c : Nat) (f : Chain → Chain) (s : State) : (modifyChain c f s).life = s.life := rfl
@[simp] theorem modifyChain_faults (c : Nat) (f : Chain → Chain) (s : State) : (modifyChain c f s).faults = s.faults := rfl
@[simp] theorem modifyChain_log (c : Nat) (f : Chain → Chain) (s : State) : (modifyChain c f s).log = s.log := rfl
@[simp] theorem modifyChain_custody (c : Nat) (f : Chain → Chain) (s : State) : (modifyChain c f s).custody = s.custody := rfl
@[simp] theorem modifyChain_dict (c : Nat) (f : Chain → Chain) (s : State) : (modifyChain c f s).dict = s.dict := rfl
@[simp] theorem modifyChain_clasp (c : Nat) (f : Chain → Chain) (s : State) : (modifyChain c f s).clasp = s.clasp := rfl
@[simp] theorem modifyChain_twin (c : Nat) (f : Chain → Chain) (s : State) : (modifyChain c f s).twin = s.twin := rfl
@[simp] theorem modifyChain_domain (c : Nat) (f : Chain → Chain) (s : State) : (modifyChain c f s).domain = s.domain := rfl
@[simp] theorem modifyChain_pins (c : Nat) (f : Chain → Chain) (s : State) : (modifyChain c f s).pins = s.pins := rfl
@[simp] theorem modifyChain_telemetry (c : Nat) (f : Chain → Chain) (s : State) : (modifyChain c f s).telemetry = s.telemetry := rfl
@[simp] theorem modifyChain_tap (c : Nat) (f : Chain → Chain) (s : State) : (modifyChain c f s).tap = s.tap := rfl
@[simp] theorem modifyChain_sent (c : Nat) (f : Chain → Chain) (s : State) : (modifyChain c f s).sent = s.sent := rfl
@[simp] theorem modifyChain_reply (c : Nat) (f : Chain → Chain) (s : State) : (modifyChain c f s).reply = s.reply := rfl
@[simp] theorem modifyChain_freeUses (c : Nat) (f : Chain → Chain) (s : State) : (modifyChain c f s).freeUses = s.freeUses := rfl
@[simp] theorem modifyChain_pending (c : Nat) (f : Chain → Chain) (s : State) : (modifyChain c f s).pending = s.pending := rfl

/-! ### `modifyCore` -/

@[simp] theorem modifyCore_modes (k : Nat) (f : Core → Core) (s : State) : (modifyCore k f s).modes = s.modes := rfl
@[simp] theorem modifyCore_fuses (k : Nat) (f : Core → Core) (s : State) : (modifyCore k f s).fuses = s.fuses := rfl
@[simp] theorem modifyCore_boot (k : Nat) (f : Core → Core) (s : State) : (modifyCore k f s).boot = s.boot := rfl
@[simp] theorem modifyCore_disp (k : Nat) (f : Core → Core) (s : State) : (modifyCore k f s).disp = s.disp := rfl
@[simp] theorem modifyCore_chainMem (k : Nat) (f : Core → Core) (s : State) : (modifyCore k f s).chainMem = s.chainMem := rfl
@[simp] theorem modifyCore_scratch (k : Nat) (f : Core → Core) (s : State) : (modifyCore k f s).scratch = s.scratch := rfl
@[simp] theorem modifyCore_epochs (k : Nat) (f : Core → Core) (s : State) : (modifyCore k f s).epochs = s.epochs := rfl
@[simp] theorem modifyCore_engines (k : Nat) (f : Core → Core) (s : State) : (modifyCore k f s).engines = s.engines := rfl
@[simp] theorem modifyCore_energy (k : Nat) (f : Core → Core) (s : State) : (modifyCore k f s).energy = s.energy := rfl
@[simp] theorem modifyCore_flow (k : Nat) (f : Core → Core) (s : State) : (modifyCore k f s).flow = s.flow := rfl
@[simp] theorem modifyCore_host (k : Nat) (f : Core → Core) (s : State) : (modifyCore k f s).host = s.host := rfl
@[simp] theorem modifyCore_tenants (k : Nat) (f : Core → Core) (s : State) : (modifyCore k f s).tenants = s.tenants := rfl
@[simp] theorem modifyCore_keys (k : Nat) (f : Core → Core) (s : State) : (modifyCore k f s).keys = s.keys := rfl
@[simp] theorem modifyCore_rng (k : Nat) (f : Core → Core) (s : State) : (modifyCore k f s).rng = s.rng := rfl
@[simp] theorem modifyCore_memTest (k : Nat) (f : Core → Core) (s : State) : (modifyCore k f s).memTest = s.memTest := rfl
@[simp] theorem modifyCore_access (k : Nat) (f : Core → Core) (s : State) : (modifyCore k f s).access = s.access := rfl
@[simp] theorem modifyCore_mram (k : Nat) (f : Core → Core) (s : State) : (modifyCore k f s).mram = s.mram := rfl
@[simp] theorem modifyCore_images (k : Nat) (f : Core → Core) (s : State) : (modifyCore k f s).images = s.images := rfl
@[simp] theorem modifyCore_locket (k : Nat) (f : Core → Core) (s : State) : (modifyCore k f s).locket = s.locket := rfl
@[simp] theorem modifyCore_sec (k : Nat) (f : Core → Core) (s : State) : (modifyCore k f s).sec = s.sec := rfl
@[simp] theorem modifyCore_tamper (k : Nat) (f : Core → Core) (s : State) : (modifyCore k f s).tamper = s.tamper := rfl
@[simp] theorem modifyCore_life (k : Nat) (f : Core → Core) (s : State) : (modifyCore k f s).life = s.life := rfl
@[simp] theorem modifyCore_faults (k : Nat) (f : Core → Core) (s : State) : (modifyCore k f s).faults = s.faults := rfl
@[simp] theorem modifyCore_log (k : Nat) (f : Core → Core) (s : State) : (modifyCore k f s).log = s.log := rfl
@[simp] theorem modifyCore_custody (k : Nat) (f : Core → Core) (s : State) : (modifyCore k f s).custody = s.custody := rfl
@[simp] theorem modifyCore_dict (k : Nat) (f : Core → Core) (s : State) : (modifyCore k f s).dict = s.dict := rfl
@[simp] theorem modifyCore_clasp (k : Nat) (f : Core → Core) (s : State) : (modifyCore k f s).clasp = s.clasp := rfl
@[simp] theorem modifyCore_twin (k : Nat) (f : Core → Core) (s : State) : (modifyCore k f s).twin = s.twin := rfl
@[simp] theorem modifyCore_domain (k : Nat) (f : Core → Core) (s : State) : (modifyCore k f s).domain = s.domain := rfl
@[simp] theorem modifyCore_pins (k : Nat) (f : Core → Core) (s : State) : (modifyCore k f s).pins = s.pins := rfl
@[simp] theorem modifyCore_telemetry (k : Nat) (f : Core → Core) (s : State) : (modifyCore k f s).telemetry = s.telemetry := rfl
@[simp] theorem modifyCore_tap (k : Nat) (f : Core → Core) (s : State) : (modifyCore k f s).tap = s.tap := rfl
@[simp] theorem modifyCore_sent (k : Nat) (f : Core → Core) (s : State) : (modifyCore k f s).sent = s.sent := rfl
@[simp] theorem modifyCore_reply (k : Nat) (f : Core → Core) (s : State) : (modifyCore k f s).reply = s.reply := rfl
@[simp] theorem modifyCore_freeUses (k : Nat) (f : Core → Core) (s : State) : (modifyCore k f s).freeUses = s.freeUses := rfl
@[simp] theorem modifyCore_pending (k : Nat) (f : Core → Core) (s : State) : (modifyCore k f s).pending = s.pending := rfl

/-! ### `modifyQp` -/

@[simp] theorem modifyQp_modes (q : Nat) (f : QueuePair → QueuePair) (s : State) : (modifyQp q f s).modes = s.modes := rfl
@[simp] theorem modifyQp_fuses (q : Nat) (f : QueuePair → QueuePair) (s : State) : (modifyQp q f s).fuses = s.fuses := rfl
@[simp] theorem modifyQp_boot (q : Nat) (f : QueuePair → QueuePair) (s : State) : (modifyQp q f s).boot = s.boot := rfl
@[simp] theorem modifyQp_disp (q : Nat) (f : QueuePair → QueuePair) (s : State) : (modifyQp q f s).disp = s.disp := rfl
@[simp] theorem modifyQp_chainMem (q : Nat) (f : QueuePair → QueuePair) (s : State) : (modifyQp q f s).chainMem = s.chainMem := rfl
@[simp] theorem modifyQp_scratch (q : Nat) (f : QueuePair → QueuePair) (s : State) : (modifyQp q f s).scratch = s.scratch := rfl
@[simp] theorem modifyQp_epochs (q : Nat) (f : QueuePair → QueuePair) (s : State) : (modifyQp q f s).epochs = s.epochs := rfl
@[simp] theorem modifyQp_engines (q : Nat) (f : QueuePair → QueuePair) (s : State) : (modifyQp q f s).engines = s.engines := rfl
@[simp] theorem modifyQp_energy (q : Nat) (f : QueuePair → QueuePair) (s : State) : (modifyQp q f s).energy = s.energy := rfl
@[simp] theorem modifyQp_flow (q : Nat) (f : QueuePair → QueuePair) (s : State) : (modifyQp q f s).flow = s.flow := rfl
@[simp] theorem modifyQp_tenants (q : Nat) (f : QueuePair → QueuePair) (s : State) : (modifyQp q f s).tenants = s.tenants := rfl
@[simp] theorem modifyQp_keys (q : Nat) (f : QueuePair → QueuePair) (s : State) : (modifyQp q f s).keys = s.keys := rfl
@[simp] theorem modifyQp_rng (q : Nat) (f : QueuePair → QueuePair) (s : State) : (modifyQp q f s).rng = s.rng := rfl
@[simp] theorem modifyQp_cores (q : Nat) (f : QueuePair → QueuePair) (s : State) : (modifyQp q f s).cores = s.cores := rfl
@[simp] theorem modifyQp_memTest (q : Nat) (f : QueuePair → QueuePair) (s : State) : (modifyQp q f s).memTest = s.memTest := rfl
@[simp] theorem modifyQp_access (q : Nat) (f : QueuePair → QueuePair) (s : State) : (modifyQp q f s).access = s.access := rfl
@[simp] theorem modifyQp_mram (q : Nat) (f : QueuePair → QueuePair) (s : State) : (modifyQp q f s).mram = s.mram := rfl
@[simp] theorem modifyQp_images (q : Nat) (f : QueuePair → QueuePair) (s : State) : (modifyQp q f s).images = s.images := rfl
@[simp] theorem modifyQp_locket (q : Nat) (f : QueuePair → QueuePair) (s : State) : (modifyQp q f s).locket = s.locket := rfl
@[simp] theorem modifyQp_sec (q : Nat) (f : QueuePair → QueuePair) (s : State) : (modifyQp q f s).sec = s.sec := rfl
@[simp] theorem modifyQp_tamper (q : Nat) (f : QueuePair → QueuePair) (s : State) : (modifyQp q f s).tamper = s.tamper := rfl
@[simp] theorem modifyQp_life (q : Nat) (f : QueuePair → QueuePair) (s : State) : (modifyQp q f s).life = s.life := rfl
@[simp] theorem modifyQp_faults (q : Nat) (f : QueuePair → QueuePair) (s : State) : (modifyQp q f s).faults = s.faults := rfl
@[simp] theorem modifyQp_log (q : Nat) (f : QueuePair → QueuePair) (s : State) : (modifyQp q f s).log = s.log := rfl
@[simp] theorem modifyQp_custody (q : Nat) (f : QueuePair → QueuePair) (s : State) : (modifyQp q f s).custody = s.custody := rfl
@[simp] theorem modifyQp_dict (q : Nat) (f : QueuePair → QueuePair) (s : State) : (modifyQp q f s).dict = s.dict := rfl
@[simp] theorem modifyQp_clasp (q : Nat) (f : QueuePair → QueuePair) (s : State) : (modifyQp q f s).clasp = s.clasp := rfl
@[simp] theorem modifyQp_twin (q : Nat) (f : QueuePair → QueuePair) (s : State) : (modifyQp q f s).twin = s.twin := rfl
@[simp] theorem modifyQp_domain (q : Nat) (f : QueuePair → QueuePair) (s : State) : (modifyQp q f s).domain = s.domain := rfl
@[simp] theorem modifyQp_pins (q : Nat) (f : QueuePair → QueuePair) (s : State) : (modifyQp q f s).pins = s.pins := rfl
@[simp] theorem modifyQp_telemetry (q : Nat) (f : QueuePair → QueuePair) (s : State) : (modifyQp q f s).telemetry = s.telemetry := rfl
@[simp] theorem modifyQp_tap (q : Nat) (f : QueuePair → QueuePair) (s : State) : (modifyQp q f s).tap = s.tap := rfl
@[simp] theorem modifyQp_sent (q : Nat) (f : QueuePair → QueuePair) (s : State) : (modifyQp q f s).sent = s.sent := rfl
@[simp] theorem modifyQp_reply (q : Nat) (f : QueuePair → QueuePair) (s : State) : (modifyQp q f s).reply = s.reply := rfl
@[simp] theorem modifyQp_freeUses (q : Nat) (f : QueuePair → QueuePair) (s : State) : (modifyQp q f s).freeUses = s.freeUses := rfl
@[simp] theorem modifyQp_pending (q : Nat) (f : QueuePair → QueuePair) (s : State) : (modifyQp q f s).pending = s.pending := rfl

/-! ### `modifyInst` -/

@[simp] theorem modifyInst_modes (fn : Nat) (f : Inst → Inst) (s : State) : (modifyInst fn f s).modes = s.modes := rfl
@[simp] theorem modifyInst_fuses (fn : Nat) (f : Inst → Inst) (s : State) : (modifyInst fn f s).fuses = s.fuses := rfl
@[simp] theorem modifyInst_boot (fn : Nat) (f : Inst → Inst) (s : State) : (modifyInst fn f s).boot = s.boot := rfl
@[simp] theorem modifyInst_disp (fn : Nat) (f : Inst → Inst) (s : State) : (modifyInst fn f s).disp = s.disp := rfl
@[simp] theorem modifyInst_chainMem (fn : Nat) (f : Inst → Inst) (s : State) : (modifyInst fn f s).chainMem = s.chainMem := rfl
@[simp] theorem modifyInst_scratch (fn : Nat) (f : Inst → Inst) (s : State) : (modifyInst fn f s).scratch = s.scratch := rfl
@[simp] theorem modifyInst_epochs (fn : Nat) (f : Inst → Inst) (s : State) : (modifyInst fn f s).epochs = s.epochs := rfl
@[simp] theorem modifyInst_engines (fn : Nat) (f : Inst → Inst) (s : State) : (modifyInst fn f s).engines = s.engines := rfl
@[simp] theorem modifyInst_energy (fn : Nat) (f : Inst → Inst) (s : State) : (modifyInst fn f s).energy = s.energy := rfl
@[simp] theorem modifyInst_flow (fn : Nat) (f : Inst → Inst) (s : State) : (modifyInst fn f s).flow = s.flow := rfl
@[simp] theorem modifyInst_host (fn : Nat) (f : Inst → Inst) (s : State) : (modifyInst fn f s).host = s.host := rfl
@[simp] theorem modifyInst_keys (fn : Nat) (f : Inst → Inst) (s : State) : (modifyInst fn f s).keys = s.keys := rfl
@[simp] theorem modifyInst_rng (fn : Nat) (f : Inst → Inst) (s : State) : (modifyInst fn f s).rng = s.rng := rfl
@[simp] theorem modifyInst_cores (fn : Nat) (f : Inst → Inst) (s : State) : (modifyInst fn f s).cores = s.cores := rfl
@[simp] theorem modifyInst_memTest (fn : Nat) (f : Inst → Inst) (s : State) : (modifyInst fn f s).memTest = s.memTest := rfl
@[simp] theorem modifyInst_access (fn : Nat) (f : Inst → Inst) (s : State) : (modifyInst fn f s).access = s.access := rfl
@[simp] theorem modifyInst_mram (fn : Nat) (f : Inst → Inst) (s : State) : (modifyInst fn f s).mram = s.mram := rfl
@[simp] theorem modifyInst_images (fn : Nat) (f : Inst → Inst) (s : State) : (modifyInst fn f s).images = s.images := rfl
@[simp] theorem modifyInst_locket (fn : Nat) (f : Inst → Inst) (s : State) : (modifyInst fn f s).locket = s.locket := rfl
@[simp] theorem modifyInst_sec (fn : Nat) (f : Inst → Inst) (s : State) : (modifyInst fn f s).sec = s.sec := rfl
@[simp] theorem modifyInst_tamper (fn : Nat) (f : Inst → Inst) (s : State) : (modifyInst fn f s).tamper = s.tamper := rfl
@[simp] theorem modifyInst_life (fn : Nat) (f : Inst → Inst) (s : State) : (modifyInst fn f s).life = s.life := rfl
@[simp] theorem modifyInst_faults (fn : Nat) (f : Inst → Inst) (s : State) : (modifyInst fn f s).faults = s.faults := rfl
@[simp] theorem modifyInst_log (fn : Nat) (f : Inst → Inst) (s : State) : (modifyInst fn f s).log = s.log := rfl
@[simp] theorem modifyInst_custody (fn : Nat) (f : Inst → Inst) (s : State) : (modifyInst fn f s).custody = s.custody := rfl
@[simp] theorem modifyInst_dict (fn : Nat) (f : Inst → Inst) (s : State) : (modifyInst fn f s).dict = s.dict := rfl
@[simp] theorem modifyInst_clasp (fn : Nat) (f : Inst → Inst) (s : State) : (modifyInst fn f s).clasp = s.clasp := rfl
@[simp] theorem modifyInst_twin (fn : Nat) (f : Inst → Inst) (s : State) : (modifyInst fn f s).twin = s.twin := rfl
@[simp] theorem modifyInst_domain (fn : Nat) (f : Inst → Inst) (s : State) : (modifyInst fn f s).domain = s.domain := rfl
@[simp] theorem modifyInst_pins (fn : Nat) (f : Inst → Inst) (s : State) : (modifyInst fn f s).pins = s.pins := rfl
@[simp] theorem modifyInst_telemetry (fn : Nat) (f : Inst → Inst) (s : State) : (modifyInst fn f s).telemetry = s.telemetry := rfl
@[simp] theorem modifyInst_tap (fn : Nat) (f : Inst → Inst) (s : State) : (modifyInst fn f s).tap = s.tap := rfl
@[simp] theorem modifyInst_sent (fn : Nat) (f : Inst → Inst) (s : State) : (modifyInst fn f s).sent = s.sent := rfl
@[simp] theorem modifyInst_reply (fn : Nat) (f : Inst → Inst) (s : State) : (modifyInst fn f s).reply = s.reply := rfl
@[simp] theorem modifyInst_freeUses (fn : Nat) (f : Inst → Inst) (s : State) : (modifyInst fn f s).freeUses = s.freeUses := rfl
@[simp] theorem modifyInst_pending (fn : Nat) (f : Inst → Inst) (s : State) : (modifyInst fn f s).pending = s.pending := rfl

/-! ### `freeBuffers` -/

@[simp] theorem freeBuffers_modes (bs : List Nat) (s : State) : (freeBuffers bs s).modes = s.modes := rfl
@[simp] theorem freeBuffers_fuses (bs : List Nat) (s : State) : (freeBuffers bs s).fuses = s.fuses := rfl
@[simp] theorem freeBuffers_boot (bs : List Nat) (s : State) : (freeBuffers bs s).boot = s.boot := rfl
@[simp] theorem freeBuffers_disp (bs : List Nat) (s : State) : (freeBuffers bs s).disp = s.disp := rfl
@[simp] theorem freeBuffers_chainMem (bs : List Nat) (s : State) : (freeBuffers bs s).chainMem = s.chainMem := rfl
@[simp] theorem freeBuffers_scratch (bs : List Nat) (s : State) : (freeBuffers bs s).scratch = s.scratch := rfl
@[simp] theorem freeBuffers_epochs (bs : List Nat) (s : State) : (freeBuffers bs s).epochs = s.epochs := rfl
@[simp] theorem freeBuffers_engines (bs : List Nat) (s : State) : (freeBuffers bs s).engines = s.engines := rfl
@[simp] theorem freeBuffers_energy (bs : List Nat) (s : State) : (freeBuffers bs s).energy = s.energy := rfl
@[simp] theorem freeBuffers_host (bs : List Nat) (s : State) : (freeBuffers bs s).host = s.host := rfl
@[simp] theorem freeBuffers_tenants (bs : List Nat) (s : State) : (freeBuffers bs s).tenants = s.tenants := rfl
@[simp] theorem freeBuffers_keys (bs : List Nat) (s : State) : (freeBuffers bs s).keys = s.keys := rfl
@[simp] theorem freeBuffers_rng (bs : List Nat) (s : State) : (freeBuffers bs s).rng = s.rng := rfl
@[simp] theorem freeBuffers_cores (bs : List Nat) (s : State) : (freeBuffers bs s).cores = s.cores := rfl
@[simp] theorem freeBuffers_memTest (bs : List Nat) (s : State) : (freeBuffers bs s).memTest = s.memTest := rfl
@[simp] theorem freeBuffers_access (bs : List Nat) (s : State) : (freeBuffers bs s).access = s.access := rfl
@[simp] theorem freeBuffers_mram (bs : List Nat) (s : State) : (freeBuffers bs s).mram = s.mram := rfl
@[simp] theorem freeBuffers_images (bs : List Nat) (s : State) : (freeBuffers bs s).images = s.images := rfl
@[simp] theorem freeBuffers_locket (bs : List Nat) (s : State) : (freeBuffers bs s).locket = s.locket := rfl
@[simp] theorem freeBuffers_sec (bs : List Nat) (s : State) : (freeBuffers bs s).sec = s.sec := rfl
@[simp] theorem freeBuffers_tamper (bs : List Nat) (s : State) : (freeBuffers bs s).tamper = s.tamper := rfl
@[simp] theorem freeBuffers_life (bs : List Nat) (s : State) : (freeBuffers bs s).life = s.life := rfl
@[simp] theorem freeBuffers_faults (bs : List Nat) (s : State) : (freeBuffers bs s).faults = s.faults := rfl
@[simp] theorem freeBuffers_log (bs : List Nat) (s : State) : (freeBuffers bs s).log = s.log := rfl
@[simp] theorem freeBuffers_custody (bs : List Nat) (s : State) : (freeBuffers bs s).custody = s.custody := rfl
@[simp] theorem freeBuffers_dict (bs : List Nat) (s : State) : (freeBuffers bs s).dict = s.dict := rfl
@[simp] theorem freeBuffers_clasp (bs : List Nat) (s : State) : (freeBuffers bs s).clasp = s.clasp := rfl
@[simp] theorem freeBuffers_twin (bs : List Nat) (s : State) : (freeBuffers bs s).twin = s.twin := rfl
@[simp] theorem freeBuffers_domain (bs : List Nat) (s : State) : (freeBuffers bs s).domain = s.domain := rfl
@[simp] theorem freeBuffers_pins (bs : List Nat) (s : State) : (freeBuffers bs s).pins = s.pins := rfl
@[simp] theorem freeBuffers_telemetry (bs : List Nat) (s : State) : (freeBuffers bs s).telemetry = s.telemetry := rfl
@[simp] theorem freeBuffers_tap (bs : List Nat) (s : State) : (freeBuffers bs s).tap = s.tap := rfl
@[simp] theorem freeBuffers_sent (bs : List Nat) (s : State) : (freeBuffers bs s).sent = s.sent := rfl
@[simp] theorem freeBuffers_reply (bs : List Nat) (s : State) : (freeBuffers bs s).reply = s.reply := rfl
@[simp] theorem freeBuffers_freeUses (bs : List Nat) (s : State) : (freeBuffers bs s).freeUses = s.freeUses := rfl
@[simp] theorem freeBuffers_pending (bs : List Nat) (s : State) : (freeBuffers bs s).pending = s.pending := rfl

/-! ### `holdBuffers` -/

@[simp] theorem holdBuffers_modes (tag : Nat) (bs : List Nat) (s : State) : (holdBuffers tag bs s).modes = s.modes := rfl
@[simp] theorem holdBuffers_fuses (tag : Nat) (bs : List Nat) (s : State) : (holdBuffers tag bs s).fuses = s.fuses := rfl
@[simp] theorem holdBuffers_boot (tag : Nat) (bs : List Nat) (s : State) : (holdBuffers tag bs s).boot = s.boot := rfl
@[simp] theorem holdBuffers_disp (tag : Nat) (bs : List Nat) (s : State) : (holdBuffers tag bs s).disp = s.disp := rfl
@[simp] theorem holdBuffers_chainMem (tag : Nat) (bs : List Nat) (s : State) : (holdBuffers tag bs s).chainMem = s.chainMem := rfl
@[simp] theorem holdBuffers_scratch (tag : Nat) (bs : List Nat) (s : State) : (holdBuffers tag bs s).scratch = s.scratch := rfl
@[simp] theorem holdBuffers_epochs (tag : Nat) (bs : List Nat) (s : State) : (holdBuffers tag bs s).epochs = s.epochs := rfl
@[simp] theorem holdBuffers_engines (tag : Nat) (bs : List Nat) (s : State) : (holdBuffers tag bs s).engines = s.engines := rfl
@[simp] theorem holdBuffers_energy (tag : Nat) (bs : List Nat) (s : State) : (holdBuffers tag bs s).energy = s.energy := rfl
@[simp] theorem holdBuffers_host (tag : Nat) (bs : List Nat) (s : State) : (holdBuffers tag bs s).host = s.host := rfl
@[simp] theorem holdBuffers_tenants (tag : Nat) (bs : List Nat) (s : State) : (holdBuffers tag bs s).tenants = s.tenants := rfl
@[simp] theorem holdBuffers_keys (tag : Nat) (bs : List Nat) (s : State) : (holdBuffers tag bs s).keys = s.keys := rfl
@[simp] theorem holdBuffers_rng (tag : Nat) (bs : List Nat) (s : State) : (holdBuffers tag bs s).rng = s.rng := rfl
@[simp] theorem holdBuffers_cores (tag : Nat) (bs : List Nat) (s : State) : (holdBuffers tag bs s).cores = s.cores := rfl
@[simp] theorem holdBuffers_memTest (tag : Nat) (bs : List Nat) (s : State) : (holdBuffers tag bs s).memTest = s.memTest := rfl
@[simp] theorem holdBuffers_access (tag : Nat) (bs : List Nat) (s : State) : (holdBuffers tag bs s).access = s.access := rfl
@[simp] theorem holdBuffers_mram (tag : Nat) (bs : List Nat) (s : State) : (holdBuffers tag bs s).mram = s.mram := rfl
@[simp] theorem holdBuffers_images (tag : Nat) (bs : List Nat) (s : State) : (holdBuffers tag bs s).images = s.images := rfl
@[simp] theorem holdBuffers_locket (tag : Nat) (bs : List Nat) (s : State) : (holdBuffers tag bs s).locket = s.locket := rfl
@[simp] theorem holdBuffers_sec (tag : Nat) (bs : List Nat) (s : State) : (holdBuffers tag bs s).sec = s.sec := rfl
@[simp] theorem holdBuffers_tamper (tag : Nat) (bs : List Nat) (s : State) : (holdBuffers tag bs s).tamper = s.tamper := rfl
@[simp] theorem holdBuffers_life (tag : Nat) (bs : List Nat) (s : State) : (holdBuffers tag bs s).life = s.life := rfl
@[simp] theorem holdBuffers_faults (tag : Nat) (bs : List Nat) (s : State) : (holdBuffers tag bs s).faults = s.faults := rfl
@[simp] theorem holdBuffers_log (tag : Nat) (bs : List Nat) (s : State) : (holdBuffers tag bs s).log = s.log := rfl
@[simp] theorem holdBuffers_custody (tag : Nat) (bs : List Nat) (s : State) : (holdBuffers tag bs s).custody = s.custody := rfl
@[simp] theorem holdBuffers_dict (tag : Nat) (bs : List Nat) (s : State) : (holdBuffers tag bs s).dict = s.dict := rfl
@[simp] theorem holdBuffers_clasp (tag : Nat) (bs : List Nat) (s : State) : (holdBuffers tag bs s).clasp = s.clasp := rfl
@[simp] theorem holdBuffers_twin (tag : Nat) (bs : List Nat) (s : State) : (holdBuffers tag bs s).twin = s.twin := rfl
@[simp] theorem holdBuffers_domain (tag : Nat) (bs : List Nat) (s : State) : (holdBuffers tag bs s).domain = s.domain := rfl
@[simp] theorem holdBuffers_pins (tag : Nat) (bs : List Nat) (s : State) : (holdBuffers tag bs s).pins = s.pins := rfl
@[simp] theorem holdBuffers_telemetry (tag : Nat) (bs : List Nat) (s : State) : (holdBuffers tag bs s).telemetry = s.telemetry := rfl
@[simp] theorem holdBuffers_tap (tag : Nat) (bs : List Nat) (s : State) : (holdBuffers tag bs s).tap = s.tap := rfl
@[simp] theorem holdBuffers_sent (tag : Nat) (bs : List Nat) (s : State) : (holdBuffers tag bs s).sent = s.sent := rfl
@[simp] theorem holdBuffers_reply (tag : Nat) (bs : List Nat) (s : State) : (holdBuffers tag bs s).reply = s.reply := rfl
@[simp] theorem holdBuffers_freeUses (tag : Nat) (bs : List Nat) (s : State) : (holdBuffers tag bs s).freeUses = s.freeUses := rfl
@[simp] theorem holdBuffers_pending (tag : Nat) (bs : List Nat) (s : State) : (holdBuffers tag bs s).pending = s.pending := rfl

/-! ### `putRecord` -/

@[simp] theorem putRecord_modes (e : Nat) (r : FaultRecord) (s : State) : (putRecord e r s).modes = s.modes := rfl
@[simp] theorem putRecord_fuses (e : Nat) (r : FaultRecord) (s : State) : (putRecord e r s).fuses = s.fuses := rfl
@[simp] theorem putRecord_boot (e : Nat) (r : FaultRecord) (s : State) : (putRecord e r s).boot = s.boot := rfl
@[simp] theorem putRecord_disp (e : Nat) (r : FaultRecord) (s : State) : (putRecord e r s).disp = s.disp := rfl
@[simp] theorem putRecord_chainMem (e : Nat) (r : FaultRecord) (s : State) : (putRecord e r s).chainMem = s.chainMem := rfl
@[simp] theorem putRecord_scratch (e : Nat) (r : FaultRecord) (s : State) : (putRecord e r s).scratch = s.scratch := rfl
@[simp] theorem putRecord_epochs (e : Nat) (r : FaultRecord) (s : State) : (putRecord e r s).epochs = s.epochs := rfl
@[simp] theorem putRecord_engines (e : Nat) (r : FaultRecord) (s : State) : (putRecord e r s).engines = s.engines := rfl
@[simp] theorem putRecord_energy (e : Nat) (r : FaultRecord) (s : State) : (putRecord e r s).energy = s.energy := rfl
@[simp] theorem putRecord_flow (e : Nat) (r : FaultRecord) (s : State) : (putRecord e r s).flow = s.flow := rfl
@[simp] theorem putRecord_host (e : Nat) (r : FaultRecord) (s : State) : (putRecord e r s).host = s.host := rfl
@[simp] theorem putRecord_tenants (e : Nat) (r : FaultRecord) (s : State) : (putRecord e r s).tenants = s.tenants := rfl
@[simp] theorem putRecord_keys (e : Nat) (r : FaultRecord) (s : State) : (putRecord e r s).keys = s.keys := rfl
@[simp] theorem putRecord_rng (e : Nat) (r : FaultRecord) (s : State) : (putRecord e r s).rng = s.rng := rfl
@[simp] theorem putRecord_cores (e : Nat) (r : FaultRecord) (s : State) : (putRecord e r s).cores = s.cores := rfl
@[simp] theorem putRecord_memTest (e : Nat) (r : FaultRecord) (s : State) : (putRecord e r s).memTest = s.memTest := rfl
@[simp] theorem putRecord_access (e : Nat) (r : FaultRecord) (s : State) : (putRecord e r s).access = s.access := rfl
@[simp] theorem putRecord_mram (e : Nat) (r : FaultRecord) (s : State) : (putRecord e r s).mram = s.mram := rfl
@[simp] theorem putRecord_images (e : Nat) (r : FaultRecord) (s : State) : (putRecord e r s).images = s.images := rfl
@[simp] theorem putRecord_locket (e : Nat) (r : FaultRecord) (s : State) : (putRecord e r s).locket = s.locket := rfl
@[simp] theorem putRecord_sec (e : Nat) (r : FaultRecord) (s : State) : (putRecord e r s).sec = s.sec := rfl
@[simp] theorem putRecord_tamper (e : Nat) (r : FaultRecord) (s : State) : (putRecord e r s).tamper = s.tamper := rfl
@[simp] theorem putRecord_life (e : Nat) (r : FaultRecord) (s : State) : (putRecord e r s).life = s.life := rfl
@[simp] theorem putRecord_log (e : Nat) (r : FaultRecord) (s : State) : (putRecord e r s).log = s.log := rfl
@[simp] theorem putRecord_custody (e : Nat) (r : FaultRecord) (s : State) : (putRecord e r s).custody = s.custody := rfl
@[simp] theorem putRecord_dict (e : Nat) (r : FaultRecord) (s : State) : (putRecord e r s).dict = s.dict := rfl
@[simp] theorem putRecord_clasp (e : Nat) (r : FaultRecord) (s : State) : (putRecord e r s).clasp = s.clasp := rfl
@[simp] theorem putRecord_twin (e : Nat) (r : FaultRecord) (s : State) : (putRecord e r s).twin = s.twin := rfl
@[simp] theorem putRecord_domain (e : Nat) (r : FaultRecord) (s : State) : (putRecord e r s).domain = s.domain := rfl
@[simp] theorem putRecord_pins (e : Nat) (r : FaultRecord) (s : State) : (putRecord e r s).pins = s.pins := rfl
@[simp] theorem putRecord_telemetry (e : Nat) (r : FaultRecord) (s : State) : (putRecord e r s).telemetry = s.telemetry := rfl
@[simp] theorem putRecord_tap (e : Nat) (r : FaultRecord) (s : State) : (putRecord e r s).tap = s.tap := rfl
@[simp] theorem putRecord_sent (e : Nat) (r : FaultRecord) (s : State) : (putRecord e r s).sent = s.sent := rfl
@[simp] theorem putRecord_reply (e : Nat) (r : FaultRecord) (s : State) : (putRecord e r s).reply = s.reply := rfl
@[simp] theorem putRecord_freeUses (e : Nat) (r : FaultRecord) (s : State) : (putRecord e r s).freeUses = s.freeUses := rfl
@[simp] theorem putRecord_pending (e : Nat) (r : FaultRecord) (s : State) : (putRecord e r s).pending = s.pending := rfl

/-! ### `postDeviceEvent` -/

@[simp] theorem postDeviceEvent_modes (bitNo : Nat) (s : State) : (postDeviceEvent bitNo s).modes = s.modes := rfl
@[simp] theorem postDeviceEvent_fuses (bitNo : Nat) (s : State) : (postDeviceEvent bitNo s).fuses = s.fuses := rfl
@[simp] theorem postDeviceEvent_boot (bitNo : Nat) (s : State) : (postDeviceEvent bitNo s).boot = s.boot := rfl
@[simp] theorem postDeviceEvent_disp (bitNo : Nat) (s : State) : (postDeviceEvent bitNo s).disp = s.disp := rfl
@[simp] theorem postDeviceEvent_chainMem (bitNo : Nat) (s : State) : (postDeviceEvent bitNo s).chainMem = s.chainMem := rfl
@[simp] theorem postDeviceEvent_scratch (bitNo : Nat) (s : State) : (postDeviceEvent bitNo s).scratch = s.scratch := rfl
@[simp] theorem postDeviceEvent_epochs (bitNo : Nat) (s : State) : (postDeviceEvent bitNo s).epochs = s.epochs := rfl
@[simp] theorem postDeviceEvent_engines (bitNo : Nat) (s : State) : (postDeviceEvent bitNo s).engines = s.engines := rfl
@[simp] theorem postDeviceEvent_energy (bitNo : Nat) (s : State) : (postDeviceEvent bitNo s).energy = s.energy := rfl
@[simp] theorem postDeviceEvent_flow (bitNo : Nat) (s : State) : (postDeviceEvent bitNo s).flow = s.flow := rfl
@[simp] theorem postDeviceEvent_host (bitNo : Nat) (s : State) : (postDeviceEvent bitNo s).host = s.host := rfl
@[simp] theorem postDeviceEvent_tenants (bitNo : Nat) (s : State) : (postDeviceEvent bitNo s).tenants = s.tenants := rfl
@[simp] theorem postDeviceEvent_keys (bitNo : Nat) (s : State) : (postDeviceEvent bitNo s).keys = s.keys := rfl
@[simp] theorem postDeviceEvent_rng (bitNo : Nat) (s : State) : (postDeviceEvent bitNo s).rng = s.rng := rfl
@[simp] theorem postDeviceEvent_memTest (bitNo : Nat) (s : State) : (postDeviceEvent bitNo s).memTest = s.memTest := rfl
@[simp] theorem postDeviceEvent_access (bitNo : Nat) (s : State) : (postDeviceEvent bitNo s).access = s.access := rfl
@[simp] theorem postDeviceEvent_mram (bitNo : Nat) (s : State) : (postDeviceEvent bitNo s).mram = s.mram := rfl
@[simp] theorem postDeviceEvent_images (bitNo : Nat) (s : State) : (postDeviceEvent bitNo s).images = s.images := rfl
@[simp] theorem postDeviceEvent_locket (bitNo : Nat) (s : State) : (postDeviceEvent bitNo s).locket = s.locket := rfl
@[simp] theorem postDeviceEvent_sec (bitNo : Nat) (s : State) : (postDeviceEvent bitNo s).sec = s.sec := rfl
@[simp] theorem postDeviceEvent_tamper (bitNo : Nat) (s : State) : (postDeviceEvent bitNo s).tamper = s.tamper := rfl
@[simp] theorem postDeviceEvent_life (bitNo : Nat) (s : State) : (postDeviceEvent bitNo s).life = s.life := rfl
@[simp] theorem postDeviceEvent_faults (bitNo : Nat) (s : State) : (postDeviceEvent bitNo s).faults = s.faults := rfl
@[simp] theorem postDeviceEvent_log (bitNo : Nat) (s : State) : (postDeviceEvent bitNo s).log = s.log := rfl
@[simp] theorem postDeviceEvent_custody (bitNo : Nat) (s : State) : (postDeviceEvent bitNo s).custody = s.custody := rfl
@[simp] theorem postDeviceEvent_dict (bitNo : Nat) (s : State) : (postDeviceEvent bitNo s).dict = s.dict := rfl
@[simp] theorem postDeviceEvent_clasp (bitNo : Nat) (s : State) : (postDeviceEvent bitNo s).clasp = s.clasp := rfl
@[simp] theorem postDeviceEvent_twin (bitNo : Nat) (s : State) : (postDeviceEvent bitNo s).twin = s.twin := rfl
@[simp] theorem postDeviceEvent_domain (bitNo : Nat) (s : State) : (postDeviceEvent bitNo s).domain = s.domain := rfl
@[simp] theorem postDeviceEvent_pins (bitNo : Nat) (s : State) : (postDeviceEvent bitNo s).pins = s.pins := rfl
@[simp] theorem postDeviceEvent_telemetry (bitNo : Nat) (s : State) : (postDeviceEvent bitNo s).telemetry = s.telemetry := rfl
@[simp] theorem postDeviceEvent_tap (bitNo : Nat) (s : State) : (postDeviceEvent bitNo s).tap = s.tap := rfl
@[simp] theorem postDeviceEvent_sent (bitNo : Nat) (s : State) : (postDeviceEvent bitNo s).sent = s.sent := rfl
@[simp] theorem postDeviceEvent_reply (bitNo : Nat) (s : State) : (postDeviceEvent bitNo s).reply = s.reply := rfl
@[simp] theorem postDeviceEvent_freeUses (bitNo : Nat) (s : State) : (postDeviceEvent bitNo s).freeUses = s.freeUses := rfl
@[simp] theorem postDeviceEvent_pending (bitNo : Nat) (s : State) : (postDeviceEvent bitNo s).pending = s.pending := rfl

/-! ### `clearWorkingSlots` -/

@[simp] theorem clearWorkingSlots_modes (s : State) : (clearWorkingSlots s).modes = s.modes := rfl
@[simp] theorem clearWorkingSlots_fuses (s : State) : (clearWorkingSlots s).fuses = s.fuses := rfl
@[simp] theorem clearWorkingSlots_boot (s : State) : (clearWorkingSlots s).boot = s.boot := rfl
@[simp] theorem clearWorkingSlots_disp (s : State) : (clearWorkingSlots s).disp = s.disp := rfl
@[simp] theorem clearWorkingSlots_chainMem (s : State) : (clearWorkingSlots s).chainMem = s.chainMem := rfl
@[simp] theorem clearWorkingSlots_scratch (s : State) : (clearWorkingSlots s).scratch = s.scratch := rfl
@[simp] theorem clearWorkingSlots_epochs (s : State) : (clearWorkingSlots s).epochs = s.epochs := rfl
@[simp] theorem clearWorkingSlots_engines (s : State) : (clearWorkingSlots s).engines = s.engines := rfl
@[simp] theorem clearWorkingSlots_energy (s : State) : (clearWorkingSlots s).energy = s.energy := rfl
@[simp] theorem clearWorkingSlots_flow (s : State) : (clearWorkingSlots s).flow = s.flow := rfl
@[simp] theorem clearWorkingSlots_host (s : State) : (clearWorkingSlots s).host = s.host := rfl
@[simp] theorem clearWorkingSlots_tenants (s : State) : (clearWorkingSlots s).tenants = s.tenants := rfl
@[simp] theorem clearWorkingSlots_rng (s : State) : (clearWorkingSlots s).rng = s.rng := rfl
@[simp] theorem clearWorkingSlots_cores (s : State) : (clearWorkingSlots s).cores = s.cores := rfl
@[simp] theorem clearWorkingSlots_memTest (s : State) : (clearWorkingSlots s).memTest = s.memTest := rfl
@[simp] theorem clearWorkingSlots_access (s : State) : (clearWorkingSlots s).access = s.access := rfl
@[simp] theorem clearWorkingSlots_mram (s : State) : (clearWorkingSlots s).mram = s.mram := rfl
@[simp] theorem clearWorkingSlots_images (s : State) : (clearWorkingSlots s).images = s.images := rfl
@[simp] theorem clearWorkingSlots_locket (s : State) : (clearWorkingSlots s).locket = s.locket := rfl
@[simp] theorem clearWorkingSlots_sec (s : State) : (clearWorkingSlots s).sec = s.sec := rfl
@[simp] theorem clearWorkingSlots_tamper (s : State) : (clearWorkingSlots s).tamper = s.tamper := rfl
@[simp] theorem clearWorkingSlots_life (s : State) : (clearWorkingSlots s).life = s.life := rfl
@[simp] theorem clearWorkingSlots_faults (s : State) : (clearWorkingSlots s).faults = s.faults := rfl
@[simp] theorem clearWorkingSlots_log (s : State) : (clearWorkingSlots s).log = s.log := rfl
@[simp] theorem clearWorkingSlots_custody (s : State) : (clearWorkingSlots s).custody = s.custody := rfl
@[simp] theorem clearWorkingSlots_dict (s : State) : (clearWorkingSlots s).dict = s.dict := rfl
@[simp] theorem clearWorkingSlots_clasp (s : State) : (clearWorkingSlots s).clasp = s.clasp := rfl
@[simp] theorem clearWorkingSlots_twin (s : State) : (clearWorkingSlots s).twin = s.twin := rfl
@[simp] theorem clearWorkingSlots_domain (s : State) : (clearWorkingSlots s).domain = s.domain := rfl
@[simp] theorem clearWorkingSlots_pins (s : State) : (clearWorkingSlots s).pins = s.pins := rfl
@[simp] theorem clearWorkingSlots_telemetry (s : State) : (clearWorkingSlots s).telemetry = s.telemetry := rfl
@[simp] theorem clearWorkingSlots_tap (s : State) : (clearWorkingSlots s).tap = s.tap := rfl
@[simp] theorem clearWorkingSlots_sent (s : State) : (clearWorkingSlots s).sent = s.sent := rfl
@[simp] theorem clearWorkingSlots_reply (s : State) : (clearWorkingSlots s).reply = s.reply := rfl
@[simp] theorem clearWorkingSlots_freeUses (s : State) : (clearWorkingSlots s).freeUses = s.freeUses := rfl
@[simp] theorem clearWorkingSlots_pending (s : State) : (clearWorkingSlots s).pending = s.pending := rfl

/-! ### `drivePins` -/

@[simp] theorem drivePins_modes (s : State) : (drivePins s).modes = s.modes := rfl
@[simp] theorem drivePins_fuses (s : State) : (drivePins s).fuses = s.fuses := rfl
@[simp] theorem drivePins_boot (s : State) : (drivePins s).boot = s.boot := rfl
@[simp] theorem drivePins_disp (s : State) : (drivePins s).disp = s.disp := rfl
@[simp] theorem drivePins_chainMem (s : State) : (drivePins s).chainMem = s.chainMem := rfl
@[simp] theorem drivePins_scratch (s : State) : (drivePins s).scratch = s.scratch := rfl
@[simp] theorem drivePins_epochs (s : State) : (drivePins s).epochs = s.epochs := rfl
@[simp] theorem drivePins_engines (s : State) : (drivePins s).engines = s.engines := rfl
@[simp] theorem drivePins_energy (s : State) : (drivePins s).energy = s.energy := rfl
@[simp] theorem drivePins_flow (s : State) : (drivePins s).flow = s.flow := rfl
@[simp] theorem drivePins_host (s : State) : (drivePins s).host = s.host := rfl
@[simp] theorem drivePins_tenants (s : State) : (drivePins s).tenants = s.tenants := rfl
@[simp] theorem drivePins_keys (s : State) : (drivePins s).keys = s.keys := rfl
@[simp] theorem drivePins_rng (s : State) : (drivePins s).rng = s.rng := rfl
@[simp] theorem drivePins_cores (s : State) : (drivePins s).cores = s.cores := rfl
@[simp] theorem drivePins_memTest (s : State) : (drivePins s).memTest = s.memTest := rfl
@[simp] theorem drivePins_access (s : State) : (drivePins s).access = s.access := rfl
@[simp] theorem drivePins_mram (s : State) : (drivePins s).mram = s.mram := rfl
@[simp] theorem drivePins_images (s : State) : (drivePins s).images = s.images := rfl
@[simp] theorem drivePins_locket (s : State) : (drivePins s).locket = s.locket := rfl
@[simp] theorem drivePins_sec (s : State) : (drivePins s).sec = s.sec := rfl
@[simp] theorem drivePins_tamper (s : State) : (drivePins s).tamper = s.tamper := rfl
@[simp] theorem drivePins_life (s : State) : (drivePins s).life = s.life := rfl
@[simp] theorem drivePins_faults (s : State) : (drivePins s).faults = s.faults := rfl
@[simp] theorem drivePins_log (s : State) : (drivePins s).log = s.log := rfl
@[simp] theorem drivePins_custody (s : State) : (drivePins s).custody = s.custody := rfl
@[simp] theorem drivePins_dict (s : State) : (drivePins s).dict = s.dict := rfl
@[simp] theorem drivePins_clasp (s : State) : (drivePins s).clasp = s.clasp := rfl
@[simp] theorem drivePins_twin (s : State) : (drivePins s).twin = s.twin := rfl
@[simp] theorem drivePins_domain (s : State) : (drivePins s).domain = s.domain := rfl
@[simp] theorem drivePins_telemetry (s : State) : (drivePins s).telemetry = s.telemetry := rfl
@[simp] theorem drivePins_tap (s : State) : (drivePins s).tap = s.tap := rfl
@[simp] theorem drivePins_sent (s : State) : (drivePins s).sent = s.sent := rfl
@[simp] theorem drivePins_reply (s : State) : (drivePins s).reply = s.reply := rfl
@[simp] theorem drivePins_freeUses (s : State) : (drivePins s).freeUses = s.freeUses := rfl
@[simp] theorem drivePins_pending (s : State) : (drivePins s).pending = s.pending := rfl

/-! ### The free values a command takes -/

@[simp] theorem takeFree_modes (s : State) : (takeFree s).2.modes = s.modes := rfl
@[simp] theorem takeFree_fuses (s : State) : (takeFree s).2.fuses = s.fuses := rfl
@[simp] theorem takeFree_boot (s : State) : (takeFree s).2.boot = s.boot := rfl
@[simp] theorem takeFree_disp (s : State) : (takeFree s).2.disp = s.disp := rfl
@[simp] theorem takeFree_chainMem (s : State) : (takeFree s).2.chainMem = s.chainMem := rfl
@[simp] theorem takeFree_scratch (s : State) : (takeFree s).2.scratch = s.scratch := rfl
@[simp] theorem takeFree_epochs (s : State) : (takeFree s).2.epochs = s.epochs := rfl
@[simp] theorem takeFree_engines (s : State) : (takeFree s).2.engines = s.engines := rfl
@[simp] theorem takeFree_energy (s : State) : (takeFree s).2.energy = s.energy := rfl
@[simp] theorem takeFree_flow (s : State) : (takeFree s).2.flow = s.flow := rfl
@[simp] theorem takeFree_host (s : State) : (takeFree s).2.host = s.host := rfl
@[simp] theorem takeFree_tenants (s : State) : (takeFree s).2.tenants = s.tenants := rfl
@[simp] theorem takeFree_keys (s : State) : (takeFree s).2.keys = s.keys := rfl
@[simp] theorem takeFree_rng (s : State) : (takeFree s).2.rng = s.rng := rfl
@[simp] theorem takeFree_cores (s : State) : (takeFree s).2.cores = s.cores := rfl
@[simp] theorem takeFree_memTest (s : State) : (takeFree s).2.memTest = s.memTest := rfl
@[simp] theorem takeFree_access (s : State) : (takeFree s).2.access = s.access := rfl
@[simp] theorem takeFree_mram (s : State) : (takeFree s).2.mram = s.mram := rfl
@[simp] theorem takeFree_images (s : State) : (takeFree s).2.images = s.images := rfl
@[simp] theorem takeFree_locket (s : State) : (takeFree s).2.locket = s.locket := rfl
@[simp] theorem takeFree_sec (s : State) : (takeFree s).2.sec = s.sec := rfl
@[simp] theorem takeFree_tamper (s : State) : (takeFree s).2.tamper = s.tamper := rfl
@[simp] theorem takeFree_life (s : State) : (takeFree s).2.life = s.life := rfl
@[simp] theorem takeFree_faults (s : State) : (takeFree s).2.faults = s.faults := rfl
@[simp] theorem takeFree_log (s : State) : (takeFree s).2.log = s.log := rfl
@[simp] theorem takeFree_custody (s : State) : (takeFree s).2.custody = s.custody := rfl
@[simp] theorem takeFree_dict (s : State) : (takeFree s).2.dict = s.dict := rfl
@[simp] theorem takeFree_clasp (s : State) : (takeFree s).2.clasp = s.clasp := rfl
@[simp] theorem takeFree_twin (s : State) : (takeFree s).2.twin = s.twin := rfl
@[simp] theorem takeFree_domain (s : State) : (takeFree s).2.domain = s.domain := rfl
@[simp] theorem takeFree_pins (s : State) : (takeFree s).2.pins = s.pins := rfl
@[simp] theorem takeFree_telemetry (s : State) : (takeFree s).2.telemetry = s.telemetry := rfl
@[simp] theorem takeFree_tap (s : State) : (takeFree s).2.tap = s.tap := rfl
@[simp] theorem takeFree_sent (s : State) : (takeFree s).2.sent = s.sent := rfl
@[simp] theorem takeFree_reply (s : State) : (takeFree s).2.reply = s.reply := rfl
@[simp] theorem takeFree_pending (s : State) : (takeFree s).2.pending = s.pending := rfl
@[simp] theorem takeFree_freeUses (s : State) : (takeFree s).2.freeUses = s.freeUses + 1 := rfl

end Sys2Proof.Machine
end

