-- ==== Sys2Proof/Tests/Parts.lean ====
section
/-!
SUPPORT. The small states that the tests start from.
-/
namespace Sys2Proof.Tests
open Sys2Proof.Machine

/-- A part that has started up, with its PCIe link up and credits for posted writes. -/
def up : State :=
  { State.reset with
    boot := { Boot.reset with phase := .complete }
    host := { HostIf.reset with linkUp := true, rate := 32, width := 8 }
    flow := { Flow.reset with postedHdr := 100, postedData := 1000 }
    rng := { Rng.reset with state := 1, filled := true, reserve := List.replicate 256 7, buffer := List.replicate 64 9 }
    access := { AccessControl.reset with loaded := true } }

/-- An ACTIVE queue pair of PF0 with 16-entry rings and a 4 KiB window. -/
def ring : QueuePair :=
  { QueuePair.reset with
    sqSize := 4, cqSize := 4, state := .active, sqBase := 1, cqBase := 2, winSize := 12, winBase := 3, phase := true,
    vector := 1, modCount := 1, isSet := true }

/-- `up` with queue pair 0. -/
def ringed : State := { up with host := { up.host with qps := [(0, ring)] } }

end Sys2Proof.Tests
end

