-- ==== Sys2Proof/WellFormed.lean ====
section
/-!
DEFINITION. The commands a sender can form: operands within the fields and the counts of the largest grade (R4, R44, R177,
R225, R233, R353, R383, R486, R535). `exec` is total: it gives a command outside these bounds a meaning too.
-/
namespace Sys2Proof

/-- A Chain context of the dispatcher (R177). -/
def chainOk (c : Nat) : Bool := decide (c < 16384)

/-- A Link of a body, or of a core's engine request (R44, R358). -/
def linkOk (n : Nat) : Bool := decide (n < 96)

/-- An admission port (R175). -/
def portOk (p : Nat) : Bool := decide (p < 2)

/-- The admission ports that serve in one ECLK: port 0, port 1, or 2 for both (R175, R217). -/
def portsOk (p : Nat) : Bool := decide (p ≤ 2)

/-- A function: PF0 or a VF (R4). -/
def fnOk (fn : Nat) : Bool := decide (fn ≤ 1024)

/-- A queue pair (R4). -/
def qpOk (q : Nat) : Bool := decide (q < 65536)

/-- A working slot (R4). -/
def slotOk (n : Nat) : Bool := decide (n < 262144)

/-- A PKE or lattice pair (R4). -/
def pairOk (p : Nat) : Bool := decide (p < 32)

/-- A Fife core (R4). -/
def coreOk (k : Nat) : Bool := decide (k < 16)

/-- A register of a core's window (R343). -/
def regOk (r : Nat) : Bool := decide (r < 32)

/-- A width of a load, a store or a link. -/
def widthOk (n : Nat) : Bool := [1, 2, 4, 8].contains n

/-- A write within BAR0 of its function, of one TLP (R231, R233). -/
def hostWriteOk (w : HostWrite) : Bool :=
  fnOk w.fn && decide (w.offset + w.data.length ≤ if w.fn = 0 then 0x100000 else 0x10000) && decide (w.data.length ≤ 4096)

/-- A message slot of a mailbox (R271). -/
def mailSlotOk (slot : Nat) : Bool := decide (slot < 16)

/-- Where the write of an entry comes from. -/
def srcOk : Src → Bool
  | .message fn slot => fnOk fn && mailSlotOk slot
  | .write (.mailbox fn) => fnOk fn
  | .write .custody => true
  | .debugPort => true

/-- A value of a dictionary write (R496, R514). -/
def valueOk (v : Bytes) : Bool := decide (v.length ≤ 1024)

/-- A frame of the custody segment: MAC addresses of 6 B, an EtherType, and a Llyno part (R486, R487). -/
def frameOk (f : Frame) : Bool :=
  decide (f.source.length = 6) && decide (f.dest.length = 6) && decide (f.body.length ≤ 1500) &&
    decide (f.etherType < 65536)

/-- A frame of the Clasp link: header, BODY of at most 4,096 B, TAG (R535). -/
def claspOk (f : Bytes) : Bool := decide (36 ≤ f.length) && decide (f.length ≤ 20 + 4096 + 16)

/-- What the hardware finds after PLL lock: monitors are tamper sources (R431). -/
def reportOk (r : StartReport) : Bool := r.monitors.all fun m => decide (m < 10)

/-- A debug instruction: a core of the part, an access within the pages that a table entry can name, a fuse bank (R391, R453, R455). -/
def debugOpOk : DebugOp → Bool
  | .halt k => coreOk k
  | .resume k => coreOk k
  | .read addr len => decide (addr + len ≤ 2 ^ 36)
  | .store addr data => decide (addr + data.length ≤ 2 ^ 36)
  | .program bank _ => decide (bank < 8)

/-- A command that its sender can form. -/
def Instr.wellFormed : Instr → Bool
  | .doorbell w | .barUnimplementedAccess _ _ w | .poisonedWrite w | .mailboxSubmit w | .mailboxSlotFree w
  | .notifyCauseClear w | .mailboxBodyWrite w =>
      hostWriteOk w
  | .submissionFetchCompletion _ _ | .fetchTimeout _ | .descriptorFetchCompletion _ _ | .inputFetchCompletion _ _
  | .linkIssue | .postedCreditUpdate _ _ | .tick | .drawCorrectionUpdate _ | .thermalSample _ | .warmupEnd | .throttledSet
  | .throttledClear | .epochDrained | .templateBodyFetch _ _ | .dozeDepth1Entry | .dozeDepth2Entry | .dozeWake
  | .starvationDetected _ _ _ _ | .hostReset _ | .perstDeassert | .vfEnableClear | .vaultRemaskCycle | .rootReconstruct
  | .reseed | .generateCall _ | .firmwareLinkHandover | .allWaitingDetectorFire | .eccUncorrectable _
  | .knownAnswerTestEnd _ _ _ | .pageWriteDurable _ | .pwrfailAssert | .pwrfailDeassert | .stageDmaData _ _
  | .stagingTimeout | .stageVerificationEnd | .securityVersionAdvance _ | .alarmLinesDisagree | .doubleDecisionSecond _
  | .armingComplete _ | .fuseBitBlown _ | .postCeremonyReset | .fatalEscalation | .eventAppend | .holdTimeout
  | .sessionOpenTimeout | .sessionIdleTimeout | .custodyLinkDown | .announce | .claspLinkDown _ | .linkTrainingRetry
  | .claspIdleAck | .controlFrameRepeat | .bindTimeout | .releaseDrainEnd | .renewTimer | .leaseEnd | .takeoverByExpiry
  | .eligible | .warmReset _ _ | .coldReset _ | .powerSwitchover _ | .computeWatchdog | .resetRelease _ _
  | .drbgInstantiated | .imageVerificationEnd | .startUpComplete | .telemetryUpdate _ | .smbusTemperature | .smbusPower
  | .smbusStatus | .smbusAlertResponse | .bypass _ | .idcode | .samplePreload _ _ | .extest | .clamp | .deviceTimeAdvance
  | .rawBitStrobe _ _ | .singleBitError _ _ _ | .parityError _ _ _ | .securityDieHeartbeatLoss | .custodyLinkUp
  | .jabber | .helloRetry | .enrolConfTimeout | .regionEraseEnd | .unlockReloadEnd | .locketTailFound | .eventLogTailFound
  | .settlingComplete =>
      true
  | .chainAdmission ports => portsOk ports
  | .grantReturn port => portOk port
  | .nop chain link | .move chain link | .concat chain link | .compare chain link | .delay chain link
  | .x9143Import chain link | .x9143Export chain link | .domainImport chain link | .domainExport chain link
  | .unwrapToKeyBuffer chain link | .generate chain link | .delete chain link | .x9143ToDomainBlock chain link
  | .deriveFromAgreementSecret chain link | .dukptAesDerivation chain link | .encrypt chain link | .decrypt chain link
  | .reEncrypt chain link | .hash chain link | .hmacGenerate chain link | .hmacVerify chain link | .macGenerate chain link
  | .macVerify chain link | .pinBlockDecode chain link | .pinBlockEncode chain link | .offsetGenerate chain link
  | .offsetVerify chain link | .verificationValueGenerate chain link | .verificationValueVerify chain link
  | .cardAndSessionKeyDerivation chain link | .arqcVerify chain link | .arpcGenerate chain link
  | .scriptMacGenerate chain link | .cardCodeGenerate chain link | .cardCodeVerify chain link | .ff1Encrypt chain link
  | .ff1Decrypt chain link | .rsaPrivateCrt chain link _ | .rsaPrivateNonCrt chain link _ | .rsaPublic chain link _
  | .ecdsaSign chain link _ | .ecdsaVerify chain link _ | .ecdh chain link _ | .ecKeyPairGenerate chain link _
  | .ed25519Sign chain link _ | .ed25519Verify chain link _ | .x25519 chain link _
  | .curve25519KeyPairGenerate chain link _ | .modmul chain link _ | .modexp chain link _ | .modinv chain link _
  | .mlKemKeyPairGenerate chain link _ | .mlKemEncapsulate chain link _ | .mlKemDecapsulate chain link _
  | .mlDsaKeyPairGenerate chain link _ | .mlDsaSign chain link _ | .mlDsaVerify chain link _ | .randomBytes chain link
  | .pad chain link | .unpad chain link | .pkcs1V15SignatureEncode chain link | .pssSignatureEncode chain link
  | .pkcs1V15SignatureCheck chain link | .pssSignatureCheck chain link =>
      chainOk chain && linkOk link
  | .yieldPoint _ pair _ => pairOk pair
  | .chainWriteBack chain | .chainExpiry chain => chainOk chain
  | .completionWrite chain => chain.all chainOk
  | .moderationTimerExpiry qp => qpOk qp
  | .msixUnmask fn _ _ _ => fnOk fn
  | .powerLimitWrite src value | .serviceEnableWrite src value | .starvationFlagClear src _ value
  | .ideRequiredWrite src value | .managerNotificationClear src value | .captureSourceWrite src value
  | .stageChunk src value | .externalFiligreeArm src value | .sealLoopArm src value | .clearFlags src value
  | .lifeCycleTransition src value | .ceremonyBegin src value | .loadComponent src value | .certificateChunk src value
  | .certificateCommit src value | .boardDataWrite src value =>
      srcOk src && valueOk value
  | .commit src | .templateStageLoad src | .templateStageClear src | .qpSetUp src | .qpEnable src | .qpDisable src
  | .qpRelease src | .instanceCreate src | .instanceResize src | .instanceDestroy src | .instancePurge src
  | .slotDeleteNow src | .slotStageDelete src | .slotZeroiseBad src | .zeroiseWorkingSlots src | .zeroiseAllKeys src
  | .stageBeginDma src | .stageBeginChunks src | .stageVerify src | .stageAbandon src | .activate src | .locketExport src
  | .locketClear src | .debugReopen src | .debugClose src | .faultRecordClear src | .eventLogExport src
  | .eventLogExportHold src | .eventLogClear src | .ceremonyAbandon src | .consoleRemove src | .vaultKeyLoad src
  | .vaultSlotEmpty src | .componentsDiscard src | .bindAsSource src | .bindAsJoiner src | .pairUnbind src
  | .plannedRelease src | .domainFound src | .domainSponsor src | .domainJoin src | .domainLeave src =>
      srcOk src
  | .revocationComplete owner => decide (owner < 65536)
  | .slotLockLeaseExpiry slot | .floorWrite slot => slotOk slot
  | .ideStreamNotSecure stream | .ideCheckFailure stream _ | .spdmRequest stream _ _ _ _ => decide (stream < 8)
  | .functionReset vf | .instanceDestroyComplete vf => decide (0 < vf) && fnOk vf
  | .vfEnableSet numVfs => fnOk numVfs
  | .odRead fn slot | .odWrite fn slot | .queuePairEnable fn slot | .queuePairDisable fn slot | .queuePairStatus fn slot =>
      fnOk fn && mailSlotOk slot
  | .healthTestWindow source => decide (source < 4)
  | .waitw core rd rs1 rs2 | .waite core rd rs1 rs2 => coreOk core && regOk rd && regOk rs1 && regOk rs2
  | .eventDelivery core | .waitTimeout core | .tret core | .spill core | .fill core | .call core _ | .ret core _
  | .abortAckTimeout core | .coreWatchdog core | .brk core =>
      coreOk core
  | .instructionFetch core wrongPath _ _ _ => coreOk core && decide (wrongPath ≤ 16)
  | .lend core rs1 | .signal core rs1 => coreOk core && regOk rs1
  | .engreq core rd rs1 => coreOk core && regOk rd && regOk rs1
  | .rndrd core rd => coreOk core && regOk rd
  | .csrr core rd csr => coreOk core && regOk rd && decide (csr < 4096)
  | .csrw core rs1 csr => coreOk core && regOk rs1 && decide (csr < 4096)
  | .firmwareTimerDue core timer => coreOk core && decide (timer < 8)
  | .coreLoad core rd _ width => coreOk core && regOk rd && widthOk width
  | .coreStore core _ width _ | .bitSetAliasStore core _ width _ | .bitClearAliasStore core _ width _ =>
      coreOk core && widthOk width
  | .testRegionStart engine | .testRegionEnd engine _ | .testRegionOverdue engine => decide (engine < 8)
  | .tamperSource source _ => decide (source < 10)
  | .lightDetectorDisagreement detector => decide (detector < 2)
  | .openReq frame | .openConf frame | .enrolReq frame | .enrolConf frame | .request frame | .keepalive frame
  | .close frame =>
      frameOk frame
  | .presenceValidated input | .presenceReleased input => decide (input < 2)
  | .claspLinkUp lanes => decide (lanes ≤ 4)
  | .hello frame | .helloConf frame | .ack frame | .renew frame | .renewAck frame | .release frame | .releaseAck frame
  | .take frame | .detach frame | .repl frame | .resyncReq frame | .resyncData frame | .resyncEnd frame | .bindReq frame
  | .bindResp frame | .bindConf frame | .unbind frame =>
      claspOk frame
  | .batteryReset _ seed => decide (seed.length = 48)
  | .pllLock report => reportOk report
  | .deviceSpecificInstruction op => debugOpOk op
  | .pcieLinkUp _ width => widthOk width

end Sys2Proof
end

