-- ==== Sys2Proof/Tests/Slice0.lean ====
section
/-!
SUPPORT. The tests of the model: states that meet the hypotheses of each statement together (one witness for each clause that
has hypotheses), ill-formed commands that WellFormed refuses, and known answers of the arithmetic.
-/
namespace Sys2Proof.Tests
set_option Elab.async false
open Sys2Proof.Machine

/-! ### The small states and the values that the witnesses are built from -/

def dbWrite (v : Nat) : HostWrite := { fn := 0, offset := 0, stream := none, data := natLE 8 v }

def bodyWrite (off : Nat) (d : Bytes) : HostWrite := { fn := 0, offset := 0x81000 + off, stream := none, data := d }

def unmaskState : State := { up with host := { up.host with msix := [(0, { unmasked := [], pending := [3], table := [] })] } }

def tenantState : State :=
  { up with host := { up.host with vfEnable := true, numVfs := 2 }
            tenants := { up.tenants with insts := [(1, { Inst.empty with state := .active })] } }

def mailed (len cmd seq : Nat) (body : Bytes) : State :=
  setMailSlot 0 0 { w0 := 0, w1 := BitVec.ofNat 64 (mailCheck len cmd seq body), body := padTo 240 body } up

def w0of (len cmd seq : Nat) : Nat := 1 + len * 2 ^ 8 + cmd * 2 ^ 16 + seq * 2 ^ 32

def reading (k : ReadKind) (len : Nat) : State :=
  { ringed with host := { ringed.host with reads := [⟨5, k, 0, 0x1000, len, true⟩], readSeq := 6 } }

def someChain : Chain :=
  { body := { hdr := List.replicate 8 0, links := [⟨0, 0, 0, 0⟩] }, epoch := 0, qp := 0, fn := 0, tag := 7, prio := 0, expiry := 9000,
    admSeq := 0, inlineArea := zeros 40, inputAddr := 0x2000, inputLen := 4, inputLanded := false, resultAddr := 0,
    buffers := [3], links := [{ LinkRun.pending with st := .ready }], requested := [], keys := [], status := 0, firstFail := 0xFF, debug := false,
    small := 0, large := 0, uses := 0, closed := false, revoked := false, finished := false, writtenBack := false, wbSent := 0,
    waitRecords := [], waitPages := [], waitEvent := 0 }

def inputState : State := { reading (.input 2) 4 with disp := { Dispatcher.reset with chains := [(2, someChain)] } }

def pf : Path := .mailbox 0

def rec0 : QpRecord := { qp := 5, fn := 0, localNo := 9, sqBase := 0x10000, cqBase := 0x20000, winBase := 0x30000, sizes := 0x0C44, vector := 1, modCount := 1, modTime := 0, result := 7 }

def recState (q : Nat) (x : Option QueuePair) : State :=
  { up with host := { up.host with record := { rec0 with qp := q }, qps := match x with
      | some y => [(q, y)]
      | none => [] } }

def idle : QueuePair := { ring with state := .disabled, cqHead := 3, cqTail := 3 }

def qpMsg (cmd : Nat) (x : QueuePair) : State :=
  setMailSlot 0 0 { w0 := BitVec.ofNat 64 (1 + 4 * 2 ^ 8 + cmd * 2 ^ 16 + 2 ^ 32), w1 := 0, body := [0, 0, 0, 0] } (recState 0 (some x))

def ideState (req : Bool) : State := { ringed with host := { ringed.host with ide := [⟨true, 0, 3⟩], ideRequired := req } }

def dualState : State := { up with custody := { up.custody with dual := true, session := .opened } }

def shared : State :=
  { up with host := { up.host with vfEnable := true, numVfs := 4, qps := [(9, { ring with fn := 1 })] }
            tenants := { up.tenants with insts := [(1, { Inst.empty with state := .active, qpBase := 8, qpCount := 2 })] } }

def inst1 (n : Nat) : State := { shared with tenants := { shared.tenants with record := { shared.tenants.record with number := n, qpBase := if n = 1 then 8 else 16, qpCount := 2, share := 5 } } }

def dying : State := { shared with tenants := { shared.tenants with insts := [(1, { Inst.empty with state := .destroying })] } }

/-- A Chain whose one Link, of an opcode, is ISSUED. -/
def issuing (op : Nat) : Chain :=
  { body := { hdr := List.replicate 8 0, links := [⟨op, 0, 0, 0⟩] }, epoch := 0, qp := 0, fn := 0, tag := 7, prio := 0, expiry := 9000,
    admSeq := 0, inlineArea := zeros 40, inputAddr := 0x2000, inputLen := 4, inputLanded := false, resultAddr := 0,
    buffers := [3], links := [{ LinkRun.pending with st := .issued, dueTick := some 5 }], requested := [], keys := [], status := 0,
    firstFail := 0xFF, debug := false, small := 0, large := 0, uses := 0, closed := false, revoked := false, finished := false,
    writtenBack := false, wbSent := 0, waitRecords := [], waitPages := [], waitEvent := 0 }

/-- Chain context 2 runs a Link of an opcode. -/
def linked (op : Nat) : State := { ringed with disp := { Dispatcher.reset with chains := [(2, issuing op)] } }

def jobbed : Pair := { Pair.empty with a := { Region.empty with job := some (2, 0) }, running := some false }

/-- Pair 0 of a kind runs it. -/
def pairLinked (lattice : Bool) (op : Nat) : State :=
  let s := linked op
  if lattice then { s with engines := { s.engines with lattice := [(0, jobbed)] } }
  else { s with engines := { s.engines with pke := [(0, jobbed)] } }

def delayed : State :=
  let s := linked 4
  { s with disp := { s.disp with tick := 6, due := [{ kind := .delayLink, a := 2, b := 0, tick := 5 }] } }

theorem linked_meets {op : Nat} (h : (linkCtx (linked op) 2 0 op).isSome = true) :
    ∃ c n s x, linkCtx s c n op = some x := ⟨2, 0, linked op, Option.isSome_iff_exists.mp h⟩

theorem pairLinked_meets {lattice : Bool} {op : Nat}
    (h : (match linkCtx (pairLinked lattice op) 2 0 op with | some x => !x.r.stopping | none => false) = true)
    (hp : pairOf (pairLinked lattice op) lattice 2 0 = some (0, false))
    (hr : (getPair (pairLinked lattice op) lattice 0).running = some false)
    (hj : ((getPair (pairLinked lattice op) lattice 0).region false).job = some (2, 0)) :
    ∃ c n p b s x, linkCtx s c n op = some x ∧ pairOf s lattice c n = some (p, b) ∧
      (getPair s lattice p).running = some b ∧ ((getPair s lattice p).region b).job = some (c, n) ∧ x.r.stopping = false := by
  cases e : linkCtx (pairLinked lattice op) 2 0 op with
  | none => rw [e] at h; exact absurd h (by decide)
  | some x =>
    rw [e] at h
    exact ⟨2, 0, 0, false, _, x, e, hp, hr, hj, by simpa using h⟩

/-- A Chain context 2 that runs one Link with the words, inline area and keys given. -/
def keyLink (l : LinkWords) (area draw nonce : Bytes) (k0 k1 : KeyVal) : State :=
  { ringed with
    disp := { Dispatcher.reset with chains := [(2,
      { body := { hdr := List.replicate 8 0, links := [l] }, epoch := 0, qp := 0, fn := 0, tag := 7, prio := 0, expiry := 9000,
        admSeq := 0, inlineArea := area, inputAddr := 0x2000, inputLen := 4, inputLanded := false, resultAddr := 0,
        buffers := [3], links := [{ LinkRun.pending with st := .issued, draw := draw, nonce := nonce }], requested := [], keys := [],
        status := 0, firstFail := 0xFF, debug := false, small := 0, large := 0, uses := 0, closed := false, revoked := false,
        finished := false, writtenBack := false, wbSent := 0, waitRecords := [], waitPages := [], waitEvent := 0 })] }
    engines := { Engines.reset with lanes := [(0, { chain := 2, link := some 0, key0 := some k0, key1 := some k1, keyBuffer := none })] } }

def inlineRef (off len : Nat) : Nat := 1 + off * 2 ^ 8 + len * 2 ^ 16

def bufferRef (len : Nat) : Nat := 2 + len * 2 ^ 16

def kindWrap : KeyVal := { attr := 5, bytes := (List.range 32).map byte }

def otherKey : KeyVal := { attr := 5, bytes := (List.range 32).map fun i => byte (200 - i) }

/-- The attribute word of an HMAC key that PF0 owns. -/
def macAttr : Nat := wordOfAttr (ownedBy 0 (attrOfWord (0x18 + 0x0B * 2 ^ 5 + 6 * 2 ^ 10 + 2 ^ 14)))

def macKey : Bytes := (List.range 30).map fun i => byte (3 * i)

def x9Block : Bytes := x9Seal kindWrap (attrOfWord macAttr) macKey 0

def domBlock : Bytes := domainSeal kindWrap.bytes (zeros 12) 0 macAttr 0 macKey

def blankCtx : LinkCtx :=
  { ch := issuing 0, l := ⟨0, 0, 0, 0⟩, r := LinkRun.pending, p := 0, in0 := [], in1 := [], in2 := [], key0 := kindWrap, key1 := kindWrap, priv := .error 0 }

def ctxOf (s : State) (op : Nat) : LinkCtx := match linkCtx s 2 0 op with | some x => x | none => blankCtx

theorem ctxOf_eq {s : State} {op : Nat} (h : (linkCtx s 2 0 op).isSome = true) : linkCtx s 2 0 op = some (ctxOf s op) := by
  unfold ctxOf
  cases e : linkCtx s 2 0 op with
  | none => rw [e] at h; cases h
  | some x => rfl

def x9Of (x : LinkCtx) : X9Key := match x9Open x.key0 x.in0 with | .ok k => k | .error e => ⟨e, 0, 0, 0, []⟩

def domOf (x : LinkCtx) : OpenedBlock := match domainOpen x.key0 0 0 x.in0 with | .ok k => k | .error e => ⟨e, 0, []⟩

def op0 (op len : Nat) : LinkWords := ⟨op, 4 * 2 ^ 32, inlineRef 0 len, bufferRef 200 * 2 ^ 32⟩

def sX9 : State := keyLink ⟨0x101, 4 * 2 ^ 32, inlineRef 0 (x9Block.length) + inlineRef 240 8 * 2 ^ 32, 0⟩ (padTo 248 x9Block) [] [] kindWrap otherKey

def sDom : State := keyLink (op0 0x103 domBlock.length) domBlock [] [] kindWrap otherKey

def genAttr : Nat := 5 + 0x0C * 2 ^ 5 + 3 * 2 ^ 10

def sGen : State := keyLink (op0 0x106 8) (natLE 8 genAttr) (natLE 32 77) [] kindWrap otherKey

def sGenFull : State := { sGen with keys := { sGen.keys with slots := [(4, { state := .valid, key := natLE 32 1, attr := genAttr, kcv := [], check := 0 })] } }

def sDel : State := keyLink (op0 0x107 8) [] [] [] kindWrap otherKey

def sUnwrap : State := keyLink (op0 0x105 domBlock.length) domBlock [] [] kindWrap otherKey

def sConv : State := keyLink (op0 0x108 x9Block.length) x9Block [] (zeros 12) kindWrap otherKey

def sDer : State := keyLink ⟨0x110 + (5 + 0x0C * 2 ^ 5 + 3 * 2 ^ 10) * 2 ^ 32, 0, inlineRef 0 32 + inlineRef 32 4 * 2 ^ 32, bufferRef 32 * 2 ^ 32⟩ (natLE 40 9) [] [] kindWrap otherKey

def admBody : Body := { hdr := List.replicate 8 0, links := [⟨0, 0, 0, 0⟩] }

def offeredQp : QueuePair := { ring with fetched := [zeros 64] }

def admitting : State :=
  { up with modes := { up.modes with word := { up.modes.word with service := true } }
            host := { up.host with qps := [(0, offeredQp)] }
            epochs := { up.epochs with templates := [(0, { Template.empty with owner := 0, body := some admBody })] } }

def readyState (level : Nat) : State :=
  let s := linked 1
  { s with disp := { s.disp with chains := [(2, { issuing 1 with links := [{ LinkRun.pending with st := .ready }] })] }
           energy := { s.energy with level := level } }

def readyCand : Cand := { c := 2, n := 0, l := ⟨1, 0, 0, 0⟩, r := { LinkRun.pending with st := .ready }, prio := 0, fn := 0 }

def readyChain : Chain := { issuing 1 with links := [{ LinkRun.pending with st := .ready }] }

def stoppingPair : State :=
  let s := pairLinked true 0x811
  { s with disp := { s.disp with chains := [(2, { issuing 0x811 with links := [{ LinkRun.pending with st := .issued, stopping := true }] })] } }

def instOf (s : State) (op : Nat) : Nat × Bytes := ((installs s 2 op (ctxOf s op)).toOption).getD (0, [])

def instErr (s : State) (op : Nat) : Nat := (statusOf (installs s 2 op (ctxOf s op))).getD 0

def sEmpty : State := keyLink (op0 0x101 8) [] [] [] kindWrap otherKey

def sEmpty3 : State := keyLink (op0 0x103 8) [] [] [] kindWrap otherKey

def sEmpty5 : State := keyLink (op0 0x105 8) [] [] [] kindWrap otherKey

def sEmpty8 : State := keyLink (op0 0x108 8) [] [] [] kindWrap otherKey

def sDelLocked : State := { sDel with flow := { sDel.flow with locks := [(4, { holder := chainTag 3, lease := 900 })] } }

def sExp (op : Nat) : State := keyLink (op0 op 8) [] [] (zeros 12) kindWrap otherKey

def sConvNone : State := keyLink (op0 0x108 x9Block.length) x9Block [] [] kindWrap otherKey

def readyOp (l : LinkWords) : State :=
  let s := readyState 1000000
  { s with disp := { s.disp with chains := [(2, { issuing 1 with
      body := { hdr := List.replicate 8 0, links := [l] }, links := [{ LinkRun.pending with st := .ready }] })] } }

def candOf (s : State) : Cand := (issuable (defer s)).headD readyCand

def chainOf (s : State) : Chain := (getChain (defer s) 2).getD readyChain

def fwWords : LinkWords := ⟨0xB00, 0, 0, 0⟩

def handing : State :=
  let s := readyOp fwWords
  { s with cores := { s.cores with cores := [(3, { Core.reset with wait := .waitw 1 none, waitRd := 12, pc := 0x80 })] } }

def refusedSlot : State := readyOp ⟨0x310 + 2 ^ 24, 4, inlineRef 0 8, bufferRef 8 * 2 ^ 32⟩

def readErr (s : State) : Nat := match readKeys (defer s) (chainOf s) (candOf s).l with | .failed st _ => st | _ => 0

def slowWords : LinkWords := ⟨0x702 + 0x4000 * 2 ^ 32, 0, 0, 0⟩

def quickWords : LinkWords := ⟨0x703 + 0x1000 * 2 ^ 32, 0, 0, 0⟩

def slowChain : Chain := { issuing 0x702 with
  body := { hdr := List.replicate 8 0, links := [slowWords] }, prio := 3, links := [{ LinkRun.pending with st := .issued }] }

def quickChain : Chain := { issuing 0x703 with
  body := { hdr := List.replicate 8 0, links := [quickWords] }, admSeq := 1, links := [{ LinkRun.pending with st := .ready }] }

/-- Every PKE pair runs a job; that of pair 0 is long, and a short Link is READY. -/
def crowded : State :=
  { ringed with
    disp := { Dispatcher.reset with chains := [(2, slowChain), (3, quickChain)] }
    energy := { ringed.energy with level := 1000000 }
    rng := { ringed.rng with buffer := zeros 64 }
    epochs := { ringed.epochs with config := { ringed.epochs.config with yieldLimit := 4 } }
    engines := { ringed.engines with pke := (List.range 32).map fun p =>
      (p, { Pair.empty with a := { Region.empty with job := some (2, if p = 0 then 0 else 7) }, running := some false }) } }

def slowMoved : Region :=
  { (getPair crowded false 0).region false with
    points := ((getPair crowded false 0).region false).points + 1, eligible := true,
    ran := ((getPair crowded false 0).region false).ran +
      Config.yieldInterval (yieldSeed []) ((getPair crowded false 0).region false).points }

def crowdedOn : State := putPair false 0 ((getPair crowded false 0).setRegion false slowMoved) crowded

def quickCand : Cand := { c := 3, n := 0, l := quickWords, r := { LinkRun.pending with st := .ready }, prio := 0, fn := 0 }

theorem slowMoved_yields : [quickCand].filter (mayPreempt slowMoved slowWords slowChain.prio) = [quickCand] := by
  have h := (Sys2Proof.Laws.yieldInterval_bounds (yieldSeed []) ((getPair crowded false 0).region false).points).2
  have hr : slowMoved.ran = Config.yieldInterval (yieldSeed []) ((getPair crowded false 0).region false).points := by
    unfold slowMoved
    simp only [show ((getPair crowded false 0).region false).ran = 0 from by decide +kernel, Nat.zero_add]
  have hk : pkeLatency quickCand.l < 10000 ∧ 100000 < pkeLatency slowWords := by decide +kernel
  have hm : mayPreempt slowMoved slowWords slowChain.prio quickCand = true := by
    unfold mayPreempt
    rw [hr, Bool.and_eq_true]
    exact ⟨by decide +kernel, decide_eq_true (by omega)⟩
  simp only [List.filter, hm]

theorem crowdedOn_candidates : candidates crowdedOn [5] = [quickCand] := by decide +kernel

theorem crowdedOn_yields :
    (candidates crowdedOn [5]).filter (mayPreempt slowMoved slowWords slowChain.prio) = [quickCand] := by
  rw [crowdedOn_candidates]; exact slowMoved_yields

def doneChain : Chain :=
  { issuing 0 with links := [{ LinkRun.pending with st := .done }], finished := true, resultAddr := 0x5000
                   body := { hdr := [0, 0, 0, 0, 0, 0, 0, 0], links := [⟨0, 0, 0, 0⟩] } }

def owingBody : Body := { hdr := [1 * 2 ^ 12, 0, 0, 0, 0, 0, 0, 0], links := [⟨0, 0, 0, 0⟩] }

def finishedState (ch : Chain) : State := { ringed with disp := { Dispatcher.reset with chains := [(2, ch)] } }

def timerState : State :=
  { up with host := { up.host with qps := [(0, { ring with modDue := some 5, irqPending := 1 })], msix := [(0, { unmasked := [1], pending := [], table := [] })] }
            disp := { up.disp with tick := 9 } }

def waitingState : State := { up with host := { up.host with posted := [(0, 3)] } }

def queuedRefusal : QueuedCompletion := { qp := 0, tag := 9, status := 0x0501, firstFail := 0xFE, flags := 0 }

def refusedState : State := { ringed with host := { ringed.host with queued := [queuedRefusal] } }

def agingChain : Chain := { issuing 1 with links := [{ LinkRun.pending with st := .ready }] }

def expiring : State :=
  { finishedState { agingChain with expiry := 5, expired := true } with
    disp := { Dispatcher.reset with chains := [(2, { agingChain with expiry := 5, expired := true })], tick := 6,
                                    due := [{ kind := .expiry, a := 2, b := 0, tick := 5 }] } }

def leased : State :=
  { up with disp := { up.disp with tick := 6, due := [{ kind := .slotLock, a := 7, b := 0, tick := 5 }] }
            flow := { up.flow with locks := [(7, { holder := 2, lease := 5 })] } }

def thousandth : State := { up with disp := { up.disp with tick := 1000 } }

def sampled (temps : List Int) : State := { up with energy := { up.energy with temps := temps, samples := min 100 (up.energy.samples + 1) } }

def held (n : Nat) : State := { up with modes := { up.modes with heldRun := n, quietRun := n } }

def throttledState : State := { held 1000 with modes := { (held 1000).modes with word := { up.modes.word with throttled := true } } }

def owing : Chain := { doneChain with body := { hdr := [2 ^ 24, 0, 2 + 4 * 2 ^ 16, 0, 0, 0, 0, 0], links := [⟨0, 0, 0, 0⟩] } }

def unsoundEnergy : State := { up with energy := { up.energy with smallPool := 3 } }

def unsoundTable : State := { up with flow := { up.flow with granted := 1 } }

def oneOff : List Int := [100, 100, 100, 100, 100, 100, 100, 160]

def monitorless : State := { thousandth with energy := { up.energy with monitorOut := true } }

def pf0 : Path := .mailbox 0

def stagedDeadline : State := { up with epochs := { up.epochs with staged := { up.epochs.staged with maxDeadline := some 5000 } } }

def switching : State := { up with modes := { up.modes with word := { up.modes.word with epochSwitch := true } } }

def settlingState (w : Bool) : State := { stagedDeadline with epochs := { stagedDeadline.epochs with settling := true, commitWaits := w } }

def recordState : State := { up with epochs := { up.epochs with record := { slot := 3, owner := 0, addr := 0x4000, len := 96, result := 9 } } }

def fetching : State := { recordState with host := { up.host with reads := [⟨5, .template 3 0, 0, 0x4000, 96, true⟩] } }

def goodBody : Bytes := natLE 8 (1 + 2 ^ 8 + 2 ^ 48) ++ zeros 88

def idleState : State :=
  { up with modes := { up.modes with dozePermission := 2, idleFor := 5000000 }
            cores := { up.cores with cores := (List.range (coreCount up)).map fun k => (k, { Core.reset with halted := true }) } }

def dozing (n : BitVec 2) : State :=
  { idleState with modes := { idleState.modes with word := { up.modes.word with doze := true, dozeDepth := n } } }

def revokedState : State :=
  let s := finishedState { doneChain with revoked := true }
  { s with flow := { s.flow with buffers := [(3, 2)] } }

def poor : State := { fetching with host := { up.host with reads := [⟨5, .template 3 1, 0, 0x4000, 96, true⟩] } }

def revokedIssued : State := finishedState { issuing 1 with revoked := true }

/-- Slot 0 of PF0's mailbox holds a message that is next. -/
def asked (cmd : Nat) (body : Bytes) (s : State) : State :=
  setMailSlot 0 0 { w0 := BitVec.ofNat 64 (1 + body.length * 2 ^ 8 + cmd * 2 ^ 16 + 2 ^ 32),
                    w1 := BitVec.ofNat 64 (mailCheck body.length cmd 1 body), body := padTo 240 body } s

def odBody (index sub : Nat) (value : Bytes) : Bytes := natLE 2 index ++ [byte sub, 0] ++ value

def lockedUp : State := { up with sec := { up.sec with sticky := 1 } }

def slotted (st : SlotState) : State :=
  { up with keys := { up.keys with slots := [(4, { state := st, key := natLE 32 1, attr := wordOfAttr (ownedBy 0 (attrOfWord genAttr)), kcv := [], check := 0 })]
                                   selects := [(0, { slot := 4, result := 9 })] } }

def serving : State := { up with modes := { up.modes with word := { up.modes.word with service := true } } }

def countedAttr : Nat := wordOfAttr { ownedBy 0 (attrOfWord genAttr) with ctrEn := true, persist := true, counter := 1000 }

def floored : State :=
  { up with keys := { up.keys with slots := [(4, { state := .valid, key := natLE 32 1, attr := countedAttr, kcv := [], check := 0 })]
                                   entries := [(9, (4, 1000))] } }

def ceremonial (n : Nat) (s : State) : State :=
  { s with custody := { s.custody with session := .opened, dual := true, ceremony := n } }

def staging : State := { up with images := { up.images with slotB := 1, byPath := pathKey .custody } }

def rootless : State := { up with keys := { up.keys with rootPending := true, rootHeld := false }, tamper := { up.tamper with quietFor := 2000, live := 0 } }

def readAsk : State := asked 1 (odBody 0x2200 3 []) up

def readLocked : State := asked 1 (odBody 0x2200 3 []) lockedUp

def readWrong : State := asked 1 (odBody 0x2200 3 [1]) up

def readNone : State := asked 1 (odBody 0x2222 3 []) up

def dozed (s : State) : State := { s with modes := { s.modes with word := { s.modes.word with doze := true, dozeDepth := 1 } } }

def readDozed : State := dozed readAsk

def writeAsk : State := asked 2 (odBody 0x2200 3 (natLE 2 0x0123)) up

def writeDozed : State := dozed writeAsk

def writeLocked : State := asked 2 (odBody 0x2200 3 (natLE 2 1)) lockedUp

def writeShort : State := asked 2 (odBody 0x2200 3 [1]) up

def writeStage : State := asked 2 (odBody 0x3200 1 (natLE 2 5)) up

def writeOther : State := asked 2 (odBody 0x9000 6 (natLE 4 8448)) staging

def emptySlotted : State := { slotted .valid with keys := { (slotted .valid).keys with slots := [] } }

def noise : List Bool := (List.range 1024).map fun i => ((i * i * i * 40503) / 2048) % 2 == 1

def sourced (x : Source) (s : State) : State := { s with rng := { s.rng with sources := [x, Source.reset, Source.reset, Source.reset] } }

def stuck : Source := { Source.reset with run := 80, last := some true, started := true }

def full : Source := { Source.reset with window := noise, started := true }

def flat : Source := { Source.reset with window := List.replicate 1024 true, started := true }

def released : State :=
  { up with rng := { up.rng with sources := List.replicate 4 { full with released := some noise } } }

def aDrbg : Drbg := drbgInstantiate (zeros 48) (zeros 48)

def withDrbg (s : State) : State := { s with rng := { s.rng with drbg := some aDrbg, state := 1, reserve := [] } }

def filled : State := { withDrbg up with rng := { (withDrbg up).rng with reserve := zeros 256 } }

def debugging : State := { up with life := { up.life with debugOpen := true, portClosed := false, state := .test }
                                   modes := { up.modes with word := { up.modes.word with debugOpen := true } } }

def levelsOf (b : List Bool) : List (Bool × Bool) := b.map fun x => (x, false)

def fourBits : List (Bool × Bool) := levelsOf [true, false, true, false]

def strobed (s : State) : List Source := (s.rng.sources.zip [true, false, true, false]).map fun x => takeBit x.1 x.2

def liveFreqs : List (Nat × Nat) := List.replicate 4 (300000, 400000)

def capturing : State := { debugging with rng := { debugging.rng with capture := 2 } }

def capturedSources : List Source := setAt capturing.rng.sources 2 { getSource capturing 2 with streamed := true }

/-- Core 0 stands at address 0x100 of its firmware region. -/
def coring (c : Core) : State :=
  { up with access := { up.access with loaded := true }, cores := { up.cores with cores := [(0, c)] }
            disp := { up.disp with tick := 1000 }, energy := { up.energy with level := 10000000, d := 4096 } }

def core0 : Core := { Core.reset with pc := 0x100, ssp := 0x30000, ssl := 0x20000, wait := .running, halted := false, globals := List.replicate 16 0 }

def trapCore : Core := { core0 with cwp := 11, winuse := 11, pwp := 3, spilln := 0 }

def atWord (w : Nat) (s : State) : State := { s with scratch := Memory.writeN s.scratch 0x100 (natLE 4 w) }

def withG (i : Nat) (v : BitVec 64) (c : Core) : Core := { c with globals := setAt c.globals i v }

def heldCore : Core := { core0 with link := some (2, 0) }

def holding (c : Core) : State :=
  { coring { c with link := some (2, 0) } with
    disp := { (coring c).disp with chains := [(2, { issuing 0xB00 with links := [{ LinkRun.pending with st := .issued, unit := some 0 }] })] } }

def waitingLink : State :=
  { coring { core0 with wait := .waitw 1 none, waitRd := 1 } with
    disp := { (coring core0).disp with chains := [(2, { issuing 0xB00 with links := [{ LinkRun.pending with st := .ready }] })] } }

def requesting (w : Bytes) (s : State) : State := { s with scratch := Memory.writeN s.scratch 0x20000 w }

def timed (c : Core) (k : DueKind) (n : Nat) : State :=
  { coring c with disp := { (coring c).disp with tick := 6, due := [{ kind := k, a := 0, b := n, tick := 5 }] } }

def cand0 : Cand := ((issuable (defer waitingLink)).head?).getD { c := 0, n := 0, l := linkOfBytes (zeros 32), r := LinkRun.pending, fn := 0, prio := 0 }

def inlined : State :=
  { holding core0 with
    disp := { (holding core0).disp with chains := [(2, { issuing 0xB00 with
      body := { (issuing 0xB00).body with links := [⟨0xB00, 0, 1 + 8 * 2 ^ 16, 0⟩] }
      links := [{ LinkRun.pending with st := .issued, unit := some 0 }] })] } }

def reserved (n : Nat) (c : Core) : State := { coring c with rng := { up.rng with state := 1, filled := true, reserve := natLE 8 77 ++ zeros n } }

def farCore : Core := { core0 with pc := 0x30000 }

def heldChain : Chain := (getChain (holding core0) 2).getD (issuing 0)

def heldWords : LinkWords := (heldLink (holding core0) 0 |>.map (fun x => x.2.2.2.1)).getD (linkOfBytes (zeros 32))

def heldRun : LinkRun := { LinkRun.pending with st := .issued, unit := some 0 }

def pwait : State := coring { core0 with wait := .waite 5 none, waitRd := 9 }

def detecting : State := { pwait with disp := { (coring core0).disp with allWaitingFor := 100, detectorArmed := true }
                                      cores := { pwait.cores with cores := (List.range (coreCount pwait)).map fun k => (k, if k = 0 then getCore pwait 0 else { Core.reset with halted := true, wait := .running }) } }

/-- Core 0 holds a Link whose OUT is the first 8 bytes of its buffer. -/
def outing : State :=
  { holding core0 with
    disp := { (holding core0).disp with chains := [(2, { issuing 0xB00 with
      body := { (issuing 0xB00).body with links := [⟨0xB00, 0, 0, (2 + 8 * 2 ^ 16) * 2 ^ 32⟩] }
      links := [{ LinkRun.pending with st := .issued, unit := some 0 }] })] } }

def outChain : Chain := (getChain outing 2).getD (issuing 0)

def outWords : LinkWords := ⟨0xB00, 0, 0, (2 + 8 * 2 ^ 16) * 2 ^ 32⟩

def slotting : State := { coring core0 with keys := { up.keys with slots := [(4, { state := .valid, key := natLE 32 1, attr := wordOfAttr (ownedBy 0 (attrOfWord genAttr)), kcv := [], check := 0 })] } }

def slotAttr : Nat := wordOfAttr (ownedBy 0 (attrOfWord genAttr))

def unloaded : State := { coring core0 with access := { up.access with loaded := false } }

def testing_ (e : TestEngine) : State :=
  { up with memTest := { up.memTest with engines := [(0, e), (5, e), (6, e), (7, e)], enable := true }, disp := { up.disp with tick := 1000000000 } }

def recorded (r : FaultRecord) (s : State) : State :=
  { s with faults := { s.faults with records := [(3, r)] }, dict := { s.dict with paths := [(pathKey pf0, { PathSel.reset with faultSel := 3 })] } }

def latched : FaultRecord :=
  { code := faultCode 2 4 1, index := 2, state := recLatched, merges := 0, sources := 16, lastCode := faultCode 2 4 1, lastIndex := 2,
    first := 0, last := 0, args := zeros 32, units := [(4, 2)], testing := [], opened := 0 }

def withdrawnUp : State := { up with faults := { up.faults with withdrawn := [(4, 2), (11, 0)] } }

def clearingRec : FaultRecord := { latched with state := recClearing, testing := [(4, 2)] }

def clearingTwo : FaultRecord := { latched with state := recClearing, testing := [(9, 1), (4, 2)] }

def fatalRec : FaultRecord := { latched with code := faultCode 3 0x10 1, state := recHandling, units := [] }

def escalating (b : Bool) : State :=
  let s := recorded fatalRec { up with disp := { up.disp with tick := 1000000 } }
  { s with faults := { s.faults with escalating := b, escalateBy := 5 } }

def waitingLog : State :=
  { escalating true with faults := { (escalating true).faults with escalateBy := 2000000, escalateEvent := 1 }, log := { (escalating true).log with total := 0 } }

def writing (w : PageWrite) (s : State) : State := { s with mram := { s.mram with current := some w } }

def pw (st : Store) (q : Nat) (r : Bool) : PageWrite := { prio := 7, store := st, page := q, payload := zeros 504, retried := r }

def erasing_ (p : ErasePurpose) (st : Store) (s : State) : State :=
  { s with mram := { s.mram with erases := [{ purpose := p, store := st, pages := [3, 2], source := 0 }] } }

def anEvent : LogEvent := { time := 5, code := 0x0501, source := 0xFFFF, boot := 0, args := zeros 32 }

def logUp (s : State) : State := { s with log := { s.log with tailFound := true }, locket := { s.locket with tailFound := true } }

def stagedUp : State := let s := logUp up; { s with log := { s.log with staged := [anEvent] } }

def repeating : State := { stagedUp with log := { stagedUp.log with records := 9, last := logRecord 8 anEvent 1 } }

def rooted (s : State) : State := { s with keys := { s.keys with rootHeld := true }, rng := { s.rng with reserve := zeros 300, state := 1, drbg := none, filled := true } }

def loading : State := { up with boot := { up.boot with phase := .loading } }

def covered (s : State) : State :=
  { s with log := { s.log with covers := true, hold := some 70000000 }, locket := { s.locket with covers := true } }

def spent (s : State) : State := { s with mram := { s.mram with replaced := (List.range spareCount).map fun i => (70000 + i, i) } }

def unsignedUp : State := { rooted up with rng := { (rooted up).rng with reserve := zeros 100 } }

def heldFull : State :=
  let s := { stagedUp with log := { stagedUp.log with records := 65536, tailFound := true } }
  { s with modes := { s.modes with word := modeWordNow s } }

def aMove : Transition := ⟨.production, .endOfLife, [3, 4], 0, 0, false, 0xFFFF⟩

def transitioning (s : State) : State := { s with life := { s.life with transition := some aMove } }

def bootPage : PageWrite := { prio := 2, store := .locket, page := 7, payload := overlay 1 [1] (zeros 504), retried := true }

def fullLocket : State :=
  let p := physical up (Store.locket.copyA + 8191)
  let l := rooted loading
  { l with mram := { l.mram with pages := [(p, writtenPage p 1 (zeros 504))] } }

def stageReady : State := { up with images := { up.images with stageLen := imageMin + 100, stageAddr := 0x10000, slotB := 0, imageLen := imageMin + 100, imageAddr := 0x10000 } }

def stagingIn (v : Nat) (dma : Bool) : State :=
  { stageReady with images := { stageReady.images with slotB := v, dma := dma, byPath := pathKey pf0, stageDue := some 5 }
                    disp := { up.disp with tick := 9 }
                    host := { up.host with reads := [⟨7, .image 0, 0, 0x10000, 4096, true⟩, ⟨8, .image 0, 0, 0x10000, 4096, true⟩, ⟨9, .input 0, 0, 0x10000, 4096, true⟩] } }

def verifyingBoot : State := { up with boot := { up.boot with phase := .verifying } }

/-- A boot whose slot A holds an image of a valid header, which fails no check before the signatures. -/
def advancing (n : Nat) : State := { logUp up with boot := { up.boot with imageSecurity := n }, locket := { up.locket with recordQueued := true } }

def reloading_ : State :=
  { rooted up with tamper := { up.tamper with reloading := true }
                   keys := { (rooted up).keys with vault := [(0, ⟨zeros 32, zeros 32, 0, true, []⟩)] } }

def blanked (dir : Bytes) : State :=
  { up with life := { up.life with state := .test, debugOpen := false }
            mram := { up.mram with queue := [{ prio := 6, store := .config, page := certDirectory, payload := padTo 504 dir, retried := false }] } }

def imageDir : Bytes := natLE 4 1 ++ natLE 4 8448 ++ zeros 8 ++ natLE 4 2 ++ natLE 4 8448 ++ zeros 232

/-- The slot at a page holds an image of a valid header and directory, with keys that the fuses name and no valid signature. -/
def imaged (p : Nat) (s : State) : State :=
  let head := padTo 504 (ascii "SKFW" ++ natLE 4 1 ++ natLE 4 8448 ++ zeros 20 ++ sha384 imageDir)
  { s with mram := { s.mram with
             pages := [(p, writtenPage p 1 head), (p + 16, writtenPage (p + 16) 1 (padTo 504 (zeros 128 ++ imageDir)))] }
           fuses := { s.fuses with ecdsaDigest := sha384 (zeros 97), mldsaDigest := sha384 (zeros 2592) } }

def certFor (point : Bytes) : Bytes :=
  let der := fun (tag : Nat) (body : Bytes) => byte tag :: byte body.length :: body
  der 0x30 (der 0x30 (zeros 10 ++ der 0x30 (der 0x30 [] ++ der 3 (0 :: point))))

def certified (n : Nat) : State :=
  { blanked [] with dict := { up.dict with certData := [(0, certFor (attestPoint (blanked [])))] } }

theorem commit_fits {s : State} {v : Bytes} (h1 : directoryBlank s = true) (h2 : s.life.debugOpen = false)
    (h3 : certLengthsFit v = true) (h4 : (List.range ((commitLengths v).foldl (· + ·) 0)).all (certWritten s) = true)
    (h5 : certKeyBits (certHead s ((commitLengths v).getD 0 0)) = some (0 :: attestPoint s)) : certCommitResult s v = 0 := by
  unfold certCommitResult; dsimp only
  rw [h1, h2, h3, h4, h5]; simp

theorem derItem_der (tag : Nat) (body rest : Bytes) (h : body.length < 128) :
    derItem (byte tag :: byte body.length :: (body ++ rest)) = some ((byte tag).toNat, body, rest) := by
  have k : (byte body.length).toNat = body.length := by simp [byte]; omega
  simp only [derItem, k, h, if_true]
  rw [if_pos ⟨by omega, by simp⟩]; simp

theorem certFor_length (p : Bytes) : (certFor p).length = p.length + 21 := by simp [certFor, zeros]

theorem natLE_length (len n : Nat) : (natLE len n).length = len := by
  induction len generalizing n with
  | zero => rfl
  | succ k h => simp [natLE, h]

theorem derItem_all (tag : Nat) (body : Bytes) (h : body.length < 128) :
    derItem (byte tag :: byte body.length :: body) = some ((byte tag).toNat, body, []) := by
  simpa using derItem_der tag body [] h

theorem derItem_empty (tag : Nat) (rest : Bytes) :
    derItem (byte tag :: byte 0 :: rest) = some ((byte tag).toNat, [], rest) := derItem_der tag [] rest (by simp)

theorem certFor_bits (p : Bytes) (h : p.length < 100) : certKeyBits (certFor p) = some (0 :: p) := by
  have der : ∀ rest : Bytes, derItem ((0 : Byte) :: (0 : Byte) :: rest) = some (0, [], rest) := fun rest => derItem_empty 0 rest
  have a := derItem_all 3 (0 :: p) (by simp; omega)
  have b := derItem_all 0x30 (byte 0x30 :: byte 0 :: byte 3 :: byte (0 :: p).length :: (0 :: p)) (by simp; omega)
  have c := derItem_all 0x30 (zeros 10 ++ byte 0x30 :: byte (byte 0x30 :: byte 0 :: byte 3 :: byte (0 :: p).length :: (0 :: p)).length ::
    (byte 0x30 :: byte 0 :: byte 3 :: byte (0 :: p).length :: (0 :: p))) (by simp [zeros]; omega)
  have d := derItem_all 0x30 (byte 0x30 :: byte (zeros 10 ++ byte 0x30 :: byte (byte 0x30 :: byte 0 :: byte 3 :: byte (0 :: p).length :: (0 :: p)).length ::
    (byte 0x30 :: byte 0 :: byte 3 :: byte (0 :: p).length :: (0 :: p))).length :: (zeros 10 ++ byte 0x30 :: byte (byte 0x30 :: byte 0 :: byte 3 :: byte (0 :: p).length :: (0 :: p)).length ::
    (byte 0x30 :: byte 0 :: byte 3 :: byte (0 :: p).length :: (0 :: p)))) (by simp [zeros]; omega)
  have e : derItem [] = none := rfl
  have z : ∀ r : Bytes, zeros 10 ++ r = 0 :: 0 :: 0 :: 0 :: 0 :: 0 :: 0 :: 0 :: 0 :: 0 :: r := fun _ => rfl
  unfold certKeyBits certFor
  dsimp only [List.nil_append, List.cons_append, List.length_nil]
  rw [d]; dsimp only [Option.bind_eq_bind, Option.bind_some]
  rw [c]; dsimp only [Option.bind_some]
  rw [z]
  simp only [derItems, der, b, e]
  have a2 := derItem_empty 0x30 (byte 3 :: byte (0 :: p).length :: (0 :: p))
  clear b c d
  generalize byte (0 :: p).length = q at a a2 ⊢
  have t : (byte 48).toNat = 48 := rfl
  have t3 : (byte 3).toNat = 3 := rfl
  rw [t] at a2
  rw [t3] at a
  simp only [BitVec.ofNat_eq_ofNat] at a a2
  simp [t, a, a2, e]

theorem certified_fits (p : Bytes) (h : p.length = 1 ∨ p.length = 97) :
    ∃ n, certLengthsFit ([1] ++ natLE 2 n ++ zeros 14) = true ∧
      (List.range ((commitLengths ([1] ++ natLE 2 n ++ zeros 14)).foldl (· + ·) 0)).all
        (certWritten { blanked [] with dict := { up.dict with certData := [(0, certFor p)] } }) = true ∧
      certKeyBits (certHead { blanked [] with dict := { up.dict with certData := [(0, certFor p)] } }
        ((commitLengths ([1] ++ natLE 2 n ++ zeros 14)).getD 0 0)) = some (0 :: p) ∧ n < 256 := by
  have head : ∀ n, n = (certFor p).length → n < 504 →
      certHead { blanked [] with dict := { up.dict with certData := [(0, certFor p)] } } n = certFor p := by
    intro n e l
    have q : n / 504 + 1 = 1 := by omega
    simp only [certHead, q]
    simp [certPageBytes, overlay, padTo, ← e, List.range_succ, List.take_append]
    rw [if_pos (by rw [e, certFor_length]; omega)]
    have f : (certFor p).length ≤ 504 - (zeros 0).length := by rw [← e]; simp [zeros]; omega
    rw [List.take_of_length_le f, show List.take 504 (zeros 0) = [] from rfl, List.nil_append, List.take_append_of_le_length (by omega),
      List.take_of_length_le (by omega)]
  have all : ∀ n, n = (certFor p).length →
      (List.range n).all (certWritten { blanked [] with dict := { up.dict with certData := [(0, certFor p)] } }) = true := by
    intro n e; simp [certWritten, ← e]
  have l := certFor_length p
  rcases h with h | h
  · exact ⟨22, by decide +kernel, all 22 (by omega), by
      rw [show ((commitLengths ([1] ++ natLE 2 22 ++ zeros 14)).getD 0 0) = 22 by decide +kernel, head 22 (by omega) (by omega)]
      exact certFor_bits p (by omega), by decide⟩
  · exact ⟨118, by decide +kernel, all 118 (by omega), by
      rw [show ((commitLengths ([1] ++ natLE 2 118 ++ zeros 14)).getD 0 0) = 118 by decide +kernel, head 118 (by omega) (by omega)]
      exact certFor_bits p (by omega), by decide⟩

theorem commit_reaches : ∀ n < 256, reaches (.write pf0) ([1] ++ natLE 2 n ++ zeros 14) (blanked []) pf0 0x1000 0x15
    ([1] ++ natLE 2 n ++ zeros 14) = true := by decide +kernel

def armedUp : State := { up with sec := { up.sec with extArmed := 1 } }

def live (n : Nat) : State := { up with tamper := { up.tamper with live := n } }

def decided (d : Decision) (s : State) : State := { s with tamper := { s.tamper with decisions := [(d, true)] } }

def arming_ : State := { up with tamper := { up.tamper with arming := some (3, true) } }

def flagged : State := { ceremonial 1 up with sec := { up.sec with sticky := 4 } }

def moving (bits : List Nat) (attempts : Nat) : State :=
  { up with life := { up.life with transition := some ⟨.production, .endOfLife, bits, attempts, 0, true, 0⟩ } }

def decodedEnd : State :=
  let s := decided .lifeCycle (moving [] 0)
  { s with life := { s.life with bank0 := BitVec.ofNat 280 (2 ^ 256 - 1) } }

def blankPart : State := { up with life := { up.life with state := .blank, bank0 := 0 } }

def opened_ (s : State) : State := { s with sec := { s.sec with latch := Config.openPattern } }

theorem latch_closed (s : State) (h : s.sec.latch = 0) : latchOpen s = false := by
  rw [latchOpen, h]; exact decide_eq_false (fun e => Laws.openPattern_ne_zero e.symm)

theorem latch_opened (s : State) : latchOpen (opened_ s) = true := decide_eq_true rfl

theorem latch_result {s : State} {r : Nat} (opening : Bool) (h : latchOpen s = !opening)
    (k : (if s.life.state ≠ .production ∨ s.life.resetDue.isSome = true ∨
      s.mram.erases.any (fun e => decide (e.purpose = .latch)) = true then 1
      else if s.modes.word.service then 2 else if lockedNow s then 3 else if evlogFull s then 4 else 0) = r) :
    latchResultOf s opening = r := by
  rw [latchResultOf, h, ← k]; cases opening <;> simp

def rearming : State := let s := ceremonial 4 armedUp; { s with tamper := { s.tamper with arming := some (1, true) } }

def alone (told : Bool) : State :=
  { up with tamper := { up.tamper with lightAlone := some (1, 5, told) }, sec := { up.sec with deviceTime := 100000 } }

def badState : State :=
  let s := ceremonial 10 up
  { s with life := { s.life with state := .invalid, bank0 := BitVec.ofNat 280 (0xFF * 2 ^ intentBase .test) } }

/-- A Llyno frame from console 0 of the session's keys. -/
def llynoIn (type session seq : Nat) (content key : Bytes) : Frame :=
  let body := [byte 1, byte type] ++ natLE 2 content.length ++ natLE 4 session ++ natLE 4 seq ++ content
  { source := [2, 0, 0, 0, 0, 9], dest := [2, 0, 0, 0, 0, 0], body := body ++ cmac .aes key ([2, 0, 0, 0, 0, 9] ++ body) }

def consoled (s : State) : State :=
  { s with custody := { s.custody with linkUp := true, presA := some 5, presB := some 6, dual := true }, rng := { s.rng with state := 1, filled := true, reserve := (List.range 300).map byte }
           keys := { s.keys with rootHeld := true, vault := [(3, ⟨zeros 32, zeros 32, consoleAttr, true, []⟩), (20, ⟨zeros 32, zeros 32, 0, true, []⟩)] }
           disp := { s.disp with tick := 9000000 } }

def sessioned (st : Session) (s : State) : State :=
  let s := consoled s
  { s with custody := { s.custody with
      session := st, console := 0, sessionId := 77, kmac := zeros 32, kwrap := zeros 32, peerMac := [2, 0, 0, 0, 0, 9], seq := 4,
      due := 5, idle := 60 } }

def frame77 (type : Nat) (content : Bytes) : Frame := llynoIn type 77 5 content (zeros 32)

def badFrame (type : Nat) (content : Bytes) : Frame := llynoIn type 77 5 content (natLE 32 1)

def failing (n : Nat) : State := let s := sessioned .opened up; { s with custody := { s.custody with tagFails := n } }

def fresh : State := { consoled up with keys := { up.keys with rootHeld := true, vault := [] } }

def drained_ (s : State) : State := { s with rng := { s.rng with reserve := [] } }

def enrolment (opens : Bool) : Enrolment := ⟨1, natLE 32 5, zeros 16, opens, zeros 32, [2, 0, 0, 0, 0, 9], 7⟩

def enrolling (opens : Bool) : State :=
  let s := sessioned (if opens then .opening else .opened) up
  { s with custody := { s.custody with enrol := some (enrolment opens) } }

def kbpkAttr : Nat := 5 + usageK0 * 2 ^ 5 + 3 * 2 ^ 10

def inCeremony (n : Nat) (s : State) : State :=
  let s := sessioned .opened s
  { s with custody := { s.custody with ceremony := n, loadTarget := 9, loadCount := 1, loadAttr := kbpkAttr } }

def removing (c : Nat) : State :=
  let s := inCeremony 3 up
  { s with keys := { s.keys with vault := [(3, ⟨zeros 32, zeros 32, consoleAttr, true, []⟩), (4, ⟨zeros 32, zeros 32, consoleAttr, true, []⟩)] }
           dict := { s.dict with paths := [(pathKey .custody, { PathSel.reset with consoleSel := c })] } }

def loading_ (n : Nat) : State :=
  let s := inCeremony 2 up
  { s with custody := { s.custody with components := [natLE 32 9], loadTarget := n } }

def waitingReply : State :=
  let s := sessioned .opened up
  { s with dict := { s.dict with held := [⟨.custody, 0, 77, 0, [], [(.config, 33)], [], 0⟩] }
           mram := { s.mram with queue := [⟨2, .config, 33, zeros 504, false⟩] } }

def fullLog (s : State) : State := { s with log := { s.log with records := 65536 } }

def closing_ (s : State) : State := { s with custody := { s.custody with closing := true } }

def heldRemoval : HeldReply := ⟨.custody, requestSlot, 0, 0, [], [], [], 2⟩

def logPage : PageWrite := { prio := 5, store := .log, page := 0, payload := zeros 504, retried := false }

def removalHeld : State :=
  let s := closing_ (removing 0)
  { s with log := { s.log with total := 2, inFlight := 2 }, mram := { s.mram with current := some logPage }
           dict := { s.dict with held := [heldRemoval] } }

def fullClosing : State := let s := fullLog (closing_ (removing 0)); { s with log := { s.log with tailFound := true, staged := [⟨0, 0, 0, 0, []⟩] } }

def loadLess (n : Nat) : State := { loading_ n with life := { (loading_ n).life with state := .endOfLife } }

def paired (link : Nat) (holder : Bool) (s : State) : State :=
  { s with sec := { s.sec with pair := some { peer := 9 }, generation := 3 }
           keys := { s.keys with vault := [(2, ⟨zeros 32, zeros 32, pairAttr, true, []⟩)] }
           clasp := { s.clasp with link := link, lanes := 4, txKey := zeros 32, rxKey := zeros 32, txSeq := 6, rxSeq := 4 }
           twin := { s.twin with holder := holder, side := 0, sync := 3, peerSync := 3, renewSeen := true, drain := 100 }
           rng := { s.rng with state := 1, filled := true, reserve := (List.range 300).map byte }
           disp := { s.disp with tick := 100000 } }

def claspIn (type fseq : Nat) (body : Bytes) : Bytes :=
  let head := [byte type, 0] ++ natLE 2 body.length ++ natLE 8 fseq ++ natLE 8 0
  let r := gcmSeal (zeros 32) (natBE 4 1 ++ natBE 8 fseq) head body 16
  head ++ r.1 ++ r.2

def badClasp (type : Nat) : Bytes := [byte type, 0, 0, 0] ++ natLE 8 5 ++ zeros 24

def withClasp (f : Clasp → Clasp) (s : State) : State := { s with clasp := f s.clasp }

def withTwin (f : Twin → Twin) (s : State) : State := { s with twin := f s.twin }

def helloFrame (body : Bytes) : Bytes := [1, 0] ++ natLE 2 body.length ++ natLE 8 1 ++ natLE 8 0 ++ body ++ zeros 16

/-- The peer's HELLO body: serial 9, side 1, bound to serial 0. -/
def peerBody : Bytes := natLE 8 9 ++ [0, 1, 2, 1] ++ natLE 8 0 ++ natLE 8 0 ++ zeros 36

def greeted : State :=
  withClasp (fun c => { c with link := 2, myHello := zeros 64, peerHello := some peerBody, confSent := true, txSeq := 1, rxSeq := 0 }) (paired 2 true up)

def confFrame : Bytes :=
  let head := [2, 0] ++ natLE 2 32 ++ natLE 8 1 ++ natLE 8 0
  let r := gcmSeal (zeros 32) (natBE 4 1 ++ natBE 8 1) head (confBody greeted peerBody) 16
  head ++ r.1 ++ r.2

def repeated_ (first last : Nat) : State :=
  withClasp (fun c => { c with repeated := [⟨0x12, zeros 9, first, last, 4⟩] }) (paired 4 true up)

def aDrbgUp : State := { up with rng := { up.rng with drbg := some aDrbg, state := 1, filled := true, reserve := (List.range 300).map byte } }

def standbyPart : State := withTwin (fun x => { x with sync := 4, takeoverAt := 7 }) (paired 4 false up)

def unboundPart : State := withClasp (fun c => { c with bindKey := zeros 32 }) (paired 3 false up)

def claspMac (type fseq : Nat) (body : Bytes) : Bytes :=
  let head := [byte type, 0] ++ natLE 2 body.length ++ natLE 8 fseq ++ natLE 8 0
  head ++ body ++ cmac .aes (zeros 32) (head ++ body)

/-- An unbound session with a peer of serial 9, both in domain 5. -/
def unboundWith (b : Option Binding) (side : Nat) (s : State) : State :=
  let h := natLE 8 9 ++ [0, byte (1 - side), 2, 0] ++ natLE 8 0 ++ natLE 8 5 ++ natLE 2 2 ++ zeros 34
  { s with keys := { s.keys with vault := [(1, ⟨zeros 32, zeros 32, pairAttr, true, []⟩)] }
           sec := { s.sec with domainId := 5, member := 1 }
           clasp := { s.clasp with link := 3, lanes := 4, bindKey := zeros 32, txSeq := 6, rxSeq := 4, peerHello := some h }
           twin := { s.twin with side := side, binding := b }
           rng := { s.rng with state := 1, drbg := some aDrbg, filled := true, reserve := (List.range 300).map byte }
           disp := { s.disp with tick := 100000 } }

def unboundIn (type : Nat) (body : Bytes) : Bytes :=
  let head := [byte type, 0] ++ natLE 2 body.length ++ natLE 8 5 ++ natLE 8 0
  head ++ body ++ cmac .aes (zeros 32) (head ++ body)

def ofSource (key : Bytes) : Binding := ⟨true, [], [], key, 7⟩

def ofJoiner : Binding := ⟨false, natBE 48 1, [], [], 7⟩

def basePointBytes : Bytes := encodePoint p384 (basePoint p384)

def following (sync n : Nat) (s : State) : State :=
  withTwin (fun x => { x with sync := sync, processed := n, applied := n }) (paired 4 false s)

def withSlot (s : State) : State := { s with keys := { s.keys with slots := (slotted .valid).keys.slots } }

def counterRecord : Bytes := natLE 4 4 ++ natLE 4 77

def founding (v : SMap VaultSlot) : State :=
  let s := ceremonial 11 aDrbgUp
  { s with keys := { s.keys with vault := v }, domain := { s.domain with memberReq := 7, candKey := basePointBytes } }

def domainKey : SMap VaultSlot := [(1, ⟨zeros 32, zeros 32, pairAttr, true, []⟩)]

def joinedSecret : Bytes := match ecdhOp p384 (natBE 48 1) basePointBytes with
  | .done z => z
  | _ => []

def appliedTo (type : Nat) : State :=
  let s := acceptClasp (claspIn type 5 (replRecord 4 3 counterRecord)) (withSlot (following 2 3 up))
  match applyRecord 3 counterRecord s with
  | some x => x.1
  | none => s

def offered (n : Nat) : State :=
  let s := unboundWith none 0 up
  { s with twin := { s.twin with offer := some (basePointBytes, 5) }, rng := { s.rng with reserve := (List.range n).map byte } }

def unfilled (s : State) : State := { s with rng := { s.rng with reserve := [] } }

def boundTo (b : Binding) : State := withTwin (fun x => { x with binding := some b }) (paired 4 true up)

def pairedDomain : State := { founding domainKey with sec := { (founding domainKey).sec with pair := some { peer := 9 } } }

def atPhase (p : Phase) (s : State) : State := { s with boot := { s.boot with phase := p } }

def signed (v : BitVec 64) (s : State) : State := { s with sec := { s.sec with sigValue := v, sigComplement := ~~~v } }

def unsigned (s : State) : State := { s with sec := { s.sec with sigValue := 0, sigComplement := 5 } }

def blankLife (s : State) : State := { s with life := { s.life with state := .blank, bank0 := 0 } }

def seeding_ : State :=
  let x : Source := { Source.reset with released := some noise, started := true }
  let s := atPhase .seeding up
  { s with boot := { s.boot with counterDurable := true }, rng := { s.rng with katPassed := true, state := 0, sources := [x, x, x, x] } }

def ended_ (st : LifeCycle) : State :=
  let s := atPhase .loading reloading_
  { s with log := { s.log with tailFound := true }
           locket := { s.locket with tailFound := true, recordQueued := true }
           life := { s.life with state := st } }

def hot (n : Int) (alert : Bool) : State :=
  { up with energy := { up.energy with temps := [60], junction := n }, pins := { up.pins with smbAlertN := !alert } }

def unheard : State := { State.reset with boot := { Boot.reset with phase := .inReset, cold := true } }

def debugBlank : State := { debugging with life := { debugging.life with state := .blank } }

def mapped (x : State) : State := { x with access := { x.access with loaded := true } }

def halfMapped : State := { mapped debugging with fuses := { (mapped debugging).fuses with matrix := (1 <<< 184 : BitVec 192), regions := [(176, 0x300010300015)] } }

def timedDoze : State := { dozing 2 with modes := { (dozing 2).modes with wakeTimer := some 0 } }

/-! ### Witnesses of the statements, in the statements' order -/

set_option maxRecDepth 100000 in
theorem test_BarAccessesTakenOrCounted :
    (∃ (w : HostWrite) (s : State) (q : Nat) (x : QueuePair), requestAccepted s w = true ∧ w.offset < doorbellEnd w.fn ∧
      w.data.length = 8 ∧ w.offset % 8 = 0 ∧ bits (leNat w.data) 34 30 = 0 ∧ localQp (wake s) w.fn (w.offset / 8) = some (q,
      x) ∧ getQp s q = x ∧ x.state = .active ∧ bitOf (leNat w.data) 32 = true ∧ bitOf (leNat w.data) 33 = true ∧ bits (leNat
      w.data) 0 16 < ringSize x.sqSize ∧ bits (leNat w.data) 16 16 < ringSize x.cqSize ∧ ringSteps (ringSize x.cqSize)
      x.cqHead (bits (leNat w.data) 16 16) ≤ ringSteps (ringSize x.cqSize) x.cqHead x.cqTail) ∧
    (∃ (w : HostWrite) (s : State), requestAccepted s w = true ∧ w.offset < doorbellEnd w.fn ∧ ((w.data.length ≠ 8 ∨
      w.offset % 8 ≠ 0 ∨ bits (leNat w.data) 34 30 ≠ 0 ∨ localQp (wake s) w.fn (w.offset / 8) = none))) ∧
    (∃ (len : Nat) (w : HostWrite) (s : State), requestAccepted s w = true ∧ barImplemented s w.fn w.offset = false) ∧
    (∃ (len : Nat) (w : HostWrite) (s : State), requestAccepted s w = true ∧ ((w.offset < doorbellEnd w.fn ∨ barImplemented
      s w.fn w.offset = false))) ∧
    (∃ (w : HostWrite) (s : State), functionExists s w.fn = true ∧ s.host.linkUp = true) :=
  ⟨⟨dbWrite (5 + 0 * 65536 + 3 * 2 ^ 32), ringed, 0, ring, by decide +kernel⟩,
   ⟨dbWrite (2 ^ 40), ringed, by decide +kernel⟩,
   ⟨8, { dbWrite 0 with offset := 0x85000 }, up, by decide +kernel⟩,
   ⟨8, { dbWrite 0 with offset := 0x85000 }, up, by decide +kernel⟩,
   ⟨dbWrite 0, up, by decide +kernel⟩⟩

set_option maxRecDepth 100000 in
theorem test_MailboxWritesStoredOrRejected :
    (∃ (fn vector : Nat) (address : BitVec 64) (data : BitVec 32) (s : State), functionExists s fn = true ∧ vector <
      vectorCount fn ∧ vector ∈ (SMap.get Msix.reset s.host.msix fn).pending ∧ s.host.linkUp = true ∧ creditsAboveReserve s =
      true) ∧
    (∃ (w : HostWrite) (s : State), requestAccepted s w = true ∧ hasMailbox s w.fn = true ∧ w.fn ≠ 0 ∧ w.offset = mailHeader
      w.fn + 8 ∧ w.data.length = 8) ∧
    (∃ (w : HostWrite) (s : State) (slot off : Nat), slotTarget s w = some (slot, off) ∧ 16 ≤ off ∧ off + w.data.length ≤
      256 ∧ (mailSlot s w.fn slot).busy = false ∧ ((∀ h ∈ s.dict.held, h.path ≠ .mailbox w.fn))) ∧
    (∃ (w : HostWrite) (s : State) (slot : Nat), slotTarget s w = some (slot, 0) ∧ w.data.length = 8 ∧ leNat w.data % 8 = 1
      ∧ (mailSlot s w.fn slot).busy = false ∧ mailServed s = true ∧ ((∀ h ∈ s.dict.held, h.path ≠ .mailbox w.fn)) ∧
      plainCommand (bits (leNat w.data) 16 8) = false ∧ messageRejected (setMailSlot w.fn slot
      { mailSlot s w.fn slot with w0 := BitVec.ofNat 64 (leNat w.data - bits (leNat w.data) 24 8 * 2 ^ 24) } (wake s)) w.fn
      slot = none) ∧
    (∃ (w : HostWrite) (s : State) (slot r : Nat), slotTarget s w = some (slot, 0) ∧ w.data.length = 8 ∧ leNat w.data % 8 =
      1 ∧ (mailSlot s w.fn slot).busy = false ∧ mailServed s = true ∧ ((∀ h ∈ s.dict.held, h.path ≠ .mailbox w.fn)) ∧
      messageRejected (setMailSlot w.fn slot
      { mailSlot s w.fn slot with w0 := BitVec.ofNat 64 (leNat w.data - bits (leNat w.data) 24 8 * 2 ^ 24) } (wake s)) w.fn
      slot = some r) ∧
    (∃ (w : HostWrite) (s : State) (slot : Nat), slotTarget s w = some (slot, 0) ∧ w.data.length = 8 ∧ leNat w.data % 8 = 0
      ∧ (mailSlot s w.fn slot).busy = false ∧ ((∀ h ∈ s.dict.held, h.path ≠ .mailbox w.fn))) :=
  ⟨⟨0, 3, 0xFEE00000, 0x41, unmaskState, by decide +kernel⟩,
   ⟨{ fn := 1, offset := 0x8008, stream := none, data := natLE 8 (1 + 3 * 2 ^ 32) }, tenantState, by decide +kernel⟩,
   ⟨bodyWrite 20 [1, 2, 3, 4], up, 0, 20, by decide +kernel⟩,
   ⟨bodyWrite 0 (natLE 8 (w0of 4 1 1)), mailed 4 1 1 [0, 0x10, 3, 0], 0, by decide +kernel⟩,
   ⟨bodyWrite 0 (natLE 8 (w0of 4 1 1)), up, 0, 10, by decide +kernel⟩,
   ⟨bodyWrite 0 (natLE 8 0), up, 0, by decide +kernel⟩⟩

set_option maxRecDepth 100000 in
theorem test_FetchesLandOrFail :
    (∃ (ident q first count fn addr len : Nat) (sent : Bool) (bytes : Bytes) (s : State), findRead s ident = some ⟨ident,
      .entries q first count, fn, addr, len, sent⟩ ∧ (getQp s q).state = .active ∧ (getQp s q).early = [] ∧ first = ((getQp s
      q).sqHead + (getQp s q).fetched.length) % ringSize (getQp s q).sqSize) ∧
    (∃ (ident q fn addr len : Nat) (sent : Bool) (bytes : Bytes) (s : State), findRead s ident = some ⟨ident, .descriptor q,
      fn, addr, len, sent⟩ ∧ (getQp s q).state = .active) ∧
    (∃ (ident q fn addr len : Nat) (sent : Bool) (answer : ReadAnswer) (s : State), findRead s ident = some ⟨ident,
      .descriptor q, fn, addr, len, sent⟩ ∧ (getQp s q).state = .active ∧ ((answer = .unsupported ∨ answer = .completerAbort ∨
      answer = .poison))) ∧
    (∃ (ident c fn addr len : Nat) (sent : Bool) (bytes : Bytes) (s : State) (ch : Chain), findRead s ident = some ⟨ident,
      .input c, fn, addr, len, sent⟩ ∧ getChain s c = some ch ∧ ch.inputLanded = false ∧ ((∀ r ∈ ch.links, r.st ≠ .pending)) ∧
      refusedAt s hostMaster 1 (chainAddrs ch 0 (padTo ch.inputLen bytes).length) = []) ∧
    (∃ (ident q fn addr len : Nat) (sent : Bool) (s : State), findRead s ident = some ⟨ident, .descriptor q, fn, addr, len,
      sent⟩ ∧ (getQp s q).state = .active) ∧
    (∃ (ident q first count fn addr len : Nat) (sent : Bool) (s : State), findRead s ident = some ⟨ident, .entries q first
      count, fn, addr, len, sent⟩ ∧ (getQp s q).state = .active ∧ ((∀ ch ∈ s.disp.chains, ch.2.qp ≠ q))) :=
  ⟨⟨5, 0, 0, 1, 0, 0x1000, 64, true, natLE 64 7, reading (.entries 0 0 1) 64, by decide +kernel⟩,
   ⟨5, 0, 0, 0x1000, 96, true, natLE 96 7, reading (.descriptor 0) 96, by decide +kernel⟩,
   ⟨5, 0, 0, 0x1000, 96, true, .poison, reading (.descriptor 0) 96, by decide +kernel⟩,
   ⟨5, 2, 0, 0x1000, 4, true, [1, 2, 3, 4], inputState, someChain, by decide +kernel⟩,
   ⟨5, 0, 0, 0x1000, 96, true, reading (.descriptor 0) 96, by decide +kernel⟩,
   ⟨5, 0, 0, 1, 0, 0x1000, 64, true, reading (.entries 0 0 1) 64, by decide +kernel⟩⟩

set_option maxRecDepth 100000 in
theorem test_QueuePairsSetUpEnabledDisabledReleased_part1 :
    (∃ (src : Src) (path : Path) (s : State), reaches src [1] s path 0x4020 0x0B [1] = true ∧ setUpResult s = 0) ∧
    (∃ (src : Src) (path : Path) (s : State), reaches src [1] s path 0x4020 0x0B [1] = true ∧ setUpResult s ≠ 0) ∧
    (∃ (src : Src) (path : Path) (s : State), reaches src [4] s path 0x4020 0x0B [4] = true ∧ (getQp s
      s.host.record.qp).state = .disabled ∧ SMap.wf QueuePair.reset s.host.qps = true) ∧
    (∃ (src : Src) (path : Path) (s : State), reaches src [4] s path 0x4020 0x0B [4] = true ∧ (getQp s
      s.host.record.qp).state ≠ .disabled) ∧
    (∃ (src : Src) (path : Path) (s : State) (n : Nat), n = s.host.record.qp ∧ reaches src [2] s path 0x4020 0x0B [2] = true
      ∧ (getQp s n).isSet = true ∧ (getQp s n).state = .disabled ∧ ((s.host.ideRequired = false ∨ ideCovered s (getQp s n).fn
      = true))) ∧
    (∃ (src : Src) (path : Path) (s : State) (n : Nat), n = s.host.record.qp ∧ reaches src [3] s path 0x4020 0x0B [3] = true
      ∧ (getQp s n).state = .active ∧ (getQp s n).cqReserved ≠ 0) ∧
    (∃ (src : Src) (path : Path) (s : State) (n : Nat), n = s.host.record.qp ∧ reaches src [3] s path 0x4020 0x0B [3] = true
      ∧ (((getQp s n).state = .frozen ∨ (getQp s n).state = .error)) ∧ (getQp s n).isSet = true) ∧
    (∃ (fn slot q : Nat) (x : QueuePair) (s : State), mailNext s fn slot = true ∧ (mailSlot s fn slot).command = 3 ∧
      qpCommandRefused s fn true (mailSlot s fn slot) = none ∧ localQp s fn (leNat ((mailSlot s fn slot).body.take 2)) = some
      (q, x) ∧ (getQp s q).isSet = true ∧ (getQp s q).state = .disabled ∧ ((s.host.ideRequired = false ∨ ideCovered s (getQp s
      q).fn = true))) :=
  ⟨⟨.write pf, pf, recState 5 none, by decide +kernel⟩,
   ⟨.write pf, pf, recState 5 (some ring), by decide +kernel⟩,
   ⟨.write pf, pf, recState 5 (some idle), by decide +kernel⟩,
   ⟨.write pf, pf, recState 5 (some ring), by decide +kernel⟩,
   ⟨.write pf, pf, recState 5 (some idle), 5, by decide +kernel⟩,
   ⟨.write pf, pf, recState 5 (some { ring with cqReserved := 2 }), 5, by decide +kernel⟩,
   ⟨.write pf, pf, recState 5 (some { ring with state := .error }), 5, by decide +kernel⟩,
   ⟨0, 0, 0, idle, qpMsg 3 idle, by decide +kernel⟩⟩

set_option maxRecDepth 100000 in
theorem test_QueuePairsSetUpEnabledDisabledReleased_part2 :
    (∃ (fn slot q : Nat) (x : QueuePair) (s : State), mailNext s fn slot = true ∧ (mailSlot s fn slot).command = 4 ∧
      qpCommandRefused s fn true (mailSlot s fn slot) = none ∧ localQp s fn (leNat ((mailSlot s fn slot).body.take 2)) = some
      (q, x) ∧ (getQp s q).state = .active ∧ (getQp s q).cqReserved ≠ 0) ∧
    (∃ (fn slot q : Nat) (x : QueuePair) (s : State), mailNext s fn slot = true ∧ (mailSlot s fn slot).command = 5 ∧
      qpCommandRefused s fn false (mailSlot s fn slot) = none ∧ s.dict.held = [] ∧ localQp s fn (leNat ((mailSlot s fn
      slot).body.take 2)) = some (q, x)) :=
  ⟨⟨0, 0, 0, { ring with cqReserved := 2 }, qpMsg 4 { ring with cqReserved := 2 }, by decide +kernel⟩,
   ⟨0, 0, 0, ring, qpMsg 5 ring, by decide +kernel⟩⟩

set_option maxRecDepth 100000 in
theorem test_IdeStreamsPolicyAndNotifications :
    (∃ (src : Src) (value : Bytes) (path : Path) (s : State), reaches src value s path 0x4030 0x02 value = true) ∧
    (∃ (stream q : Nat) (i : IdeStream) (s : State), s.host.ide[stream]? = some i ∧ i.secure = true ∧ s.host.ideRequired =
      true ∧ (getQp s q).state = .active ∧ i.firstFn ≤ (getQp s q).fn ∧ (getQp s q).fn ≤ i.lastFn) ∧
    (∃ (stream : Nat) (i : IdeStream) (s : State), s.host.ide[stream]? = some i ∧ s.host.ideRequired = false) ∧
    (∃ (stream first last : Nat) (answer : Bytes) (s : State), s.host.linkUp = true ∧ stream < 8) ∧
    (∃ (src : Src) (value : Bytes) (path : Path) (n : Nat) (s : State), reaches src value s path 0x4000 0x04 value = true ∧
      1 ≤ n ∧ n ≤ 6 ∧ (leNat value).testBit n = true) :=
  ⟨⟨.write .custody, [1], .custody, dualState, by decide +kernel⟩,
   ⟨0, 0, ⟨true, 0, 3⟩, ideState true, by decide +kernel⟩,
   ⟨0, ⟨true, 0, 3⟩, ideState false, by decide +kernel⟩,
   ⟨2, 0, 5, [1, 2], up, by decide +kernel⟩,
   ⟨.write pf, natLE 4 4, pf, 2, { up with host := { up.host with causes := 6 } }, by decide +kernel⟩⟩

set_option maxRecDepth 100000 in
theorem test_HostAndFunctionResetsAndLink :
    (∃ (cause : HostResetCause) (s : State), computeUp s = true ∧ ((s.host.linkUp = true ∨ cause = .perst)) ∧ standbyNow s =
      false ∧ logRoom s = true) ∧
    (∃ (rate width : Nat) (s : State), decoded s = true ∧ s.host.perst = false ∧ s.host.linkUp = false ∧ s.host.resetBusy =
      false ∧ ((rate = 16 ∨ rate = 32 ∨ rate = 64)) ∧ ((width = 1 ∨ width = 2 ∨ width = 4 ∨ width = 8))) ∧
    (∃ (vf n : Nat) (s : State), vf ≠ 0 ∧ functionExists s vf = true ∧ standbyNow s = false ∧ (getQp s n).fn = vf ∧ (getQp s
      n).isSet = true) ∧
    (∃ (numVfs : Nat) (s : State), s.host.linkUp = true ∧ s.host.vfEnable = false ∧ numVfs ≠ 0 ∧ numVfs ≤ instCount s) ∧
    (∃ (s : State), s.host.vfEnable = true ∧ standbyNow s = false) :=
  ⟨⟨.hotReset, shared, by decide +kernel⟩,
   ⟨32, 8, { up with host := { up.host with linkUp := false } }, by decide +kernel⟩,
   ⟨1, 9, shared, by decide +kernel⟩,
   ⟨3, up, by decide +kernel⟩,
   ⟨shared, by decide +kernel⟩⟩

set_option maxRecDepth 100000 in
theorem test_InstanceLifeCycle :
    (∃ (src : Src) (path : Path) (s : State), reaches src [1] s path 0x4100 0x09 [1] = true ∧ createResult s = 0) ∧
    (∃ (src : Src) (path : Path) (s : State), reaches src [2] s path 0x4100 0x09 [2] = true ∧ resizeResult s = 0) ∧
    (∃ (src : Src) (path : Path) (s : State), reaches src [3] s path 0x4100 0x09 [3] = true ∧ removeResult s .active = 0 ∧
      (getInst s s.tenants.record.number).state = .active) ∧
    (∃ (vf : Nat) (s : State), (getInst s vf).state = .destroying ∧ ((∀ x ∈ s.disp.chains, x.2.fn ≠ vf)) ∧ ownedSlots s vf =
      [] ∧ ownedEntries s vf = [] ∧ s.mram.queue = [] ∧ s.mram.current = none ∧ replicating s = false ∧ logRoom s = true ∧
      s.log.staged.length < 255 ∧ SMap.wf Inst.empty s.tenants.insts = true) ∧
    (∃ (vf : Nat) (s : State), (getInst s vf).state = .destroying ∧ ((∀ x ∈ s.disp.chains, x.2.fn ≠ vf)) ∧ ownedSlots s vf =
      [] ∧ ownedEntries s vf = [] ∧ s.mram.queue = [] ∧ s.mram.current = none ∧ replicating s = true ∧ (getInst s vf).told =
      none ∧ s.twin.ackedTo < s.twin.nextRecord) ∧
    (∃ (src : Src) (path : Path) (s : State), reaches src [4] s path 0x4100 0x09 [4] = true ∧ removeResult s .free = 0 ∧
      ownedSlots s s.tenants.record.number = [] ∧ ownedEntries s s.tenants.record.number = [] ∧ logRoom s = true ∧
      s.log.staged.length < 255) :=
  ⟨⟨.write pf, pf, inst1 2, by decide +kernel⟩,
   ⟨.write pf, pf, { inst1 1 with host := { shared.host with qps := [] } }, by decide +kernel⟩,
   ⟨.write pf, pf, inst1 1, by decide +kernel⟩,
   ⟨1, dying, by decide +kernel⟩,
   ⟨1,
     { dying with keys := { dying.keys with vault := [(2, ⟨zeros 32, zeros 32, pairAttr, true, []⟩)] }, sec := { dying.sec with pair := some ⟨9⟩ }, twin := { dying.twin with holder := true, peerSync := 3 } },
     by decide +kernel⟩,
   ⟨.write pf, pf, inst1 3, by decide +kernel⟩⟩

theorem test_ControlFormatAndDelayLinksEnd_part1 : ∀ op ∈ [0x000, 0x001, 0x002, 0x003, 0x901, 0xA01, 0xA02, 0xA10, 0xA11, 0xA12, 0xA13], ∃ c n s x, linkCtx s c n op = some x := by
  intro op h
  exact linked_meets ((by decide +kernel : ∀ op ∈ [0x000, 0x001, 0x002, 0x003, 0x901, 0xA01, 0xA02, 0xA10, 0xA11, 0xA12, 0xA13], (linkCtx (linked op) 2 0 op).isSome = true) op h)

theorem test_ControlFormatAndDelayLinksEnd_part2 : ∃ c n s x d, nextDue s = some d ∧ d.kind = .delayLink ∧ d.a = c ∧ d.b = n ∧
    linkCtx s c n 0x004 = some x := by
  obtain ⟨x, hx⟩ := Option.isSome_iff_exists.mp (by decide +kernel : (linkCtx delayed 2 0 0x004).isSome = true)
  exact ⟨2, 0, delayed, x, { kind := .delayLink, a := 2, b := 0, tick := 5 }, by decide +kernel, rfl, rfl, rfl, hx⟩

theorem test_ControlFormatAndDelayLinksEnd_part3 : ∀ op ∈ [0x000, 0x001, 0x002, 0x003, 0x901, 0xA01, 0xA02, 0xA10, 0xA11, 0xA12, 0xA13], ∃ c n s, linkCtx s c n op = none :=
  fun _ _ => ⟨3, 0, up, rfl⟩

theorem test_ControlFormatAndDelayLinksEnd_part4 : ∃ c n s, ∀ d, nextDue s = some d → d.kind ≠ .delayLink ∨ d.a ≠ c ∨ d.b ≠ n :=
  ⟨3, 0, up, fun _ h => nomatch (h : none = some _)⟩

theorem test_LaneHashAndPaymentLinksEnd_part1 : ∀ op ∈ [0x201, 0x202, 0x203, 0x301, 0x302, 0x303, 0x310, 0x311], ∃ c n s x, linkCtx s c n op = some x := by
  intro op h
  exact linked_meets ((by decide +kernel : ∀ op ∈ [0x201, 0x202, 0x203, 0x301, 0x302, 0x303, 0x310, 0x311], (linkCtx (linked op) 2 0 op).isSome = true) op h)

theorem test_LaneHashAndPaymentLinksEnd_part2 : ∀ op ∈ [0x401, 0x402, 0x410, 0x411, 0x412, 0x413, 0x502, 0x503, 0x504, 0x510, 0x511, 0x601, 0x602], ∃ c n s x, linkCtx s c n op = some x := by
  intro op h
  exact linked_meets ((by decide +kernel : ∀ op ∈ [0x401, 0x402, 0x410, 0x411, 0x412, 0x413, 0x502, 0x503, 0x504, 0x510, 0x511, 0x601, 0x602], (linkCtx (linked op) 2 0 op).isSome = true) op h)

theorem test_LaneHashAndPaymentLinksEnd_part3 : ∀ op ∈ [0x1A0, 0x501], ∃ c n s x, linkCtx s c n op = some x := by
  intro op h
  exact linked_meets ((by decide +kernel : ∀ op ∈ [0x1A0, 0x501], (linkCtx (linked op) 2 0 op).isSome = true) op h)

theorem test_LaneHashAndPaymentLinksEnd_part4 : ∀ op ∈ [0x201, 0x202, 0x203, 0x301, 0x302, 0x303, 0x310, 0x311], ∃ c n s, linkCtx s c n op = none :=
  fun _ _ => ⟨3, 0, up, rfl⟩

theorem test_LaneHashAndPaymentLinksEnd_part5 : ∀ op ∈ [0x401, 0x402, 0x410, 0x411, 0x412, 0x413, 0x502, 0x503, 0x504, 0x510, 0x511, 0x601, 0x602, 0x1A0, 0x501], ∃ c n s, linkCtx s c n op = none :=
  fun _ _ => ⟨3, 0, up, rfl⟩

theorem test_PublicKeyAndLatticeLinksEnd_part1 : ∀ op ∈ [0x701, 0x702, 0x703, 0x710, 0x711, 0x712, 0x713, 0x720, 0x721, 0x722, 0x723, 0x7F0, 0x7F1, 0x7F2], ∃ c n p b s x, linkCtx s c n op = some x ∧ pairOf s false c n = some (p, b) ∧
    (getPair s false p).running = some b ∧ ((getPair s false p).region b).job = some (c, n) ∧ x.r.stopping = false := by
  intro op h
  have := (by decide +kernel : ∀ op ∈ [0x701, 0x702, 0x703, 0x710, 0x711, 0x712, 0x713, 0x720, 0x721, 0x722, 0x723, 0x7F0, 0x7F1, 0x7F2],
    (match linkCtx (pairLinked false op) 2 0 op with | some x => !x.r.stopping | none => false) = true ∧
    pairOf (pairLinked false op) false 2 0 = some (0, false) ∧ (getPair (pairLinked false op) false 0).running = some false ∧
    ((getPair (pairLinked false op) false 0).region false).job = some (2, 0)) op h
  exact pairLinked_meets this.1 this.2.1 this.2.2.1 this.2.2.2

theorem test_PublicKeyAndLatticeLinksEnd_part2 : ∀ op ∈ [0x801, 0x802, 0x803, 0x811, 0x813], ∃ c n p b s x, linkCtx s c n op = some x ∧ pairOf s true c n = some (p, b) ∧
    (getPair s true p).running = some b ∧ ((getPair s true p).region b).job = some (c, n) ∧ x.r.stopping = false := by
  intro op h
  have := (by decide +kernel : ∀ op ∈ [0x801, 0x802, 0x803, 0x811, 0x813],
    (match linkCtx (pairLinked true op) 2 0 op with | some x => !x.r.stopping | none => false) = true ∧
    pairOf (pairLinked true op) true 2 0 = some (0, false) ∧ (getPair (pairLinked true op) true 0).running = some false ∧
    ((getPair (pairLinked true op) true 0).region false).job = some (2, 0)) op h
  exact pairLinked_meets this.1 this.2.1 this.2.2.1 this.2.2.2

theorem test_PublicKeyAndLatticeLinksEnd_part3 : ∀ op ∈ [0x812], ∃ c n p b s x, linkCtx s c n op = some x ∧ pairOf s true c n = some (p, b) ∧
    (getPair s true p).running = some b ∧ ((getPair s true p).region b).job = some (c, n) ∧ x.r.stopping = false := by
  intro op h
  have := (by decide +kernel : ∀ op ∈ [0x812],
    (match linkCtx (pairLinked true op) 2 0 op with | some x => !x.r.stopping | none => false) = true ∧
    pairOf (pairLinked true op) true 2 0 = some (0, false) ∧ (getPair (pairLinked true op) true 0).running = some false ∧
    ((getPair (pairLinked true op) true 0).region false).job = some (2, 0)) op h
  exact pairLinked_meets this.1 this.2.1 this.2.2.1 this.2.2.2

theorem test_PublicKeyAndLatticeLinksEnd_part4 : ∀ op ∈ [0x701, 0x702, 0x703, 0x710, 0x711, 0x712, 0x713, 0x720, 0x721, 0x722, 0x723, 0x7F0, 0x7F1, 0x7F2], ∃ c n p b s x, linkCtx s c n op = some x ∧ pairOf s false c n = some (p, b) ∧
    (getPair s false p).running = some b ∧ ((getPair s false p).region b).job = some (c, n) ∧ x.r.stopping = false := by
  intro op h
  have := (by decide +kernel : ∀ op ∈ [0x701, 0x702, 0x703, 0x710, 0x711, 0x712, 0x713, 0x720, 0x721, 0x722, 0x723, 0x7F0, 0x7F1, 0x7F2],
    (match linkCtx (pairLinked false op) 2 0 op with | some x => !x.r.stopping | none => false) = true ∧
    pairOf (pairLinked false op) false 2 0 = some (0, false) ∧ (getPair (pairLinked false op) false 0).running = some false ∧
    ((getPair (pairLinked false op) false 0).region false).job = some (2, 0)) op h
  exact pairLinked_meets this.1 this.2.1 this.2.2.1 this.2.2.2

theorem test_PublicKeyAndLatticeLinksEnd_part5 : ∀ op ∈ [0x801, 0x802, 0x803, 0x811, 0x812, 0x813], ∃ c n p b s x, linkCtx s c n op = some x ∧ pairOf s true c n = some (p, b) ∧
    (getPair s true p).running = some b ∧ ((getPair s true p).region b).job = some (c, n) ∧ x.r.stopping = false := by
  intro op h
  have := (by decide +kernel : ∀ op ∈ [0x801, 0x802, 0x803, 0x811, 0x812, 0x813],
    (match linkCtx (pairLinked true op) 2 0 op with | some x => !x.r.stopping | none => false) = true ∧
    pairOf (pairLinked true op) true 2 0 = some (0, false) ∧ (getPair (pairLinked true op) true 0).running = some false ∧
    ((getPair (pairLinked true op) true 0).region false).job = some (2, 0)) op h
  exact pairLinked_meets this.1 this.2.1 this.2.2.1 this.2.2.2

theorem test_PublicKeyAndLatticeLinksEnd_part6 : ∀ op ∈ [0x701, 0x702, 0x703, 0x710, 0x711, 0x712, 0x713, 0x720, 0x721, 0x722, 0x723, 0x7F0, 0x7F1, 0x7F2], ∃ c n s, linkCtx s c n op = none :=
  fun _ _ => ⟨3, 0, up, rfl⟩

theorem test_PublicKeyAndLatticeLinksEnd_part7 : ∀ op ∈ [0x801, 0x802, 0x803, 0x811, 0x812, 0x813], ∃ c n s, linkCtx s c n op = none :=
  fun _ _ => ⟨3, 0, up, rfl⟩

set_option maxRecDepth 100000 in
theorem test_OutBytesAndNoOthers :
    (∃ (ch : Chain) (l : LinkWords) (data : Bytes) (s : State) (a : Nat), ((∀ i, i < refLen l.out → a ≠ ch.addr (refStart
      l.out + i)))) ∧
    (∃ (ch : Chain) (l : LinkWords) (data : Bytes) (s : State) (i : Nat), refKind l.out = 2 ∧ i < refLen l.out ∧
      ch.buffers.Nodup ∧ (refStart l.out + refLen l.out) ≤ 256 * ch.buffers.length) :=
  ⟨⟨issuing 0, op0 0 8, [1, 2], ringed, 3, by decide +kernel⟩,
   ⟨issuing 0, op0 0 8, [1, 2], ringed, 199, by decide +kernel⟩⟩

set_option maxRecDepth 100000 in
theorem test_KeysInstalledInWorkingSlots :
    (∃ (c n attr slot : Nat) (key : Bytes) (s : State) (x : LinkCtx) (y : Instr × Nat), y ∈ ([ (.x9143Import c n, 0x101),
      (.domainImport c n, 0x103), (.generate c n, 0x106)] : List (Instr × Nat)) ∧ linkCtx s c n y.2 = some x ∧ (installs s c
      y.2 x).toOption = some (attr, key) ∧ slot = bits x.l.key1Ref 0 18) ∧
    (∃ (c n status : Nat) (s : State) (x : LinkCtx) (y : Instr × Nat), y ∈ ([ (.x9143Import c n, 0x101), (.domainImport c n,
      0x103), (.generate c n, 0x106)] : List (Instr × Nat)) ∧ linkCtx s c n y.2 = some x ∧ statusOf (installs s c y.2 x) =
      some status) ∧
    (∃ (c n : Nat) (s : State) (y : Instr × Nat), y ∈ ([ (.x9143Import c n, 0x101), (.domainImport c n, 0x103), (.generate c
      n, 0x106), (.delete c n, 0x107), (.x9143Export c n, 0x102), (.domainExport c n, 0x104), (.unwrapToKeyBuffer c n, 0x105),
      (.x9143ToDomainBlock c n, 0x108), (.deriveFromAgreementSecret c n, 0x110)] : List (Instr × Nat)) ∧ linkCtx s c n y.2 =
      none) :=
  ⟨⟨2, 0, (instOf sX9 0x101).1, 4, (instOf sX9 0x101).2, sX9, ctxOf sX9 0x101, (.x9143Import 2 0, 0x101), by decide +kernel,
     ctxOf_eq (by decide +kernel), by decide +kernel, by decide +kernel⟩,
   ⟨2, 0, 0x020D, sGenFull, ctxOf sGenFull 0x106, (.generate 2 0, 0x106), by decide +kernel, ctxOf_eq (by decide +kernel),
     by decide +kernel⟩,
   ⟨3, 0, up, (.generate 3 0, 0x106), by decide +kernel⟩⟩

set_option maxRecDepth 100000 in
theorem test_KeysDeletedExportedAndUnwrapped :
    (∃ (c n slot : Nat) (s : State) (x : LinkCtx), linkCtx s c n 0x107 = some x ∧ slot = bits x.l.key1Ref 0 18 ∧
      lockedByOther s (chainTag c) slot = false) ∧
    (∃ (c n slot : Nat) (s : State) (x : LinkCtx), linkCtx s c n 0x107 = some x ∧ slot = bits x.l.key1Ref 0 18 ∧
      lockedByOther s (chainTag c) slot = true) ∧
    (∃ (c n : Nat) (s : State) (x : LinkCtx) (y : Instr × Nat), y ∈ ([(.x9143Export c n, 0x102), (.domainExport c n, 0x104)]
      : List (Instr × Nat)) ∧ linkCtx s c n y.2 = some x ∧ ((∀ d ∈ s.tamper.decisions, d.1 ≠ .keyExport c n))) ∧
    (∃ (c n : Nat) (s : State) (x : LinkCtx) (k : OpenedBlock), linkCtx s c n 0x105 = some x ∧ (domainOpen x.key0 (ownDomain
      s) x.ch.fn x.in0).toOption = some k) ∧
    (∃ (c n st : Nat) (s : State) (x : LinkCtx), linkCtx s c n 0x105 = some x ∧ statusOf (domainOpen x.key0 (ownDomain s)
      x.ch.fn x.in0) = some st) ∧
    (∃ (c n : Nat) (s : State) (x : LinkCtx) (k : X9Key) (block : Bytes), linkCtx s c n 0x108 = some x ∧ (x9Open x.key0
      x.in0).toOption = some k ∧ block = domainSeal x.key1.bytes x.r.nonce (ownDomain s) (convertedAttr x k) 0 k.key) ∧
    (∃ (c n st : Nat) (s : State) (x : LinkCtx), linkCtx s c n 0x108 = some x ∧ statusOf (x9Open x.key0 x.in0) = some st) ∧
    (∃ (c n : Nat) (s : State) (x : LinkCtx), linkCtx s c n 0x110 = some x) :=
  ⟨⟨2, 0, 4, sDel, ctxOf sDel 0x107, ctxOf_eq (by decide +kernel), by decide +kernel, by decide +kernel⟩,
   ⟨2, 0, 4, sDelLocked, ctxOf sDelLocked 0x107, ctxOf_eq (by decide +kernel), by decide +kernel, by decide +kernel⟩,
   ⟨2, 0, sExp 0x102, ctxOf (sExp 0x102) 0x102, (.x9143Export 2 0, 0x102), by decide +kernel, ctxOf_eq (by decide +kernel),
     by decide +kernel⟩,
   ⟨2, 0, sUnwrap, ctxOf sUnwrap 0x105, domOf (ctxOf sUnwrap 0x105), ctxOf_eq (by decide +kernel), by decide +kernel⟩,
   ⟨2, 0, (statusOf (domainOpen kindWrap 0 0 (ctxOf sEmpty5 0x105).in0)).getD 0, sEmpty5, ctxOf sEmpty5 0x105, ctxOf_eq
     (by decide +kernel), by decide +kernel⟩,
   ⟨2, 0, sConv, ctxOf sConv 0x108, x9Of (ctxOf sConv 0x108), domainSeal otherKey.bytes (ctxOf sConv 0x108).r.nonce
     (ownDomain sConv) (convertedAttr (ctxOf sConv 0x108) (x9Of (ctxOf sConv 0x108))) 0 (x9Of (ctxOf sConv 0x108)).key,
     ctxOf_eq (by decide +kernel), by decide +kernel, by decide +kernel⟩,
   ⟨2, 0, (statusOf (x9Open kindWrap (ctxOf sEmpty8 0x108).in0)).getD 0, sEmpty8, ctxOf sEmpty8 0x108, ctxOf_eq
     (by decide +kernel), by decide +kernel⟩,
   ⟨2, 0, sDer, ctxOf sDer 0x110, ctxOf_eq (by decide +kernel)⟩⟩

set_option maxRecDepth 100000 in
theorem test_ChainsAdmittedOrRefused :
    (∃ (ports port q c : Nat) (x : QueuePair) (e : Bytes) (es : List Bytes) (b : Body) (bs : List Nat) (s u : State),
      lockedNow s = false ∧ s.modes.word.doze = false ∧ port ∈ portsServed s ports ∧ ((∀ y ∈ s.host.qps, y.1 % 2 = port)) ∧ u
      = runHints port s ∧ turnOf u port = some (q, x) ∧ getQp u q = x ∧ x.fetched = e :: es ∧ s.modes.word.service = true ∧
      admissionFaults (turnTaken port q u) x e = (some b, []) ∧ allocate s x.fn b.bufCount = some bs ∧ freeContext s = some c
      ∧ cqFree x = true ∧ energyFits s b = true) ∧
    (∃ (ports port q status : Nat) (x : QueuePair) (e : Bytes) (es : List Bytes) (s u : State), lockedNow s = false ∧
      s.modes.word.doze = false ∧ port ∈ portsServed s ports ∧ ((∀ y ∈ s.host.qps, y.1 % 2 = port)) ∧ u = runHints port s ∧
      turnOf u port = some (q, x) ∧ getQp u q = x ∧ x.fetched = e :: es ∧ ((s.modes.word.service = false ∧ status =
      serviceRefusal s ∨ s.modes.word.service = true ∧ lowest (admissionFaults (turnTaken port q u) x e).2 = some status)) ∧
      cqFree x = true) ∧
    (∃ (ports : Nat) (s : State), (lockedNow s = true ∨ s.modes.word.doze = true)) ∧
    (∃ (port : Nat) (g : WastedGrant) (s : State), s.flow.wasted.find? (fun h => h.port = port) = some g) ∧
    (∃ (port : Nat) (s : State), s.flow.wasted.find? (fun h => h.port = port) = none) :=
  ⟨⟨0, 0, 0, 0, offeredQp, zeros 64, [], admBody, [], admitting, runHints 0 admitting, by decide +kernel⟩,
   ⟨0, 0, 0, 0x0501, offeredQp, zeros 64, [], { admitting with modes := up.modes }, runHints 0
     { admitting with modes := up.modes }, by decide +kernel⟩,
   ⟨0, { up with modes := { up.modes with word := { up.modes.word with doze := true } } }, by decide +kernel⟩,
   ⟨1, ⟨1, 0, [7]⟩, { up with flow := { up.flow with wasted := [⟨1, 0, [7]⟩] } }, by decide +kernel⟩,
   ⟨1, up, by decide +kernel⟩⟩

set_option maxRecDepth 100000 in
theorem test_LinksIssueAndYield_part1 :
    (∃ (s u : State) (k : Cand) (e : Nat) (ch : Chain) (k0 k1 : Option KeyVal) (counted : List Nat), dispatching s = true ∧
      u = defer s ∧ issuable u = [k] ∧ engineFor u k [] = some e ∧ getChain u k.c = some ch ∧ ch.link k.n = some (k.l, k.r) ∧
      stillReady ch k = true ∧ ((k.l.opcode = 0x004 → delayEntries u < 3712)) ∧ engineKind k.l.opcode ≠ 3 ∧ readKeys u ch k.l
      = .keys k0 k1 counted ∧ bufferCovers u (drawBytes k.l) = true ∧ covers u k = true ∧ refusedAccesses u ch k.l e = []) ∧
    (∃ (s u : State) (k : Cand) (e : Nat) (ch : Chain), dispatching s = true ∧ u = defer s ∧ issuable u = [k] ∧ engineFor u
      k [] = some e ∧ getChain u k.c = some ch ∧ ch.link k.n = some (k.l, k.r) ∧ stillReady ch k = true ∧ engineKind
      k.l.opcode = 3 ∧ e < 32 ∧ bufferCovers u (drawBytes k.l) = true ∧ covers u k = true ∧ refusedAccesses u ch k.l e = []) ∧
    (∃ (s u : State) (k : Cand) (e st : Nat) (ch : Chain) (counted : List Nat), dispatching s = true ∧ u = defer s ∧
      issuable u = [k] ∧ engineFor u k [] = some e ∧ getChain u k.c = some ch ∧ ch.link k.n = some (k.l, k.r) ∧ stillReady ch
      k = true ∧ ((k.l.opcode = 0x004 → delayEntries u < 3712)) ∧ engineKind k.l.opcode ≠ 3 ∧ readKeys u ch k.l = .failed st
      counted ∧ bufferCovers u (drawBytes k.l) = true ∧ covers u k = true ∧ refusedAccesses u ch k.l e = [] ∧ k.n < 32) ∧
    (∃ (s u : State) (k : Cand) (e : Nat) (ch : Chain) (k0 k1 : Option KeyVal) (counted : List Nat), dispatching s = true ∧
      u = defer s ∧ issuable u = [k] ∧ engineFor u k [] = some e ∧ getChain u k.c = some ch ∧ stillReady ch k = true ∧
      ((k.l.opcode = 0x004 → delayEntries u < 3712)) ∧ engineKind k.l.opcode ≠ 3 ∧ readKeys u ch k.l = .keys k0 k1 counted ∧
      bufferCovers u (drawBytes k.l) = true ∧ covers u k = false ∧ k.r.agedAt = none) ∧
    (∃ (s : State), dispatching s = true ∧ issuable (defer s) = []) ∧
    (∃ (s : State), dispatching s = false) ∧
    (∃ (p c n : Nat) (b lattice : Bool) (ch : Chain) (l : LinkWords) (r : LinkRun) (s : State), (getPair s lattice
      p).running = some b ∧ ((getPair s lattice p).region b).job = some (c, n) ∧ getChain s c = some ch ∧ ch.link n = some (l,
      r) ∧ r.stopping = false ∧ ((lattice = true ∨ candidates s [5] = []))) ∧
    (∃ (p c n e : Nat) (b : Bool) (ch ch2 : Chain) (l : LinkWords) (r : LinkRun) (moved : Region) (k : Cand) (k0 k1 : Option
      KeyVal) (counted : List Nat) (s u : State), (getPair s false p).running = some b ∧ ((getPair s false p).region b).job =
      some (c, n) ∧ getChain s c = some ch ∧ ch.link n = some (l, r) ∧ r.stopping = false ∧ (getPair s false p).suspended =
      none ∧ ((∀ i < pkeCount s, pairFree s false i = false)) ∧ moved =
      { (getPair s false p).region b with points := ((getPair s false p).region b).points + 1, eligible := true, ran := ((getPair s false p).region b).ran + Config.yieldInterval (yieldSeed r.draw) ((getPair s false p).region b).points }
      ∧ moved.yields < yieldLimitOf s c ∧ u = putPair false p ((getPair s false p).setRegion b moved) s ∧ (candidates u
      [5]).filter (mayPreempt moved l ch.prio) = [k] ∧ getChain u k.c = some ch2 ∧ ch2.link k.n = some (k.l, k.r) ∧ readKeys u
      ch2 k.l = .keys k0 k1 counted ∧ covers u k = true ∧ bufferCovers u (drawBytes k.l) = true ∧ e = 2 * p + bit (!b) ∧
      refusedAccesses u ch2 k.l e = []) :=
  ⟨⟨readyState 1000000, defer (readyState 1000000), readyCand, 0, readyChain, none, none, [], by decide +kernel⟩,
   ⟨handing, defer handing, candOf handing, 3, chainOf handing, by decide +kernel⟩,
   ⟨refusedSlot, defer refusedSlot, candOf refusedSlot, 0, readErr refusedSlot, chainOf refusedSlot, [], by decide +kernel⟩,
   ⟨readyState 0, defer (readyState 0), readyCand, 0, readyChain, none, none, [], by decide +kernel⟩,
   ⟨up, by decide +kernel⟩,
   ⟨{ up with modes := { up.modes with word := { up.modes.word with doze := true } } }, by decide +kernel⟩,
   ⟨0, 2, 0, false, true, issuing 0x811, ⟨0x811, 0, 0, 0⟩, { LinkRun.pending with st := .issued, dueTick := some 5 },
     pairLinked true 0x811, by decide +kernel⟩,
   ⟨0, 2, 0, 1, false, slowChain, quickChain, slowWords, { LinkRun.pending with st := .issued }, slowMoved, quickCand, none,
     none, [], crowded, crowdedOn, by decide +kernel, by decide +kernel, by decide +kernel, by decide +kernel,
     by decide +kernel, by decide +kernel, by decide +kernel, rfl, by decide +kernel, rfl, crowdedOn_yields,
     by decide +kernel, by decide +kernel, by decide +kernel, by decide +kernel, by decide +kernel, by decide +kernel,
     by decide +kernel⟩⟩

set_option maxRecDepth 100000 in
theorem test_LinksIssueAndYield_part2 :
    (∃ (p c n : Nat) (b lattice : Bool) (ch : Chain) (l : LinkWords) (r : LinkRun) (s : State), (getPair s lattice
      p).running = some b ∧ ((getPair s lattice p).region b).job = some (c, n) ∧ getChain s c = some ch ∧ ch.link n = some (l,
      r) ∧ r.stopping = true) ∧
    (∃ (p c n : Nat) (b lattice : Bool) (ch : Chain) (l : LinkWords) (r : LinkRun) (s : State), (getPair s lattice
      p).running = some b ∧ ((getPair s lattice p).region b).job = some (c, n) ∧ getChain s c = some ch ∧ ch.link n = some (l,
      r)) ∧
    (∃ (p : Nat) (lattice agree : Bool) (s : State), (getPair s lattice p).running = none) :=
  ⟨⟨0, 2, 0, false, true, { issuing 0x811 with links := [{ LinkRun.pending with st := .issued, stopping := true }] },
     ⟨0x811, 0, 0, 0⟩, { LinkRun.pending with st := .issued, stopping := true }, stoppingPair, by decide +kernel⟩,
   ⟨0, 2, 0, false, false, issuing 0x703, ⟨0x703, 0, 0, 0⟩, { LinkRun.pending with st := .issued, dueTick := some 5 },
     pairLinked false 0x703, by decide +kernel⟩,
   ⟨0, true, true, up, by decide +kernel⟩⟩

set_option maxRecDepth 100000 in
theorem test_ResultsAndCompletionsLeave_part1 :
    (∃ (c n h d : Nat) (ch : Chain) (s : State), getChain s c = some ch ∧ mayLeave s ch = true ∧ owesData ch = true ∧
      maySend s ch.fn = true ∧ refusedAt s hostMaster 0 (writeBackAddrs ch) = [] ∧ affordable (packetsOf (ch.resultAddr +
      ch.wbSent) ((writeBackData s ch).drop ch.wbSent).length) s.flow.postedHdr s.flow.postedData = (n, h, d) ∧ n ≠ 0) ∧
    (∃ (c : Nat) (s : State), ((∀ ch, getChain s c = some ch → mayLeave s ch = false ∨ owesData ch = false))) ∧
    (∃ (c : Nat) (ch : Chain) (x : QueuePair) (s : State), getChain s c = some ch ∧ completionDue s ch = true ∧ getQp s
      ch.qp = x ∧ maySend s x.fn = true ∧ 1 ≤ s.flow.postedHdr ∧ 2 ≤ s.flow.postedData) ∧
    (∃ (c : Nat) (s : State), ((∀ ch, getChain s c = some ch → completionDue s ch = false))) ∧
    (∃ (e : QueuedCompletion) (es : List QueuedCompletion) (x : QueuePair) (s : State), s.host.queued = e :: es ∧ outOfTurn
      s e.qp e.finSeq = false ∧ getQp s e.qp = x ∧ maySend s x.fn = true ∧ 1 ≤ s.flow.postedHdr ∧ 2 ≤ s.flow.postedData) ∧
    (∃ (s : State), s.host.queued = []) ∧
    (∃ (headers data fn vector : Nat) (rest : List (Nat × Nat)) (s : State), s.host.posted = (fn, vector) :: rest ∧ maySend
      s fn = true ∧ s.flow.hdrReserve < s.flow.postedHdr + headers ∧ s.flow.dataReserve < s.flow.postedData + data) ∧
    (∃ (headers data : Nat) (s : State), s.host.posted = []) :=
  ⟨⟨2, 4, 99, 999, owing, finishedState owing, by decide +kernel⟩,
   ⟨2, finishedState doneChain, by decide +kernel⟩,
   ⟨2, doneChain, ring, finishedState doneChain, by decide +kernel⟩,
   ⟨2, finishedState owing, by decide +kernel⟩,
   ⟨queuedRefusal, [], ring, refusedState, by decide +kernel⟩,
   ⟨up, by decide +kernel⟩,
   ⟨1, 1, 0, 3, [], waitingState, by decide +kernel⟩,
   ⟨1, 1, up, by decide +kernel⟩⟩

set_option maxRecDepth 100000 in
theorem test_ResultsAndCompletionsLeave_part2 :
    (∃ (q due : Nat) (x : QueuePair) (s : State), getQp s q = x ∧ x.modDue = some due ∧ due ≤ s.disp.tick ∧ maySend s x.fn =
      true ∧ creditsAboveReserve s = true ∧ x.vector ∈ (SMap.get Msix.reset s.host.msix x.fn).unmasked) ∧
    (∃ (q : Nat) (s : State), ((∀ due, (getQp s q).modDue = some due → s.disp.tick < due))) :=
  ⟨⟨0, 5, { ring with modDue := some 5, irqPending := 1 }, timerState, by decide +kernel⟩,
   ⟨0, up, by decide +kernel⟩⟩

set_option maxRecDepth 100000 in
theorem test_TicksAndDelayListTakeEffect_part1 :
    (∃ (s : State), tickRuns s = true ∧ energySound s = true ∧ ownershipSound s = true) ∧
    (∃ (s : State), tickRuns s = true ∧ energySound s = true ∧ ownershipSound s = true ∧ s.disp.hold = none ∧ ((∀ x ∈
      s.cores.cores, x.2.lending = none))) ∧
    (∃ (c n : Nat) (ch : Chain) (l : LinkWords) (r : LinkRun) (s : State), tickRuns s = true ∧ energySound s = true ∧
      ownershipSound s = true ∧ s.disp.hold = none ∧ ((∀ x ∈ s.cores.cores, x.2.lending = none)) ∧ getChain s c = some ch ∧
      ch.link n = some (l, r) ∧ r.st = .ready) ∧
    (∃ (s : State), tickRuns s = true ∧ energySound s = false ∧ ownershipSound s = true ∧ freshFatal s (faultCode 3 0x01
      0x04) = true) ∧
    (∃ (s : State), tickRuns s = true ∧ energySound s = true ∧ ownershipSound s = false ∧ freshFatal s (faultCode 3 0x01
      0x05) = true) ∧
    (∃ (s : State), tickRuns s = false) ∧
    (∃ (c : Nat) (d : Due) (ch : Chain) (s : State), dueIs s .expiry c 0 = some d ∧ getChain s c = some ch ∧ ch.closed =
      false) ∧
    (∃ (c : Nat) (s : State), dueIs s .expiry c 0 = none) :=
  ⟨⟨up, by decide +kernel⟩,
   ⟨up, by decide +kernel⟩,
   ⟨2, 0, agingChain, ⟨1, 0, 0, 0⟩, { LinkRun.pending with st := .ready }, finishedState agingChain, by decide +kernel⟩,
   ⟨unsoundEnergy, by decide +kernel⟩,
   ⟨unsoundTable, by decide +kernel⟩,
   ⟨State.reset, by decide +kernel⟩,
   ⟨2, { kind := .expiry, a := 2, b := 0, tick := 5 }, { agingChain with expiry := 5, expired := true }, expiring,
     by decide +kernel⟩,
   ⟨2, up, by decide +kernel⟩⟩

set_option maxRecDepth 100000 in
theorem test_TicksAndDelayListTakeEffect_part2 :
    (∃ (slot : Nat) (d : Due) (l : SlotLock) (s : State), dueIs s .slotLock slot 0 = some d ∧ SMap.find s.flow.locks slot =
      some l ∧ logRoom s = true) ∧
    (∃ (slot : Nat) (s : State), dueIs s .slotLock slot 0 = none) :=
  ⟨⟨7, { kind := .slotLock, a := 7, b := 0, tick := 5 }, { holder := 2, lease := 5 }, leased, by decide +kernel⟩,
   ⟨7, up, by decide +kernel⟩⟩

set_option maxRecDepth 100000 in
theorem test_EnergyGovernorFollowsDrawAndHeat_part1 :
    (∃ (m : Nat) (s : State), tickRuns s = true ∧ s.disp.tick % 1000 = 0 ∧ s.energy.monitorOut = false) ∧
    (∃ (s : State), tickRuns s = true ∧ s.disp.tick % 1000 = 0 ∧ s.energy.monitorOut = false) ∧
    (∃ (measured : Option Nat) (s : State), tickRuns s = true ∧ s.disp.tick % 1000 = 0 ∧ s.energy.monitorOut = true) ∧
    (∃ (measured : Option Nat) (s : State), (tickRuns s = false ∨ s.disp.tick % 1000 ≠ 0)) ∧
    (∃ (temps : List Int) (s u : State), tickRuns s = true ∧ temps.length = 8 ∧ u =
      { s with energy := { s.energy with temps := temps, samples := min 100 (s.energy.samples + 1) } } ∧ (sensorsUsed u).all
      (fun x => !sensorOff (sensorsUsed u) x) = true ∧ junctionOf u < 230) ∧
    (∃ (temps : List Int) (s u : State), tickRuns s = true ∧ temps.length = 8 ∧ u =
      { s with energy := { s.energy with temps := temps, samples := min 100 (s.energy.samples + 1) } } ∧ (sensorsUsed u).all
      (fun x => !sensorOff (sensorsUsed u) x) = true ∧ 230 ≤ junctionOf u ∧ freshFatal s (faultCode 3 0x0F 0x01) = true) ∧
    (∃ (temps : List Int) (i : Nat) (v : Int) (s u : State), tickRuns s = true ∧ temps.length = 8 ∧ u =
      { s with energy := { s.energy with temps := temps, samples := min 100 (s.energy.samples + 1) } } ∧ (sensorsUsed
      u).filter (sensorOff (sensorsUsed u)) = [(i, v)]) ∧
    (∃ (temps : List Int) (s : State), (tickRuns s = false ∨ temps.length ≠ 8)) :=
  ⟨⟨500, thousandth, by decide +kernel⟩,
   ⟨thousandth, by decide +kernel⟩,
   ⟨some 5, monitorless, by decide +kernel⟩,
   ⟨none, { up with disp := { up.disp with tick := 1 } }, by decide +kernel⟩,
   ⟨[100, 101, 102, 103, 104, 105, 106, 107], up, sampled [100, 101, 102, 103, 104, 105, 106, 107], by decide +kernel⟩,
   ⟨[230, 231, 232, 233, 230, 231, 232, 233], up, sampled [230, 231, 232, 233, 230, 231, 232, 233], by decide +kernel⟩,
   ⟨oneOff, 7, 160, up, sampled oneOff, by decide +kernel⟩,
   ⟨[], up, by decide +kernel⟩⟩

set_option maxRecDepth 100000 in
theorem test_EnergyGovernorFollowsDrawAndHeat_part2 :
    (∃ (s : State), 100 ≤ s.energy.samples) ∧
    (∃ (s : State), 1000 ≤ s.modes.heldRun ∧ s.modes.word.doze = false) ∧
    (∃ (s : State), (s.modes.heldRun < 1000 ∨ s.modes.word.doze = true)) ∧
    (∃ (s : State), 1000 ≤ s.modes.quietRun) ∧
    (∃ (s : State), s.modes.quietRun < 1000) ∧
    (∃ (src : Src) (given value : Bytes) (s : State) (p : Path), reaches src given s p 0x2000 0x02 value = true ∧ logRoom s
      = true) :=
  ⟨⟨{ up with energy := { up.energy with samples := 100 } }, by decide +kernel⟩,
   ⟨held 1000, by decide +kernel⟩,
   ⟨up, by decide +kernel⟩,
   ⟨throttledState, by decide +kernel⟩,
   ⟨up, by decide +kernel⟩,
   ⟨.write (.mailbox 0), [0xF4, 1], [0xF4, 1], up, .mailbox 0, by decide +kernel⟩⟩

set_option maxRecDepth 100000 in
theorem test_EpochsCommitDrainAndTemplatesLoad_part1 :
    (∃ (src : Src) (s : State) (p : Path), reaches src [1] s p 0x2100 0x05 [1] = true ∧ commitRefused s = 0 ∧
      s.epochs.settling = false ∧ evlogFull s = false) ∧
    (∃ (src : Src) (s : State) (p : Path), reaches src [1] s p 0x2100 0x05 [1] = true ∧ commitRefused s = 0 ∧
      s.epochs.settling = true) ∧
    (∃ (src : Src) (s : State) (p : Path), reaches src [1] s p 0x2100 0x05 [1] = true ∧ commitRefused s ≠ 0) ∧
    (∃ (s : State), s.modes.word.epochSwitch = true ∧ (chainsWhere s fun ch => decide (ch.epoch = s.epochs.old.toNat)) = []
      ∧ s.modes.word.doze = false) ∧
    (∃ (s : State), (s.modes.word.epochSwitch = false ∨ (chainsWhere s fun ch => decide (ch.epoch =
      s.epochs.old.toNat)).isEmpty = false)) ∧
    (∃ (s : State), s.epochs.settling = true ∧ s.epochs.commitWaits = false) ∧
    (∃ (s : State), s.epochs.settling = true ∧ s.epochs.commitWaits = true) ∧
    (∃ (s : State), s.epochs.settling = false) :=
  ⟨⟨.write pf0, stagedDeadline, pf0, by decide +kernel⟩,
   ⟨.write pf0, settlingState false, pf0, by decide +kernel⟩,
   ⟨.write pf0, up, pf0, by decide +kernel⟩,
   ⟨switching, by decide +kernel⟩,
   ⟨up, by decide +kernel⟩,
   ⟨settlingState false, by decide +kernel⟩,
   ⟨settlingState true, by decide +kernel⟩,
   ⟨up, by decide +kernel⟩⟩

set_option maxRecDepth 100000 in
theorem test_EpochsCommitDrainAndTemplatesLoad_part2 :
    (∃ (src : Src) (s : State) (p : Path), reaches src [1] s p 0x2102 0x05 [1] = true ∧ s.host.linkUp = true ∧ 96 ≤
      s.epochs.record.len) ∧
    (∃ (src : Src) (s : State) (p : Path), reaches src [1] s p 0x2102 0x05 [1] = true ∧ (s.host.linkUp = false ∨
      s.epochs.record.len < 96)) ∧
    (∃ (src : Src) (s : State) (p : Path), reaches src [2] s p 0x2102 0x05 [2] = true) ∧
    (∃ (ident slot owner fn addr len : Nat) (sent : Bool) (bytes : Bytes) (bs : List Nat) (s : State), findRead s ident =
      some ⟨ident, .template slot owner, fn, addr, len, sent⟩ ∧ templateFaults s (padTo len bytes) = [] ∧ quotaCovers s owner
      (ceilDiv len 256) = true ∧ allocate s owner (ceilDiv len 256) = some bs) ∧
    (∃ (ident slot owner fn addr len f : Nat) (sent : Bool) (fs : List Nat) (bytes : Bytes) (s : State), findRead s ident =
      some ⟨ident, .template slot owner, fn, addr, len, sent⟩ ∧ templateFaults s (padTo len bytes) = f :: fs) ∧
    (∃ (ident slot owner fn addr len : Nat) (sent : Bool) (bytes : Bytes) (s : State), findRead s ident = some ⟨ident,
      .template slot owner, fn, addr, len, sent⟩ ∧ templateFaults s (padTo len bytes) = [] ∧ (quotaCovers s owner (ceilDiv len
      256) = false ∨ allocate s owner (ceilDiv len 256) = none)) ∧
    (∃ (ident slot owner fn addr len : Nat) (sent : Bool) (answer : ReadAnswer) (s : State), findRead s ident = some ⟨ident,
      .template slot owner, fn, addr, len, sent⟩ ∧ ((answer = .unsupported ∨ answer = .completerAbort ∨ answer = .poison))) :=
  ⟨⟨.write pf0, recordState, pf0, by decide +kernel⟩,
   ⟨.write pf0,
     { recordState with epochs := { recordState.epochs with record := { recordState.epochs.record with len := 8 } } }, pf0,
     by decide +kernel⟩,
   ⟨.write pf0, recordState, pf0, by decide +kernel⟩,
   ⟨5, 3, 0, 0, 0x4000, 96, true, goodBody, [0], fetching, by decide +kernel⟩,
   ⟨5, 3, 0, 0, 0x4000, 96, 0x0102, true, [0x0101, 0x0102, 0x0104], zeros 96, fetching, by decide +kernel⟩,
   ⟨5, 3, 1, 0, 0x4000, 96, true, goodBody, poor, by decide +kernel⟩,
   ⟨5, 3, 0, 0, 0x4000, 96, true, .poison, fetching, by decide +kernel⟩⟩

set_option maxRecDepth 100000 in
theorem test_DozeStarvationAndRevocation_part1 :
    (∃ (src : Src) (given value : Bytes) (s : State) (p : Path), reaches src given s p 0x1200 0x04 value = true) ∧
    (∃ (s : State), decoded s = true ∧ s.modes.word.doze = false ∧ s.modes.word.epochSwitch = false ∧ s.modes.dozePermission
      ≠ 0 ∧ partIdle s = true ∧ s.modes.dozeIdle1 ≤ s.modes.idleFor ∧ testsIdle s = true) ∧
    (∃ (s : State), (s.modes.word.doze = true ∨ s.modes.word.epochSwitch = true ∨ s.modes.dozePermission = 0 ∨ partIdle s =
      false ∨ s.modes.idleFor < s.modes.dozeIdle1 ∨ testsIdle s = false)) ∧
    (∃ (s : State), s.modes.word.doze = true ∧ s.modes.word.dozeDepth = 1 ∧ s.modes.word.epochSwitch = false ∧
      s.modes.dozePermission = 2 ∧ partIdle s = true ∧ s.modes.dozeIdle2 ≤ s.modes.idleFor ∧ testsIdle s = true ∧ pairedNow s
      = false ∧ updateNow s = false ∧ nothingSoon s = true) ∧
    (∃ (s : State), (s.modes.word.doze = false ∨ s.modes.dozePermission ≠ 2 ∨ partIdle s = false ∨ s.modes.idleFor <
      s.modes.dozeIdle2 ∨ testsIdle s = false ∨ pairedNow s = true ∨ updateNow s = true ∨ nothingSoon s = false)) ∧
    (∃ (s : State), s.modes.word.doze = true) ∧
    (∃ (s : State), s.modes.word.doze = false) ∧
    (∃ (arbiter requester bank wait flag : Nat) (s : State), arbiter < 4 ∧ requester < [8, 3, 4, 4].getD arbiter 0 ∧ bank <
      32 ∧ s.flow.thresholds.getD arbiter 0 < wait ∧ flag = (if arbiter = 0 then 8 * (bank / 8) + requester else requester) ∧
      logRoom s = true) :=
  ⟨⟨.write pf0, [1], [1], up, pf0, by decide +kernel⟩,
   ⟨idleState, by decide +kernel⟩,
   ⟨up, by decide +kernel⟩,
   ⟨dozing 1, by decide +kernel⟩,
   ⟨up, by decide +kernel⟩,
   ⟨dozing 2, by decide +kernel⟩,
   ⟨up, by decide +kernel⟩,
   ⟨0, 3, 5, 9, 3, { up with flow := { up.flow with thresholds := [4, 4, 4, 4] } }, by decide +kernel⟩⟩

set_option maxRecDepth 100000 in
theorem test_DozeStarvationAndRevocation_part2 :
    (∃ (arbiter requester bank wait : Nat) (s : State), (4 ≤ arbiter ∨ [8, 3, 4, 4].getD arbiter 0 ≤ requester ∨ 32 ≤ bank ∨
      wait ≤ s.flow.thresholds.getD arbiter 0)) ∧
    (∃ (src : Src) (arbiter : Nat) (given value : Bytes) (s : State) (p : Path), arbiter < 4 ∧ reaches src given s p 0x2200
      (0x14 + arbiter) value = true) ∧
    (∃ (owner : Nat) (s : State), ((∀ x ∈ s.disp.chains, (chainTag x.1 = owner ∨ functionTag x.2.fn = owner) → x.2.revoked =
      true → revocationDone x.2 = true))) ∧
    (∃ (owner : Nat) (s : State), ((∃ x ∈ s.disp.chains, (chainTag x.1 = owner ∨ functionTag x.2.fn = owner) ∧ x.2.revoked =
      true ∧ revocationDone x.2 = false))) :=
  ⟨⟨4, 3, 5, 9, up, by decide +kernel⟩,
   ⟨.write pf0, 0, natLE 4 8, natLE 4 8, { up with flow := { up.flow with flags := [12, 0, 0, 0] } }, pf0,
     by decide +kernel⟩,
   ⟨2, revokedState, by decide +kernel⟩,
   ⟨2, revokedIssued, by decide +kernel⟩⟩

set_option maxRecDepth 100000 in
theorem test_MailboxMessagesExecuteAndAreRefused :
    (∃ (fn slot : Nat) (v : MailSlot) (value : Bytes) (s u : State), v = mailSlot s fn slot ∧ mailNext s fn slot = true ∧
      v.command = 1 ∧ u = wake s ∧ readForm v = true ∧ lockedNow u = false ∧ asArrived v.depth (bodyIndex v) (bodySub v)
      (readEntry u (.mailbox fn) 240 (bodyIndex v) (bodySub v)) = (0, value) ∧ ((∀ h ∈ s.dict.held, h.path ≠ .mailbox fn))) ∧
    (∃ (fn slot r : Nat) (v : MailSlot) (s u : State), v = mailSlot s fn slot ∧ mailNext s fn slot = true ∧ v.command = 1 ∧
      u = wake s ∧ ((∀ h ∈ s.dict.held, h.path ≠ .mailbox fn)) ∧ ((lockedNow u = true ∧ ¬(bodyIndex v = 0x1200 ∧ bodySub v =
      1) ∧ r = 7 ∨ lockedNow u = false ∧ readForm v = false ∧ r = 2 ∨ lockedNow u = false ∧ readForm v = true ∧ readEntry u
      (.mailbox fn) 240 (bodyIndex v) (bodySub v) = (r, []) ∧ r ≠ 0))) ∧
    (∃ (fn slot : Nat) (s : State), (mailNext s fn slot = false ∨ (mailSlot s fn slot).command ≠ 1)) ∧
    (∃ (fn slot r : Nat) (v : MailSlot) (s u : State), v = mailSlot s fn slot ∧ mailNext s fn slot = true ∧ v.command = 2 ∧
      u = wake s ∧ hasRow (bodyIndex v) (bodySub v) (bodyValue v) = false ∧ ((∀ h ∈ s.dict.held, h.path ≠ .mailbox fn)) ∧
      ((lockedNow u = true ∧ r = 7 ∨ lockedNow u = false ∧ standbyNow u = true ∧ r = 8 ∨ lockedNow u = false ∧ standbyNow u =
      false ∧ 4 ≤ v.length ∧ bodyZero v = true ∧ writeRefused u (.mailbox fn) (bodyIndex v) (bodySub v) (bodyValue v) = some
      r))) ∧
    (∃ (fn slot : Nat) (s : State), (mailNext s fn slot = false ∨ (mailSlot s fn slot).command ≠ 2)) ∧
    (∃ (fn slot index sub : Nat) (value : Bytes) (s u : State), u = wake s ∧ mailNext s fn slot = true ∧ reaches (.message
      fn slot) [] u (.mailbox fn) index sub value = true ∧ hasRow index sub value = false ∧ inConfigSet index sub = false ∧
      ¬(index = 0x9000 ∧ sub = 6 ∧ otherPath u (.mailbox fn) = true)) ∧
    (∃ (fn slot index sub : Nat) (value : Bytes) (s u : State), u = wake s ∧ mailNext s fn slot = true ∧ reaches (.message
      fn slot) [] u (.mailbox fn) index sub value = true ∧ hasRow index sub value = false ∧ stagedEntry index sub = true) ∧
    (∃ (fn slot : Nat) (value : Bytes) (s u : State), u = wake s ∧ mailNext s fn slot = true ∧ reaches (.message fn slot) []
      u (.mailbox fn) 0x9000 6 value = true ∧ otherPath u (.mailbox fn) = true) :=
  ⟨⟨0, 0, mailSlot readAsk 0 0, natLE 2 0x0114, readAsk, wake readAsk, by decide +kernel⟩,
   ⟨0, 0, 7, mailSlot readLocked 0 0, readLocked, wake readLocked, by decide +kernel⟩,
   ⟨0, 0, up, by decide +kernel⟩,
   ⟨0, 0, 7, mailSlot writeLocked 0 0, writeLocked, wake writeLocked, by decide +kernel⟩,
   ⟨0, 0, up, by decide +kernel⟩,
   ⟨0, 0, 0x2200, 3, natLE 2 0x0123, writeAsk, wake writeAsk, by decide +kernel⟩,
   ⟨0, 0, 0x3200, 1, natLE 2 5, writeStage, wake writeStage, by decide +kernel⟩,
   ⟨0, 0, natLE 4 8448, writeOther, wake writeOther, by decide +kernel⟩⟩

set_option maxRecDepth 100000 in
theorem test_WrittenEntriesReadBack_part1 :
    (∃ (p : Path) (s : State) (n : Nat) (value : Bytes), n < 0x400 ∧ value.length = 32) ∧
    (∃ (p : Path) (s : State) (n : Nat) (value : Bytes), n < 4 ∧ value.length = 4) ∧
    (∃ (p : Path) (s : State) (index sub : Nat) (value : Bytes), perPath index sub = false ∧ stagedEntry index sub = false) ∧
    (∃ (p : Path) (s : State) (index sub : Nat) (value : Bytes), perPath index sub = true) :=
  ⟨⟨.mailbox 0, up, 3, natLE 32 77, by decide +kernel⟩,
   ⟨.mailbox 0, up, 2, natLE 4 77, by decide +kernel⟩,
   ⟨.mailbox 0, up, 0x2200, 3, natLE 2 0x0123, by decide +kernel⟩,
   ⟨.mailbox 0, up, 0x1001, 2, natLE 4 16, by decide +kernel⟩⟩

theorem test_WrittenEntriesReadBack_part2 : ∃ (s : State) (value : Bytes), value.length = 2 ∧ valueInRange s 0x2200 3 value = true := ⟨up, natLE 2 0x0123, by decide +kernel⟩

set_option maxRecDepth 100000 in
theorem test_SlotActionsChangeOneSlot :
    (∃ (src : Src) (s : State) (p : Path) (n : Nat), reaches src [1] s p 0x3001 5 [1] = true ∧ n = selectedSlot s (pathFn p)
      ∧ slotActionResult s (pathFn p) n [.valid, .bad] false = 0) ∧
    (∃ (src : Src) (s : State) (p : Path) (n : Nat), reaches src [2] s p 0x3001 5 [2] = true ∧ n = selectedSlot s (pathFn p)
      ∧ slotActionResult s (pathFn p) n [.valid] true = 0) ∧
    (∃ (src : Src) (s : State) (p : Path) (n : Nat), reaches src [3] s p 0x3001 5 [3] = true ∧ n = selectedSlot s (pathFn p)
      ∧ slotActionResult s (pathFn p) n [.bad] false = 0) ∧
    (∃ (src : Src) (s : State) (p : Path) (r : Nat) (y : Instr × Nat × List SlotState × Bool), y ∈ ([ (.slotDeleteNow src,
      1, [.valid, .bad], false), (.slotStageDelete src, 2, [.valid], true), (.slotZeroiseBad src, 3, [.bad], false)] : List
      (Instr × Nat × List SlotState × Bool)) ∧ reaches src [byte y.2.1] s p 0x3001 5 [byte y.2.1] = true ∧ slotActionResult s
      (pathFn p) (selectedSlot s (pathFn p)) y.2.2.1 y.2.2.2 = r ∧ r ≠ 0) :=
  ⟨⟨.write pf0, slotted .valid, pf0, 4, by decide +kernel⟩,
   ⟨.write pf0, slotted .valid, pf0, 4, by decide +kernel⟩,
   ⟨.write pf0, slotted .bad, pf0, 4, by decide +kernel⟩,
   ⟨.write pf0, emptySlotted, pf0, 4, (.slotDeleteNow (.write pf0), 1, [.valid, .bad], false), by decide +kernel⟩⟩

set_option maxRecDepth 100000 in
theorem test_KeysZeroisedFlooredAndRemasked_part1 :
    (∃ (src : Src) (s : State) (p : Path), reaches src [1] s p 0x3000 0xB [1] = true ∧ s.modes.word.service = false ∧
      evlogFull s = false) ∧
    (∃ (src : Src) (s : State) (p : Path) (y : Instr × Nat), y ∈ ([(.zeroiseWorkingSlots src, 1), (.zeroiseAllKeys src, 2)]
      : List (Instr × Nat)) ∧ reaches src [byte y.2] s p 0x3000 0xB [byte y.2] = true ∧ s.modes.word.service = true) ∧
    (∃ (src : Src) (s : State) (p : Path), reaches src [2] s p 0x3000 0xB [2] = true ∧ s.modes.word.service = false ∧
      evlogFull s = false) ∧
    (∃ (n e f : Nat) (s : State), floorDue s n = true ∧ entryOf s n = some (e, f) ∧ noncesLeft s = true) ∧
    (∃ (n : Nat) (s : State), floorDue s n = false) ∧
    (∃ (s : State), s.sec.deviceTime.toNat % 32768 = 0 ∧ s.keys.remaskedAt ≠ some s.sec.deviceTime.toNat) ∧
    (∃ (s : State), (s.sec.deviceTime.toNat % 32768 ≠ 0 ∨ s.keys.remaskedAt = some s.sec.deviceTime.toNat)) ∧
    (∃ (s : State), s.keys.rootPending = true ∧ computeUp s = true ∧ s.tamper.live = 0 ∧ 1000 ≤ s.tamper.quietFor) :=
  ⟨⟨.write .custody, ceremonial 9 (slotted .valid), .custody, by decide +kernel⟩,
   ⟨.write .custody, ceremonial 9 serving, .custody, (.zeroiseWorkingSlots (.write .custody), 1), by decide +kernel⟩,
   ⟨.write .custody, ceremonial 9 (slotted .valid), .custody, by decide +kernel⟩,
   ⟨4, 9, 1000, floored, by decide +kernel⟩,
   ⟨4, up, by decide +kernel⟩,
   ⟨up, by decide +kernel⟩,
   ⟨{ up with keys := { up.keys with remaskedAt := some up.sec.deviceTime.toNat } }, by decide +kernel⟩,
   ⟨rootless, by decide +kernel⟩⟩

theorem test_KeysZeroisedFlooredAndRemasked_part2 :
    (∃ (s : State), (s.keys.rootPending = false ∨ computeUp s = false ∨ s.tamper.live ≠ 0 ∨ s.tamper.quietFor < 1000)) :=
  ⟨up, by decide +kernel⟩

set_option maxRecDepth 100000 in
theorem test_NoiseSourcesSampledAndTested :
    (∃ (levels : List (Bool × Bool)) (after : List Source) (s : State), sourcesRun s = true ∧ levels.length = 4 ∧
      s.rng.capture = 0xFF ∧ after = (s.rng.sources.zip (levels.map fun x => x.1 != x.2)).map (fun x => takeBit x.1 x.2) ∧
      ((List.range 4).all fun i => decide ((after.getD i Source.reset).run < 81)) = true) ∧
    (∃ (levels : List (Bool × Bool)) (n : Nat) (marked after : List Source) (s : State), sourcesRun s = true ∧ portOpen s =
      true ∧ levels.length = 4 ∧ n < 4 ∧ s.rng.capture = n ∧ marked = setAt s.rng.sources n
      { getSource s n with streamed := true } ∧ after = (marked.zip (levels.map fun x => x.1 != x.2)).map (fun x => takeBit
      x.1 x.2) ∧ ((List.range 4).all fun i => decide ((after.getD i Source.reset).run < 81)) = true) ∧
    (∃ (levels : List (Bool × Bool)) (freqs : List (Nat × Nat)) (after : List Source) (s : State), sourcesRun s = true ∧
      levels.length = 4 ∧ s.rng.capture = 0xFF ∧ freqs.length = 4 ∧ ((∀ f ∈ freqs, notLive f = false)) ∧ after =
      (s.rng.sources.zip (levels.map fun x => x.1 != x.2)).map (fun x => takeBit x.1 x.2) ∧ ((List.range 4).all fun i =>
      decide ((after.getD i Source.reset).run < 81)) = true) ∧
    (∃ (levels : List (Bool × Bool)) (i : Nat) (x : Source) (after : List Source) (s : State), sourcesRun s = true ∧
      levels.length = 4 ∧ s.rng.capture = 0xFF ∧ s.rng.state ≠ 2 ∧ after = (s.rng.sources.zip (levels.map fun x => x.1 !=
      x.2)).map (fun x => takeBit x.1 x.2) ∧ (List.range 4).find? (fun i => decide (81 ≤ (after.getD i Source.reset).run)) =
      some i ∧ x = after.getD i Source.reset ∧ freshFatal s (faultCode 3 0x08 (if x.started then 1 else 6)) = true) ∧
    (∃ (levels : List (Bool × Bool)) (freqs : List (Nat × Nat)) (s : State), (sourcesRun s = false ∨ levels.length ≠ 4)) ∧
    (∃ (i : Nat) (x : Source) (s : State), i < 4 ∧ i < s.rng.sources.length ∧ x = getSource s i ∧ 1024 ≤ x.window.length ∧
      s.rng.state ≠ 2 ∧ sourcesRun s = true ∧ windowCause s i = 0) ∧
    (∃ (i : Nat) (x : Source) (s : State), i < 4 ∧ i < s.rng.sources.length ∧ x = getSource s i ∧ 1024 ≤ x.window.length ∧
      s.rng.state ≠ 2 ∧ sourcesRun s = true ∧ windowCause s i ≠ 0 ∧ freshFatal s (faultCode 3 0x08 (if x.started then
      windowCause s i else 6)) = true) ∧
    (∃ (i : Nat) (s : State), (4 ≤ i ∨ (getSource s i).window.length < 1024 ∨ s.rng.state = 2 ∨ sourcesRun s = false)) :=
  ⟨⟨fourBits, strobed up, up, by decide +kernel⟩,
   ⟨fourBits, 2, capturedSources, (capturedSources.zip [true, false, true, false]).map fun x => takeBit x.1 x.2, capturing,
     by decide +kernel⟩,
   ⟨fourBits, liveFreqs, strobed up, up, by decide +kernel⟩,
   ⟨fourBits, 0, (strobed (sourced stuck up)).getD 0 Source.reset, strobed (sourced stuck up), sourced stuck up,
     by decide +kernel⟩,
   ⟨[], [], up, by decide +kernel⟩,
   ⟨0, full, sourced full up, by decide +kernel⟩,
   ⟨0, flat, sourced flat up, by decide +kernel⟩,
   ⟨0, up, by decide +kernel⟩⟩

set_option maxRecDepth 100000 in
theorem test_DrbgReseededAndStoresFilled_part1 :
    (∃ (d : Drbg) (s : State), seedReady s = true ∧ s.rng.drbg = some d) ∧
    (∃ (s : State), seedReady s = true ∧ s.rng.drbg = none ∧ s.rng.state = 3) ∧
    (∃ (s : State), seedReady s = false) ∧
    (∃ (d : Drbg) (s : State), s.rng.drbg = some d ∧ s.rng.reserve.length < 256 ∧ s.rng.calls < hardLimit ∧ sourcesRun s =
      true) ∧
    (∃ (d : Drbg) (s : State), s.rng.drbg = some d ∧ 256 ≤ s.rng.reserve.length ∧ s.rng.buffer.length + 256 ≤ 4096 ∧
      s.rng.calls < hardLimit ∧ sourcesRun s = true) ∧
    (∃ (reserve : Bool) (s : State), (s.rng.drbg = none ∨ hardLimit ≤ s.rng.calls ∨ sourcesRun s = false ∨ (reserve = true ∧
      256 ≤ s.rng.reserve.length) ∨ (reserve = false ∧ (s.rng.reserve.length < 256 ∨ 4096 < s.rng.buffer.length + 256)))) ∧
    (∃ (src : Src) (given value : Bytes) (s : State) (p : Path), reaches src given s p 0x3100 0xB value = true ∧ leNat value
      < 4 ∧ leNat value < s.rng.sources.length ∧ s.modes.word.debugOpen = true ∧ portOpen s = true ∧ leNat value ≠
      s.rng.capture) ∧
    (∃ (src : Src) (given : Bytes) (s : State) (p : Path), reaches src given s p 0x3100 0xB [0xFF] = true ∧
      s.modes.word.debugOpen = true) :=
  ⟨⟨aDrbg, withDrbg released, by decide +kernel⟩,
   ⟨{ released with rng := { released.rng with state := 3, drbg := none } }, by decide +kernel⟩,
   ⟨up, by decide +kernel⟩,
   ⟨aDrbg, withDrbg up, by decide +kernel⟩,
   ⟨aDrbg, filled, by decide +kernel⟩,
   ⟨true, filled, by decide +kernel⟩,
   ⟨.write .custody, [2], [2], debugging, .custody, by decide +kernel⟩,
   ⟨.write .custody, [0xFF], capturing, .custody, by decide +kernel⟩⟩

theorem test_DrbgReseededAndStoresFilled_part2 :
    (∃ (src : Src) (given value : Bytes) (s : State) (p : Path), reaches src given s p 0x3100 0xB value = true ∧
      s.modes.word.debugOpen = false) :=
  ⟨.write .custody, [2], [2], up, .custody, by decide +kernel⟩

set_option maxRecDepth 100000 in
theorem test_InstructionsWindowsAndTraps_part1 :
    (∃ (core wrongPath fills : Nat) (missed : Bool) (fetched : Fetched) (c : Core) (s : State), executes s core = true ∧
      wrongPath ≤ 16 ∧ fetched ≠ .ownRow ∧ bits (fetchedWord s core) 26 6 ≠ 0x3D ∧ c = (getCore s core).speculate wrongPath
      fills missed) ∧
    (∃ (core wrongPath fills : Nat) (missed : Bool) (fetched : Fetched) (s : State), executes s core = true ∧ wrongPath ≤ 16
      ∧ fetched ≠ .ownRow ∧ bits (fetchedWord s core) 26 6 = 0x3D ∧ waitGroupOk (fetchedWord s core) = false ∧ (getCore s
      core).cwp ≠ 11) ∧
    (∃ (core wrongPath fills : Nat) (missed : Bool) (fetched : Fetched) (i : Instr) (s : State), executes s core = true ∧
      wrongPath ≤ 16 ∧ fetched ≠ .ownRow ∧ waitGroupOf core (fetchedWord s core) = some i) ∧
    (∃ (core wrongPath fills : Nat) (missed : Bool) (s : State), coreRuns s core = true ∧ wrongPath ≤ 16) ∧
    (∃ (core : Nat) (target : BitVec 64) (c : Core) (s : State), executes s core = true ∧ c = getCore s core ∧ c.cwp < 11 ∧
      c.winuse < 11) ∧
    (∃ (core : Nat) (target : BitVec 64) (c : Core) (s : State), executes s core = true ∧ c = getCore s core ∧ c.cwp < 11 ∧
      11 ≤ c.winuse) ∧
    (∃ (core : Nat) (target : BitVec 64) (c : Core) (s : State), executes s core = true ∧ c = getCore s core ∧ 1 < c.winuse) ∧
    (∃ (core : Nat) (target : BitVec 64) (s : State), executes s core = true ∧ (getCore s core).winuse ≤ 1 ∧ (getCore s
      core).cwp ≠ 11) :=
  ⟨⟨0, 3, 1, true, .ordinary, core0.speculate 3 1 true, coring core0, by decide +kernel⟩,
   ⟨0, 3, 1, true, .ordinary, atWord 0xF400000F (coring core0), by decide +kernel⟩,
   ⟨0, 3, 1, true, .ordinary, .waitw 0 3 4 5, atWord 0xF4642800 (coring core0), by decide +kernel⟩,
   ⟨0, 3, 1, true, coring core0, by decide +kernel⟩,
   ⟨0, 0x200, core0, coring core0, by decide +kernel⟩,
   ⟨0, 0x200, { core0 with winuse := 11 }, coring { core0 with winuse := 11 }, by decide +kernel⟩,
   ⟨0, 0x200, { core0 with winuse := 2, cwp := 1 }, coring { core0 with winuse := 2, cwp := 1 }, by decide +kernel⟩,
   ⟨0, 0x200, coring { core0 with winuse := 1 }, by decide +kernel⟩⟩

set_option maxRecDepth 100000 in
theorem test_InstructionsWindowsAndTraps_part2 :
    (∃ (core : Nat) (s : State), executes s core = true ∧ (getCore s core).cwp = 11) ∧
    (∃ (core : Nat) (s : State) (i : Instr), i ∈ ([.tret core, .spill core, .fill core] : List Instr) ∧ executes s core =
      true ∧ (getCore s core).cwp ≠ 11) ∧
    (∃ (core cause : Nat) (s : State), executes s core = true ∧ (getCore s core).cwp ≠ 11 ∧ ((s.modes.word.debugOpen = true
      ∧ cause = 9 ∨ s.modes.word.debugOpen = false ∧ cause = 3))) ∧
    (∃ (core : Nat) (target : BitVec 64) (s : State) (i : Instr), i ∈ ([.brk core, .call core target] : List Instr) ∧
      executes s core = true ∧ (getCore s core).cwp = 11) ∧
    (∃ (core a b d width : Nat) (v w : BitVec 64) (s : State) (i : Instr), i ∈ ([.call core v, .ret core v, .tret core, .brk
      core, .spill core, .fill core, .waitw core a b d, .waite core a b d, .engreq core a b, .signal core a, .rndrd core a,
      .csrr core a b, .csrw core a b, .coreLoad core a v width, .coreStore core v width w] : List Instr) ∧ coreRuns s core =
      false) ∧
    (∃ (core a b d width : Nat) (v w : BitVec 64) (s : State) (i : Instr), i ∈ ([.call core v, .ret core v, .tret core, .brk
      core, .spill core, .fill core, .waitw core a b d, .waite core a b d, .engreq core a b, .signal core a, .rndrd core a,
      .csrr core a b, .csrw core a b, .coreLoad core a v width, .coreStore core v width w] : List Instr) ∧ coreRuns s core =
      true ∧ 0x20000 ≤ (getCore s core).pc.toNat ∧ (getCore s core).cwp ≠ 11) ∧
    (∃ (core p : Nat) (s : State), executes s core = true ∧ (getCore s core).cwp = 11 ∧ p = (getCore s core).ssp.toNat ∧ 128
      + (getCore s core).ssl.toNat ≤ p ∧ spillOk s core (p - 128) 1 = true) ∧
    (∃ (core p : Nat) (s : State), executes s core = true ∧ (getCore s core).cwp = 11 ∧ p = (getCore s core).ssp.toNat ∧
      (getCore s core).spilln ≠ 0 ∧ spillOk s core p 0 = true) :=
  ⟨⟨0, coring trapCore, by decide +kernel⟩,
   ⟨0, coring core0, .tret 0, by decide +kernel⟩,
   ⟨0, 3, coring core0, by decide +kernel⟩,
   ⟨0, 0, coring trapCore, .brk 0, by decide +kernel⟩,
   ⟨0, 1, 2, 3, 4, 0, 0, { coring core0 with boot := { up.boot with phase := .inReset } }, .rndrd 0 1, by decide +kernel⟩,
   ⟨0, 1, 2, 3, 4, 0, 0, coring farCore, .rndrd 0 1, by decide +kernel⟩,
   ⟨0, 0x30000, coring trapCore, by decide +kernel⟩,
   ⟨0, 0x30000, coring { trapCore with spilln := 1, winuse := 1 }, by decide +kernel⟩⟩

set_option maxRecDepth 100000 in
theorem test_InstructionsWindowsAndTraps_part3 :
    (∃ (core p : Nat) (s : State), executes s core = true ∧ (getCore s core).cwp = 11 ∧ p = (getCore s core).ssp.toNat ∧ ((p
      < 128 + (getCore s core).ssl.toNat ∨ spillOk s core (p - 128) 1 = false))) ∧
    (∃ (core p : Nat) (s : State), executes s core = true ∧ (getCore s core).cwp = 11 ∧ p = (getCore s core).ssp.toNat ∧
      (((getCore s core).spilln = 0 ∨ spillOk s core p 0 = false))) :=
  ⟨⟨0, 0x20000, coring { trapCore with ssp := 0x20000 }, by decide +kernel⟩,
   ⟨0, 0x30000, coring { trapCore with winuse := 1 }, by decide +kernel⟩⟩

set_option maxRecDepth 100000 in
theorem test_SpecialRegistersSignalsAndTimers_part1 :
    (∃ (core rd csr : Nat) (v : BitVec 64) (s : State), executes s core = true ∧ csrValue s core csr = some v) ∧
    (∃ (core rs1 csr : Nat) (s : State), executes s core = true ∧ (csrValue s core csr).isSome = true) ∧
    (∃ (core csr r : Nat) (s : State) (i : Instr), i ∈ ([.csrr core r csr, .csrw core r csr] : List Instr) ∧ executes s core
      = true ∧ csrValue s core csr = none ∧ (getCore s core).cwp ≠ 11) ∧
    (∃ (core rd : Nat) (s : State), executes s core = true ∧ s.rng.state = 1 ∧ s.rng.filled = true ∧ 8 ≤
      s.rng.reserve.length) ∧
    (∃ (core rd : Nat) (s : State), executes s core = true ∧ ¬(s.rng.state = 1 ∧ s.rng.filled = true ∧ 8 ≤
      s.rng.reserve.length)) ∧
    (∃ (core rs1 k : Nat) (s : State), executes s core = true ∧ k = ((getCore s core).reg rs1).toNat ∧ k < coreCount s ∧
      isWithdrawn 9 k s = false ∧ k ≠ core) ∧
    (∃ (core rs1 : Nat) (s : State), executes s core = true ∧ ((getCore s core).reg rs1).toNat = core) ∧
    (∃ (core rs1 k : Nat) (s : State), executes s core = true ∧ k = ((getCore s core).reg rs1).toNat ∧ (coreCount s ≤ k ∨
      isWithdrawn 9 k s = true)) :=
  ⟨⟨0, 3, 0xB, 5, coring { core0 with tmrf := 5 }, by decide +kernel⟩,
   ⟨0, 3, 0x18, coring (withG 3 7 core0), by decide +kernel⟩,
   ⟨0, 0x300, 3, coring core0, .csrr 0 3 0x300, by decide +kernel⟩,
   ⟨0, 17, reserved 8 core0, by decide +kernel⟩,
   ⟨0, 17, { coring core0 with rng := { up.rng with reserve := zeros 7 } }, by decide +kernel⟩,
   ⟨0, 3, 1, coring (withG 3 1 core0), by decide +kernel⟩,
   ⟨0, 0, coring core0, by decide +kernel⟩,
   ⟨0, 3, 99, coring (withG 3 99 core0), by decide +kernel⟩⟩

set_option maxRecDepth 100000 in
theorem test_SpecialRegistersSignalsAndTimers_part2 :
    (∃ (core timer : Nat) (d : Due) (s : State), dueIs s .firmwareTimer core timer = some d) ∧
    (∃ (core timer : Nat) (s : State), dueIs s .firmwareTimer core timer = none) :=
  ⟨⟨0, 2, ⟨.firmwareTimer, 0, 2, 5, 0⟩, timed { core0 with timers := setAt core0.timers 2 (some 5) } .firmwareTimer 2,
     by decide +kernel⟩,
   ⟨0, 2, up, by decide +kernel⟩⟩

set_option maxRecDepth 100000 in
theorem test_LoadsAndStores_part1 :
    (∃ (core rd width : Nat) (addr : BitVec 64) (p : Place) (data : Bytes) (s : State), executes s core = true ∧ widthOk
      width = true ∧ addr.toNat % width = 0 ∧ p = placeOf s core addr.toNat ∧ p ≠ .nowhere ∧ ((∀ z, placeTarget s core p
      addr.toNat = some z → accessPasses s 5 z.1 z.2 0 = true)) ∧ loadBytes s core p width = some data) ∧
    (∃ (core width : Nat) (addr v : BitVec 64) (c off : Nat) (s : State), executes s core = true ∧ widthOk width = true ∧
      addr.toNat % width = 0 ∧ placeOf s core addr.toNat = .scratch c off 0 ∧ accessPasses s 5 4 (0x30000000 + 0x40000 * c +
      off) 1 = true) ∧
    (∃ (core width : Nat) (addr v : BitVec 64) (c off : Nat) (s : State), executes s core = true ∧ ((width = 4 ∨ width = 8))
      ∧ addr.toNat % width = 0 ∧ placeOf s core addr.toNat = .scratch c off 1 ∧ accessPasses s 5 4 (0x30000000 + 0x40000 * c +
      off) 1 = true) ∧
    (∃ (core width : Nat) (addr v : BitVec 64) (c off old : Nat) (s : State), executes s core = true ∧ ((width = 4 ∨ width =
      8)) ∧ addr.toNat % width = 0 ∧ placeOf s core addr.toNat = .scratch c off 2 ∧ accessPasses s 5 4 (0x30000000 + 0x40000 *
      c + off) 1 = true ∧ old = leNat (Memory.readN s.scratch (0x40000 * c + off) width)) ∧
    (∃ (core width : Nat) (addr v : BitVec 64) (s : State) (y : Instr × Nat), y ∈ ([ (.bitSetAliasStore core addr width v,
      1), (.bitClearAliasStore core addr width v, 2)] : List (Instr × Nat)) ∧ aliasOf s core addr.toNat ≠ y.2) ∧
    (∃ (core width off : Nat) (addr v : BitVec 64) (c n : Nat) (ch : Chain) (l : LinkWords) (r : LinkRun) (s : State),
      executes s core = true ∧ widthOk width = true ∧ addr.toNat % width = 0 ∧ placeOf s core addr.toNat = .window off ∧
      heldLink s core = some (c, n, ch, l, r) ∧ accessPasses s 5 0 (ch.addr off) 1 = true ∧ ((∀ i < width, refCovers l.out
      (off + i) = true))) ∧
    (∃ (core width n off attr : Nat) (addr v : BitVec 64) (s : State), executes s core = true ∧ widthOk width = true ∧
      addr.toNat % width = 0 ∧ placeOf s core addr.toNat = .slot n off ∧ 32 ≤ off ∧ off < 40 ∧ accessPasses s 5 1 addr.toNat 1
      = true ∧ attr = leNat (overlay (off - 32) (natLE width v.toNat) (natLE 8 (getSlot s n).attr)) ∧ attrRefused attr = false
      ∧ (getSlot s n).state ≠ .bad ∧ lockedByOther s (unitTag 9 core) n = false) ∧
    (∃ (core width n off : Nat) (addr v : BitVec 64) (s : State), executes s core = true ∧ widthOk width = true ∧ addr.toNat
      % width = 0 ∧ ((placeOf s core addr.toNat = .slot n off ∧ 40 ≤ off ∧ accessPasses s 5 1 addr.toNat 1 = true ∨ placeOf s
      core addr.toNat = .device n ∧ accessPasses s 5 n addr.toNat 1 = true))) :=
  ⟨⟨0, 3, 4, 0x20000, .scratch 0 0x20000 0, [1, 2, 3, 4], requesting [1, 2, 3, 4, 5] (coring core0), by decide +kernel⟩,
   ⟨0, 4, 0x20008, 0x11223344, 0, 0x20008, coring core0, by decide +kernel⟩,
   ⟨0, 4, 0x60000, 0xF0, 0, 0x20000, requesting [1, 2, 3, 4, 5] (coring core0), by decide +kernel⟩,
   ⟨0, 8, 0xA0000, 0xFF, 0, 0x20000, 0x0504030201, requesting [1, 2, 3, 4, 5] (coring core0), by decide +kernel⟩,
   ⟨0, 4, 0x20000, 7, coring core0, (.bitSetAliasStore 0 0x20000 4 7, 1), by decide +kernel⟩,
   ⟨0, 4, 4, 0x1000004, 0x55667788, 2, 0, outChain, outWords, heldRun, outing, by decide +kernel⟩,
   ⟨0, 8, 4, 32, slotAttr + 4096, 0x40000120, BitVec.ofNat 64 (slotAttr + 4096), slotting, by decide +kernel⟩,
   ⟨0, 4, 4, 40, 0x40000128, 7, slotting, by decide +kernel⟩⟩

set_option maxRecDepth 100000 in
theorem test_LoadsAndStores_part2 :
    (∃ (core rd width cause : Nat) (addr v : BitVec 64) (s : State) (y : Instr × Nat), y ∈ ([ (.coreLoad core rd addr width,
      5), (.coreStore core addr width v, 6)] : List (Instr × Nat)) ∧ executes s core = true ∧ widthOk width = true ∧ (getCore
      s core).cwp ≠ 11 ∧ ((addr.toNat % width ≠ 0 ∧ cause = 7 ∨ addr.toNat % width = 0 ∧ placeOf s core addr.toNat = .nowhere
      ∧ cause = y.2 ∧ addr.toNat < 0x40000000))) ∧
    (∃ (core rd width tgt a : Nat) (addr v : BitVec 64) (s : State) (y : Instr × Nat), y ∈ ([ (.coreLoad core rd addr width,
      5), (.coreStore core addr width v, 6)] : List (Instr × Nat)) ∧ executes s core = true ∧ widthOk width = true ∧ (getCore
      s core).cwp ≠ 11 ∧ addr.toNat % width = 0 ∧ placeOf s core addr.toNat ≠ .nowhere ∧ placeTarget s core (placeOf s core
      addr.toNat) addr.toNat = some (tgt, a) ∧ accessPasses s 5 tgt a (y.2 - 5) = false) :=
  ⟨⟨0, 3, 4, 7, 0x20002, 0, coring core0, (.coreLoad 0 3 0x20002 4, 5), by decide +kernel⟩,
   ⟨0, 3, 4, 7, 0x70000000, 0x70000000, 0, coring core0, (.coreLoad 0 3 0x70000000 4, 5), by decide +kernel⟩⟩

set_option maxRecDepth 100000 in
theorem test_CoreWaitsStartAndEnd_part1 :
    (∃ (core rd rs1 rs2 : Nat) (s : State), executes s core = true ∧ (getCore s core).holds = false) ∧
    (∃ (core rd rs1 rs2 : Nat) (s : State), executes s core = true ∧ (getCore s core).holds = true ∧ (getCore s core).cwp ≠
      11) ∧
    (∃ (core rd rs1 rs2 mask : Nat) (s : State), executes s core = true ∧ mask = ((getCore s core).reg rs1).toNat % 2 ^ 16 ∧
      eventWord s core (maskFor s core mask) = 0) ∧
    (∃ (core rd rs1 rs2 w : Nat) (s : State), executes s core = true ∧ w = eventWord s core (maskFor s core (((getCore s
      core).reg rs1).toNat % 2 ^ 16)) ∧ w ≠ 0) ∧
    (∃ (core mask w : Nat) (due : Option Nat) (s : State), (getCore s core).wait = .waite mask due ∧ firmwareRuns s = true ∧
      core < coreCount s ∧ w = eventWord s core (maskFor s core mask) ∧ w ≠ 0) ∧
    (∃ (core : Nat) (s : State), ((∀ mask due, (getCore s core).wait = .waite mask due → eventWord s core (maskFor s core
      mask) = 0))) ∧
    (∃ (core mask : Nat) (due : Option Nat) (d : Due) (s : State), dueIs s .waitTimeout core 0 = some d ∧ (((getCore s
      core).wait = .waitw mask due ∨ (getCore s core).wait = .waite mask due ∧ eventWord s core (maskFor s core mask) = 0))) ∧
    (∃ (core mask w : Nat) (due : Option Nat) (d : Due) (s : State), dueIs s .waitTimeout core 0 = some d ∧ (getCore s
      core).wait = .waite mask due ∧ w = eventWord s core (maskFor s core mask) ∧ w ≠ 0) :=
  ⟨⟨0, 1, 2, 3, coring (withG 3 50 (withG 2 0xFFFF core0)), by decide +kernel⟩,
   ⟨0, 1, 2, 3, coring heldCore, by decide +kernel⟩,
   ⟨0, 1, 2, 3, 5, coring (withG 2 5 core0), by decide +kernel⟩,
   ⟨0, 1, 2, 3, 0x15,
     { coring (withG 2 0x17 { core0 with events := 5 }) with cores := { (coring (withG 2 0x17 { core0 with events := 5 })).cores with deviceEvents := [4, 7] } },
     by decide +kernel⟩,
   ⟨0, 5, 4, none, coring { core0 with wait := .waite 5 none, waitRd := 9, events := 4 }, by decide +kernel⟩,
   ⟨0, up, (fun _ _ h => absurd (h.symm.trans (show (getCore up 0).wait = .running from by decide +kernel)) (fun e =>
     nomatch e))⟩,
   ⟨0, 5, some 5, ⟨.waitTimeout, 0, 0, 5, 0⟩, timed { core0 with wait := .waite 5 (some 5), waitRd := 9 } .waitTimeout 0,
     by decide +kernel⟩,
   ⟨0, 5, 4, some 5, ⟨.waitTimeout, 0, 0, 5, 0⟩, timed { core0 with wait := .waite 5 (some 5), waitRd := 9, events := 4 }
     .waitTimeout 0, by decide +kernel⟩⟩

set_option maxRecDepth 100000 in
theorem test_CoreWaitsStartAndEnd_part2 :
    (∃ (core : Nat) (s : State), dueIs s .waitTimeout core 0 = none) ∧
    (∃ (j : Nat) (s : State), 100 ≤ s.disp.allWaitingFor ∧ s.disp.detectorArmed = true ∧ firmwareRuns s = true ∧ allWaiting
      s = true ∧ j < coreCount s ∧ (getCore s j).wait ≠ .running ∧ ((∀ i < j, (getCore s i).wait = .running))) ∧
    (∃ (s : State), (s.disp.allWaitingFor < 100 ∨ s.disp.detectorArmed = false ∨ firmwareRuns s = false ∨ allWaiting s =
      false)) :=
  ⟨⟨0, up, by decide +kernel⟩,
   ⟨0, detecting, by decide +kernel⟩,
   ⟨up, by decide +kernel⟩⟩

set_option maxRecDepth 100000 in
theorem test_FirmwareLinksAndWatchdogs_part1 :
    (∃ (s u : State) (k : Cand) (e : Nat) (ch : Chain) (c : Core), dispatching s = true ∧ u = defer s ∧ issuable u = [k] ∧
      engineFor u k [] = some e ∧ getChain u k.c = some ch ∧ ch.link k.n = some (k.l, k.r) ∧ stillReady ch k = true ∧
      engineKind k.l.opcode = 3 ∧ e < 32 ∧ c = getCore s e ∧ bufferCovers u (drawBytes k.l) = true ∧ covers u k = true ∧
      refusedAccesses u ch k.l e = []) ∧
    (∃ (s : State), (dispatching s = false ∨ issuable (defer s) = [])) ∧
    (∃ (core rs1 c n : Nat) (ch : Chain) (l : LinkWords) (r : LinkRun) (s : State), executes s core = true ∧ ((∀ i <
      coreCount s, (getCore s i).lending = none)) ∧ ((getCore s core).reg rs1).toNat % 2 ^ 16 = 0 ∧ (getCore s
      core).engBusy.any id = false ∧ heldLink s core = some (c, n, ch, l, r) ∧ r.st = .issued ∧ r.stopping = false) ∧
    (∃ (core rs1 c n st : Nat) (ch : Chain) (l : LinkWords) (r : LinkRun) (s : State), executes s core = true ∧ ((∀ i <
      coreCount s, (getCore s i).lending = none)) ∧ st = ((getCore s core).reg rs1).toNat % 2 ^ 16 ∧ lendCodes.contains st =
      true ∧ isVerify s.images.firmwareOps l.opcode l.param = false ∧ (getCore s core).engBusy.any id = false ∧ heldLink s
      core = some (c, n, ch, l, r) ∧ r.st = .issued ∧ r.stopping = false) ∧
    (∃ (core rs1 : Nat) (s : State), executes s core = true ∧ ((∀ i < coreCount s, (getCore s i).lending = none)) ∧ (getCore
      s core).link.isSome = true ∧ (getCore s core).engBusy.any id = true) ∧
    (∃ (core rs1 : Nat) (s : State), executes s core = true ∧ ((∀ i < coreCount s, (getCore s i).lending = none)) ∧ (getCore
      s core).holds = false ∧ (getCore s core).cwp ≠ 11) ∧
    (∃ (core rd rs1 a c n e : Nat) (ch : Chain) (l : LinkWords) (r : LinkRun) (s : State), executes s core = true ∧ heldLink
      s core = some (c, n, ch, l, r) ∧ a = ((getCore s core).reg rs1).toNat ∧ a % 8 = 0 ∧ 0x20000 ≤ a ∧ a + 32 ≤ 0x40000 ∧
      requestRefused s ch n l (linkOfBytes (Memory.readN s.scratch (0x40000 * core + a) 32)) = some e) ∧
    (∃ (core rd rs1 a c n tag : Nat) (ch : Chain) (l q : LinkWords) (r : LinkRun) (s : State), executes s core = true ∧
      heldLink s core = some (c, n, ch, l, r) ∧ a = ((getCore s core).reg rs1).toNat ∧ a % 8 = 0 ∧ 0x20000 ≤ a ∧ a + 32 ≤
      0x40000 ∧ q = linkOfBytes (Memory.readN s.scratch (0x40000 * core + a) 32) ∧ requestRefused s ch n l q = none ∧
      requestQueue s < Config.requestQueueDepth ∧ tag < (getCore s core).engBusy.length ∧ (List.range 4).find? (fun t =>
      !((getCore s core).engBusy.getD t false)) = some tag ∧ ch.closed = false) :=
  ⟨⟨waitingLink, defer waitingLink, cand0, 0, (getChain waitingLink 2).getD (issuing 0), getCore waitingLink 0,
     by decide +kernel⟩,
   ⟨up, by decide +kernel⟩,
   ⟨0, 0, 2, 0, heldChain, heldWords, heldRun, holding core0, by decide +kernel⟩,
   ⟨0, 3, 2, 0, 0x0401, heldChain, heldWords, heldRun, holding (withG 3 0x0401 core0), by decide +kernel⟩,
   ⟨0, 0, holding { core0 with engBusy := [true, false, false, false] }, by decide +kernel⟩,
   ⟨0, 0, coring core0, by decide +kernel⟩,
   ⟨0, 3, 4, 0x20000, 2, 0, 0x0103, heldChain, heldWords, heldRun, requesting (natLE 4 0xB00) (holding (withG 4 0x20000
     core0)), by decide +kernel⟩,
   ⟨0, 3, 4, 0x20000, 2, 0, 1, heldChain, heldWords, linkOfBytes (zeros 32), heldRun, holding (withG 4 0x20000
     { core0 with engBusy := [true, false, false, false] }), by decide +kernel⟩⟩

set_option maxRecDepth 100000 in
theorem test_FirmwareLinksAndWatchdogs_part2 :
    (∃ (core rd rs1 a c n : Nat) (ch : Chain) (l : LinkWords) (r : LinkRun) (s : State), executes s core = true ∧ heldLink s
      core = some (c, n, ch, l, r) ∧ a = ((getCore s core).reg rs1).toNat ∧ a % 8 = 0 ∧ 0x20000 ≤ a ∧ a + 32 ≤ 0x40000 ∧
      requestRefused s ch n l (linkOfBytes (Memory.readN s.scratch (0x40000 * core + a) 32)) = none ∧ (((∀ tag < 4, (getCore s
      core).engBusy.getD tag false = true) ∨ Config.requestQueueDepth ≤ requestQueue s))) ∧
    (∃ (core at_ : Nat) (s : State), (getCore s core).abortAt = some at_ ∧ at_ + 500 ≤ s.disp.tick ∧ firmwareRuns s = true ∧
      core < coreCount s) ∧
    (∃ (core : Nat) (s : State), ((∀ at_, (getCore s core).abortAt = some at_ → s.disp.tick < at_ + 500))) ∧
    (∃ (core : Nat) (s : State), firmwareRuns s = true ∧ core < coreCount s ∧ isWithdrawn 9 core s = false ∧ (getCore s
      core).halted = false ∧ (getCore s core).wait = .running ∧ (getCore s core).waitedAt + s.cores.watchdog < s.disp.tick) ∧
    (∃ (core : Nat) (s : State), (coreCount s ≤ core ∨ isWithdrawn 9 core s = true ∨ (getCore s core).halted = true ∨
      (getCore s core).wait ≠ .running ∨ s.disp.tick ≤ (getCore s core).waitedAt + s.cores.watchdog)) :=
  ⟨⟨0, 3, 4, 0x20000, 2, 0, heldChain, heldWords, heldRun, holding (withG 4 0x20000
     { core0 with engBusy := [true, true, true, true] }), by decide +kernel⟩,
   ⟨0, 100, holding { core0 with abortAt := some 100 }, by decide +kernel⟩,
   ⟨0, up, by decide +kernel⟩,
   ⟨0, { coring core0 with disp := { (coring core0).disp with tick := 100000000 } }, by decide +kernel⟩,
   ⟨0, { coring core0 with cores := { (coring core0).cores with cores := [(0, { core0 with halted := true })] } },
     by decide +kernel⟩⟩

set_option maxRecDepth 100000 in
theorem test_ErrorsRaiseTheirFaults_part1 :
    (∃ (site : FaultSite) (unit cause : Nat) (args : Bytes) (s : State), powered s = true ∧ siteFatal site = some (unit,
      cause, args) ∧ freshFatal s (faultCode 3 unit cause) = true) ∧
    (∃ (site : FaultSite) (u : Nat × Nat) (s : State), powered s = true ∧ siteUnit s site = some u ∧ isWithdrawn u.1 u.2 s =
      false) ∧
    (∃ (k base : Nat) (s : State), powered s = true ∧ k < coreCount s ∧ isWithdrawn 9 k s = false ∧ base = 0x40000 * k ∧
      refusedAt s mramMaster 1 ((transfers (0x30000000 + base) 0x20000).map (·.1)) = []) ∧
    (∃ (site : FaultSite) (s : State), siteFatal site = none ∧
      (match site with | .keySlot n => decide (slotCount s ≤ n) | _ => (siteUnit s site).all fun u => isWithdrawn u.1 u.2 s) =
      true) ∧
    (∃ (n : Nat) (s : State), powered s = true ∧ n < slotCount s) ∧
    (∃ (unit cause : Nat) (s : State), powered s = true ∧ (unit, cause) ∈ [(1, 1), (3, 4), (0xA, 1), (0xC, 4), (0xD, 6)] ∧
      freshFatal s (faultCode 3 unit cause) = true) ∧
    (∃ (unit cause index : Nat) (s : State), powered s = true ∧ ((unit = 4 ∧ cause = 2 ∧ index < laneCount s ∨ unit = 5 ∧
      cause = 1 ∧ index < hashCount s ∨ unit = 0xB ∧ cause = 5 ∧ index = 0)) ∧ isWithdrawn unit index s = false) ∧
    (∃ (unit cause index : Nat) (s : State), powered s = true ∧ (((unit, cause) ∉ [(1, 1), (3, 4), (0xA, 1), (0xC, 4), (0xD,
      6), (4, 2), (5, 1), (0xB, 5)] ∨ unit = 4 ∧ laneCount s ≤ index ∨ unit = 5 ∧ hashCount s ≤ index ∨ unit = 0xB ∧
      isWithdrawn 0xB 0 s = true))) :=
  ⟨⟨.chainMemory 0x40, 2, 1, natLE 8 0x40, up, by decide +kernel⟩,
   ⟨.lattice 0, (7, 0), up, by decide +kernel⟩,
   ⟨1, 0x40000, up, by decide +kernel⟩,
   ⟨.lane 1000, up, by decide +kernel⟩,
   ⟨4, slotted .valid, by decide +kernel⟩,
   ⟨0xA, 1, up, by decide +kernel⟩,
   ⟨4, 2, 1, up, by decide +kernel⟩,
   ⟨4, 2, 1000, up, by decide +kernel⟩⟩

set_option maxRecDepth 100000 in
theorem test_ErrorsRaiseTheirFaults_part2 :
    (∃ (unit cause index : Nat) (s : State), powered s = true ∧ correctedCauses.contains (unit, cause) = true) ∧
    (∃ (unit cause index : Nat) (s : State), correctedCauses.contains (unit, cause) = false) ∧
    (∃ (site : FaultSite) (unit cause index : Nat) (s : State) (i : Instr), i ∈ ([.eccUncorrectable site, .parityError unit
      cause index, .singleBitError unit cause index] : List Instr) ∧ powered s = false) ∧
    (∃ (s : State), s.boot.phase = .inReset) ∧
    (∃ (s : State), s.boot.phase ≠ .inReset ∧ freshFatal s (faultCode 3 0x10 1) = true) :=
  ⟨⟨9, 7, 0, up, by decide +kernel⟩,
   ⟨9, 1, 0, up, by decide +kernel⟩,
   ⟨.lane 2, 4, 2, 1, State.reset, .eccUncorrectable (.lane 2), by decide +kernel⟩,
   ⟨State.reset, by decide +kernel⟩,
   ⟨up, by decide +kernel⟩⟩

set_option maxRecDepth 100000 in
theorem test_TestsAndClears_part1 :
    (∃ (unit index e : Nat) (r : FaultRecord) (s : State), s.faults.records.find? (fun r => decide (r.2.state = recClearing)
      && r.2.testing.contains (unit, index)) = some (e, r)) ∧
    (∃ (unit index e : Nat) (r : FaultRecord) (s : State), s.faults.records.find? (fun r => decide (r.2.state = recClearing)
      && r.2.testing.contains (unit, index)) = some (e, r)) ∧
    (∃ (unit index : Nat) (passed : Bool) (s : State), ((∀ x ∈ s.faults.records, x.2.state = recClearing →
      x.2.testing.contains (unit, index) = false))) ∧
    (∃ (engine r : Nat) (s : State), powered s = true ∧ s.modes.word.doze = false ∧ s.memTest.enable = true ∧ engine < 8 ∧
      (testEngine s engine).active = none ∧ (testEngine s engine).ended + s.memTest.pace ≤ s.disp.tick ∧ nextRegion s engine
      128 (testEngine s engine).next = some r ∧ regionReady s engine r = true) ∧
    (∃ (engine : Nat) (s : State), ((powered s = false ∨ s.modes.word.doze = true ∨ s.memTest.enable = false ∨ 8 ≤ engine ∨
      (testEngine s engine).active.isSome = true ∨ s.disp.tick < (testEngine s engine).ended + s.memTest.pace ∨ (nextRegion s
      engine 128 (testEngine s engine).next).all (fun r => !regionReady s engine r) = true))) ∧
    (∃ (engine : Nat) (passed : Bool) (s : State) (i : Instr), i ∈ ([.testRegionEnd engine passed, .testRegionOverdue
      engine] : List Instr) ∧ (testEngine s engine).active = none) ∧
    (∃ (engine r at_ : Nat) (s : State), (testEngine s engine).active = some (r, at_) ∧ (((testEngine s engine).overdue =
      true ∨ s.disp.tick < at_ + s.memTest.overdueTime))) ∧
    (∃ (engine r at_ : Nat) (s : State), (testEngine s engine).active = some (r, at_)) :=
  ⟨⟨4, 2, 3, clearingRec, recorded clearingRec withdrawnUp, by decide +kernel⟩,
   ⟨4, 2, 3, clearingRec, recorded clearingRec withdrawnUp, by decide +kernel⟩,
   ⟨4, 2, true, recorded latched withdrawnUp, by decide +kernel⟩,
   ⟨0, 0, testing_ TestEngine.reset, by decide +kernel⟩,
   ⟨0, testing_ { TestEngine.reset with active := some (9, 5) }, by decide +kernel⟩,
   ⟨0, true, testing_ TestEngine.reset, .testRegionEnd 0 true, by decide +kernel⟩,
   ⟨0, 9, 1000000000, testing_ { TestEngine.reset with active := some (9, 1000000000) }, by decide +kernel⟩,
   ⟨0, 9, 5, testing_ { TestEngine.reset with active := some (9, 5) }, by decide +kernel⟩⟩

set_option maxRecDepth 100000 in
theorem test_TestsAndClears_part2 :
    (∃ (engine r at_ region : Nat) (s : State), (testEngine s engine).active = some (r, at_) ∧ engine < 4 ∧ region = engine
      * (poolSpan s / 16) + r ∧ holdsReserve s region = false ∧ s.memTest.retired.length < 64 ∧ s.memTest.retired.contains
      region = false) ∧
    (∃ (r at_ : Nat) (s : State), (testEngine s 5).active = some (r, at_) ∧ freshFatal s (faultCode 3 0xA 0x12) = true) ∧
    (∃ (engine r at_ : Nat) (p : Bool × Nat) (s : State), (testEngine s engine).active = some (r, at_) ∧ p = pairOfRegion s
      r ∧ ((engine = 6 ∨ 7 ≤ engine))) ∧
    (∃ (engine r at_ : Nat) (s : State), (testEngine s engine).active = some (r, at_) ∧ (testEngine s engine).overdue =
      false ∧ at_ + s.memTest.overdueTime ≤ s.disp.tick) ∧
    (∃ (src : Src) (s : State) (p : Path) (e : Nat) (r : FaultRecord), reaches src [1] s p 0x6100 5 [1] = true ∧ e =
      (pathSel s p).faultSel ∧ SMap.find s.faults.records e = some r ∧ r.isFatal = false ∧ r.state = recLatched ∧ (r.units.all
      fun u => !isWithdrawn u.1 u.2 s) = true) ∧
    (∃ (src : Src) (s : State) (p : Path) (e : Nat) (r : FaultRecord), reaches src [1] s p 0x6100 5 [1] = true ∧ e =
      (pathSel s p).faultSel ∧ SMap.find s.faults.records e = some r ∧ r.isFatal = false ∧ r.state = recLatched ∧ (r.units.any
      fun u => isWithdrawn u.1 u.2 s) = true) ∧
    (∃ (src : Src) (s : State) (p : Path) (result : Nat), reaches src [1] s p 0x6100 5 [1] = true ∧
      (match SMap.find s.faults.records (pathSel s p).faultSel with | none => 1 | some r => if r.isFatal then 3 else if r.state ≠ recLatched then 2 else 0)
      = result ∧ result ≠ 0) ∧
    (∃ (s : State), (((∀ x ∈ s.faults.records, x.2.isFatal = false) ∨ s.faults.escalating = false ∧ s.faults.delay = 0 ∨
      s.faults.escalating = false ∧ escalationWithheld s = true))) :=
  ⟨⟨0, 9, 5, 9, testing_ { TestEngine.reset with active := some (9, 5) }, by decide +kernel⟩,
   ⟨9, 5, testing_ { TestEngine.reset with active := some (9, 5) }, by decide +kernel⟩,
   ⟨6, 9, 5, pairOfRegion (testing_ { TestEngine.reset with active := some (9, 5) }) 9, testing_
     { TestEngine.reset with active := some (9, 5) }, by decide +kernel⟩,
   ⟨0, 9, 5, testing_ { TestEngine.reset with active := some (9, 5) }, by decide +kernel⟩,
   ⟨.write pf0, recorded latched up, pf0, 3, latched, by decide +kernel⟩,
   ⟨.write pf0, recorded latched withdrawnUp, pf0, 3, latched, by decide +kernel⟩,
   ⟨.write pf0, recorded fatalRec up, pf0, 3, by decide +kernel⟩,
   ⟨recorded latched up, by decide +kernel⟩⟩

set_option maxRecDepth 100000 in
theorem test_TestsAndClears_part3 :
    (∃ (e : Nat) (r : FaultRecord) (s : State), firstOpened (s.faults.records.filter fun r => r.2.isFatal) = some (e, r) ∧
      s.faults.escalating = false ∧ s.faults.delay ≠ 0 ∧ r.opened + s.faults.delay * 1000 ≤ s.disp.tick ∧ escalationWithheld s
      = false ∧ evlogFull s = false) ∧
    (∃ (e : Nat) (r : FaultRecord) (s : State), firstOpened (s.faults.records.filter fun r => r.2.isFatal) = some (e, r) ∧
      s.faults.escalating = true ∧ s.faults.escalateBy ≤ s.disp.tick) ∧
    (∃ (e : Nat) (r : FaultRecord) (s : State), firstOpened (s.faults.records.filter fun r => r.2.isFatal) = some (e, r) ∧
      s.faults.escalating = true ∧ s.disp.tick < s.faults.escalateBy ∧ eventDurable s s.faults.escalateEvent = false) :=
  ⟨⟨3, fatalRec, escalating false, by decide +kernel⟩,
   ⟨3, fatalRec, escalating true, by decide +kernel⟩,
   ⟨3, fatalRec, waitingLog, by decide +kernel⟩⟩

set_option maxRecDepth 100000 in
theorem test_PagesWrittenRetriedAndErased_part1 :
    (∃ (w : PageWrite) (s : State), s.mram.current = some w) ∧
    (∃ (readBack : Bool) (s : State), s.mram.current = none) ∧
    (∃ (w : PageWrite) (s : State), s.mram.current = some w ∧ w.store = .keys ∧ s.custody.closing = false) ∧
    (∃ (w : PageWrite) (s : State), s.mram.current = some w ∧ w.store = .locket ∧ s.boot.phase ≠ .inReset ∧
      s.custody.closing = false) ∧
    (∃ (w : PageWrite) (s : State), s.mram.current = some w ∧ ((w.store = .imageA ∨ w.store = .imageB ∨ w.store = .log)) ∧
      s.custody.closing = false) ∧
    (∃ (w : PageWrite) (s : State), s.mram.current = some w ∧ w.retried = false) ∧
    (∃ (w : PageWrite) (s : State), s.mram.current = some w ∧ w.retried = true ∧ isMapPage w = false ∧
      s.mram.replaced.length < spareCount) ∧
    (∃ (w : PageWrite) (s : State), s.mram.current = some w ∧ w.retried = true ∧ w.store = .locket ∧ spareCount ≤
      s.mram.replaced.length ∧ freshFatal s (faultCode 3 0xD 4) = true) :=
  ⟨⟨pw .config 132 false, writing (pw .config 132 false) up, by decide +kernel⟩,
   ⟨true, up, by decide +kernel⟩,
   ⟨pw .keys 5 false, writing (pw .keys 5 false) up, by decide +kernel⟩,
   ⟨pw .locket 5 false, writing (pw .locket 5 false) up, by decide +kernel⟩,
   ⟨pw .imageB 5 false, writing (pw .imageB 5 false) up, by decide +kernel⟩,
   ⟨pw .log 5 false, writing (pw .log 5 false) up, by decide +kernel⟩,
   ⟨pw .log 5 true, writing (pw .log 5 true) up, by decide +kernel⟩,
   ⟨bootPage, writing bootPage (spent up), by decide +kernel⟩⟩

set_option maxRecDepth 100000 in
theorem test_PagesWrittenRetriedAndErased_part2 :
    (∃ (w : PageWrite) (s : State), s.mram.current = some w ∧ w.retried = true ∧ w.store ≠ .locket ∧ ((isMapPage w = true ∨
      spareCount ≤ s.mram.replaced.length)) ∧ freshFatal s (faultCode 3 0xD 4) = true) ∧
    (∃ (s : State), s.life.transition = none) ∧
    (∃ (tr : Transition) (s : State), s.life.transition = some tr) ∧
    (∃ (s : State), ((s.mram.erases = [] ∨ s.mram.current.isSome = true ∨ s.mram.pwrfail = true ∨ s.boot.phase = .inReset ∨
      s.mram.erases.head?.map (fun e => e.purpose) = some .locketClear ∧ reserveCovers s 256 = false))) ∧
    (∃ (e : Erase) (rest : List Erase) (s : State), s.mram.erases = e :: rest ∧ s.mram.current = none ∧ s.mram.pwrfail =
      false ∧ s.boot.phase ≠ .inReset ∧ ((e.purpose = .locketClear → reserveCovers s 256 = true))) ∧
    (∃ (e : Erase) (rest : List Erase) (s : State), s.mram.erases = e :: rest ∧ s.mram.current = none ∧ s.mram.pwrfail =
      false ∧ s.boot.phase ≠ .inReset ∧ ((e.purpose = .zeroise ∨ e.purpose = .peerStore ∨ e.purpose = .seed))) ∧
    (∃ (e : Erase) (rest : List Erase) (s : State), s.mram.erases = e :: rest ∧ s.mram.current = none ∧ s.mram.pwrfail =
      false ∧ s.boot.phase ≠ .inReset ∧ e.purpose = .logClear) ∧
    (∃ (e : Erase) (rest : List Erase) (s : State), s.mram.erases = e :: rest ∧ s.mram.current = none ∧ s.mram.pwrfail =
      false ∧ s.boot.phase ≠ .inReset ∧ e.purpose = .locketClear ∧ reserveCovers s 256 = true) :=
  ⟨⟨pw .config 5 true, writing (pw .config 5 true) up, by decide +kernel⟩,
   ⟨up, by decide +kernel⟩,
   ⟨aMove, transitioning up, by decide +kernel⟩,
   ⟨up, by decide +kernel⟩,
   ⟨⟨.locketClear, .locket, [3, 2], 0⟩, [], erasing_ .locketClear .locket (rooted up), by decide +kernel⟩,
   ⟨⟨.zeroise, .keys, [3, 2], 0⟩, [], erasing_ .zeroise .keys up, by decide +kernel⟩,
   ⟨⟨.logClear, .log, [3, 2], 0⟩, [], erasing_ .logClear .log up, by decide +kernel⟩,
   ⟨⟨.locketClear, .locket, [3, 2], 0⟩, [], erasing_ .locketClear .locket (rooted up), by decide +kernel⟩⟩

set_option maxRecDepth 100000 in
theorem test_PagesWrittenRetriedAndErased_part3 :
    (∃ (e : Erase) (rest : List Erase) (s : State), s.mram.erases = e :: rest ∧ s.mram.current = none ∧ s.mram.pwrfail =
      false ∧ s.boot.phase ≠ .inReset ∧ e.purpose = .latch) ∧
    (∃ (e : Erase) (rest : List Erase) (tr : Transition) (s : State), s.mram.erases = e :: rest ∧ s.mram.current = none ∧
      s.mram.pwrfail = false ∧ s.boot.phase ≠ .inReset ∧ e.purpose = .transition ∧ s.life.transition = some tr ∧ tr.bits ≠ []) :=
  ⟨⟨⟨.latch, .keys, [3, 2], 0⟩, [], erasing_ .latch .keys up, by decide +kernel⟩,
   ⟨⟨.transition, .keys, [3, 2], 0⟩, [], aMove, erasing_ .transition .keys (transitioning up), by decide +kernel⟩⟩

set_option maxRecDepth 100000 in
theorem test_LogsAppendedExportedAndCleared_part1 :
    (∃ (e : LogEvent) (s : State), canAppend s = true ∧ s.log.staged = [e] ∧ s.log.warn = false ∧ repeatsLast s e = false ∧
      evlogFull s = false ∧ s.log.records + 1 ≠ logWarning ∧ s.custody.closing = false) ∧
    (∃ (e : LogEvent) (s : State), canAppend s = true ∧ s.log.staged = [e] ∧ s.log.warn = false ∧ repeatsLast s e = true ∧
      evlogFull s = false ∧ s.custody.closing = false) ∧
    (∃ (s : State), canAppend s = false) ∧
    (∃ (s : State), canAppend s = true ∧ evlogFull s = true ∧ modesTrue s = true ∧ s.custody.closing = false) ∧
    (∃ (src : Src) (s : State) (p : Path), reaches src [1] s p 0x6200 6 [1] = true ∧ canSign s = true ∧ logRoom s = true) ∧
    (∃ (src : Src) (s : State) (p : Path), reaches src [2] s p 0x6200 6 [2] = true ∧ canSign s = true ∧ s.log.staged.length
      < 255 ∧ evlogFull s = false) ∧
    (∃ (due : Nat) (s : State), s.log.hold = some due ∧ due ≤ s.disp.tick) ∧
    (∃ (s : State), s.log.hold.all (fun due => decide (s.disp.tick < due)) = true) :=
  ⟨⟨anEvent, stagedUp, by decide +kernel⟩,
   ⟨anEvent, repeating, by decide +kernel⟩,
   ⟨{ up with log := { up.log with tailFound := false } }, by decide +kernel⟩,
   ⟨heldFull, by decide +kernel⟩,
   ⟨.write pf0, rooted up, pf0, by decide +kernel⟩,
   ⟨.write .custody, ceremonial 6 (rooted up), .custody, by decide +kernel⟩,
   ⟨5, { up with log := { up.log with hold := some 5 }, disp := { up.disp with tick := 6 } }, by decide +kernel⟩,
   ⟨up, by decide +kernel⟩⟩

set_option maxRecDepth 100000 in
theorem test_LogsAppendedExportedAndCleared_part2 :
    (∃ (src : Src) (s : State) (p : Path), reaches src [1] s p 0x6200 6 [1] = true ∧ canSign s = false) ∧
    (∃ (src : Src) (s : State) (p : Path), reaches src [2] s p 0x6200 6 [2] = true ∧ canSign s = false) ∧
    (∃ (src : Src) (s : State) (p : Path), reaches src [1] s p 0x6300 5 [1] = true ∧ canSign s = false) ∧
    (∃ (src : Src) (s : State) (p : Path), reaches src [1] s p 0x6200 9 [1] = true ∧ s.log.hold.isSome = true ∧ s.log.covers
      = true ∧ evlogFull s = false) ∧
    (∃ (src : Src) (s : State) (p : Path), reaches src [1] s p 0x6200 9 [1] = true ∧ ((s.log.hold = none ∨ s.log.covers =
      false))) ∧
    (∃ (s : State), tailsSought s = true ∧ s.locket.tailFound = true ∧ s.log.tailFound = false) ∧
    (∃ (s : State), (tailsSought s = false ∨ s.locket.tailFound = false ∨ s.log.tailFound = true)) ∧
    (∃ (s : State), (tailsSought s = false ∨ s.locket.tailFound = true)) :=
  ⟨⟨.write pf0, unsignedUp, pf0, by decide +kernel⟩,
   ⟨.write .custody, ceremonial 6 unsignedUp, .custody, by decide +kernel⟩,
   ⟨.write pf0, unsignedUp, pf0, by decide +kernel⟩,
   ⟨.write .custody, covered (ceremonial 6 up), .custody, by decide +kernel⟩,
   ⟨.write .custody, ceremonial 6 up, .custody, by decide +kernel⟩,
   ⟨{ loading with locket := { up.locket with tailFound := true } }, by decide +kernel⟩,
   ⟨up, by decide +kernel⟩,
   ⟨up, by decide +kernel⟩⟩

set_option maxRecDepth 100000 in
theorem test_LogsAppendedExportedAndCleared_part3 :
    (∃ (s : State), tailsSought s = true ∧ s.locket.tailFound = false ∧ s.boot.phase ≠ .loading) ∧
    (∃ (s : State), tailsSought s = true ∧ s.locket.tailFound = false ∧ s.boot.phase = .loading ∧ canSign s = true ∧
      locketTail (scanStore .locket s) < locketCapacity) ∧
    (∃ (s : State), tailsSought s = true ∧ s.locket.tailFound = false ∧ s.boot.phase = .loading ∧ canSign s = true ∧
      locketCapacity ≤ locketTail (scanStore .locket s)) ∧
    (∃ (src : Src) (s : State) (p : Path), reaches src [1] s p 0x6300 5 [1] = true ∧ canSign s = true) ∧
    (∃ (src : Src) (s : State) (p : Path), reaches src [1] s p 0x6300 8 [1] = true ∧ s.locket.covers = true) ∧
    (∃ (src : Src) (s : State) (p : Path), reaches src [1] s p 0x6300 8 [1] = true ∧ s.locket.covers = false) :=
  ⟨⟨{ up with boot := { up.boot with phase := .recovery } }, by decide +kernel⟩,
   ⟨rooted loading, by decide +kernel⟩,
   ⟨fullLocket, by decide +kernel⟩,
   ⟨.write pf0, rooted up, pf0, by decide +kernel⟩,
   ⟨.write .custody, covered (ceremonial 7 up), .custody, by decide +kernel⟩,
   ⟨.write .custody, ceremonial 7 up, .custody, by decide +kernel⟩⟩

set_option maxRecDepth 100000 in
theorem test_ImagesStagedVerifiedAndActivated_part1 :
    (∃ (src : Src) (s : State) (p : Path), reaches src [2] s p 0x9000 7 [2] = true ∧ otherPath s p = false ∧ beginResult s =
      0) ∧
    (∃ (src : Src) (s : State) (p : Path), reaches src [1] s p 0x9000 7 [1] = true ∧ otherPath s p = false ∧ beginResult s =
      0) ∧
    (∃ (src : Src) (s : State) (p : Path), reaches src [2] s p 0x9000 7 [2] = true ∧ otherPath s p = false ∧ beginResult s ≠
      0) ∧
    (∃ (ident off : Nat) (bytes : Bytes) (r : HostRead) (s : State), findRead s ident = some r ∧ r.kind = .image off ∧
      inactiveState s = slotStaging ∧ bytes.length = r.len ∧ off + r.len < s.images.imageLen) ∧
    (∃ (ident off : Nat) (r : HostRead) (s : State), findRead s ident = some r ∧ r.kind = .image off ∧ inactiveState s =
      slotStaging) ∧
    (∃ (src : Src) (value : Bytes) (s : State) (p : Path), reaches src value s p 0x9000 8 value = true ∧ otherPath s p =
      false ∧ inactiveState s = slotStaging ∧ s.images.dma = false ∧ leNat (value.take 4) + (value.drop 4).length ≤
      s.images.imageLen) ∧
    (∃ (src : Src) (value : Bytes) (s : State) (p : Path), reaches src value s p 0x9000 8 value = true ∧ ((otherPath s p =
      true ∨ inactiveState s ≠ slotStaging ∨ s.images.dma = true ∨ s.images.imageLen < leNat (value.take 4) + (value.drop
      4).length))) ∧
    (∃ (src : Src) (s : State) (p : Path), reaches src [3] s p 0x9000 7 [3] = true ∧ otherPath s p = false ∧ lockedNow s =
      false ∧ ((inactiveState s = slotStaging ∧ stageWritten s = true ∨ inactiveState s = slotWritten))) :=
  ⟨⟨.write pf0, stageReady, pf0, by decide +kernel⟩,
   ⟨.write pf0, stageReady, pf0, by decide +kernel⟩,
   ⟨.write pf0, stagingIn 1 false, pf0, by decide +kernel⟩,
   ⟨7, 0, zeros 4096, ⟨7, .image 0, 0, 0x10000, 4096, true⟩, stagingIn 1 true, by decide +kernel⟩,
   ⟨7, 0, ⟨7, .image 0, 0, 0x10000, 4096, true⟩, stagingIn 1 true, by decide +kernel⟩,
   ⟨.write pf0, natLE 4 16 ++ [1, 2, 3], stagingIn 1 false, pf0, by decide +kernel⟩,
   ⟨.write pf0, natLE 4 0xFFFFFF ++ [1, 2, 3], stagingIn 1 false, pf0, by decide +kernel⟩,
   ⟨.write pf0, stagingIn 2 false, pf0, by decide +kernel⟩⟩

set_option maxRecDepth 100000 in
theorem test_ImagesStagedVerifiedAndActivated_part2 :
    (∃ (code : Nat) (s : State), inactiveState s = slotVerifying ∧ signaturesOpen s true = false ∧ slotCheckCode s
      (inactiveSlot s) = code ∧ 0 < code ∧ code < 5) ∧
    (∃ (src : Src) (s : State) (p : Path), reaches src [4] s p 0x9000 7 [4] = true ∧ otherPath s p = false ∧ stagingRuns s =
      true) ∧
    (∃ (src : Src) (s : State) (p : Path), reaches src [4] s p 0x9000 7 [4] = true ∧ otherPath s p = true) ∧
    (∃ (due : Nat) (s : State), s.images.stageDue = some due ∧ stagingRuns s = true ∧ due ≤ s.disp.tick) ∧
    (∃ (src : Src) (s : State) (p : Path), reaches src [1] s p 0x9000 0xF [1] = true ∧ activationResult s = 0) ∧
    (∃ (src : Src) (s : State) (p : Path) (r : Nat), reaches src [1] s p 0x9000 0xF [1] = true ∧ activationResult s = r ∧ r
      ≠ 0) ∧
    (∃ (src : Src) (s : State) (p : Path), reaches src [1] s p 0x9000 7 [1] = true ∧ otherPath s p = false ∧ beginResult s ≠
      0) ∧
    (∃ (src : Src) (s : State) (p : Path), reaches src [1] s p 0x9000 7 [1] = true ∧ otherPath s p = true) :=
  ⟨⟨1, stagingIn 3 false, by decide +kernel⟩,
   ⟨.write pf0, stagingIn 1 false, pf0, by decide +kernel⟩,
   ⟨.write .custody, ceremonial 8 (stagingIn 1 false), .custody, by decide +kernel⟩,
   ⟨5, stagingIn 1 false, by decide +kernel⟩,
   ⟨.write .custody, ceremonial 8 (stagingIn 4 false), .custody, by decide +kernel⟩,
   ⟨.write .custody, ceremonial 8 (stagingIn 2 false), .custody, 1, by decide +kernel⟩,
   ⟨.write pf0, { stageReady with images := { stageReady.images with stageLen := 5 } }, pf0, by decide +kernel⟩,
   ⟨.write pf0, { stagingIn 1 false with images := { (stagingIn 1 false).images with byPath := pathKey .custody } }, pf0,
     by decide +kernel⟩⟩

set_option maxRecDepth 100000 in
theorem test_ImagesStagedVerifiedAndActivated_part3 :
    (∃ (src : Src) (s : State) (p : Path), reaches src [2] s p 0x9000 7 [2] = true ∧ otherPath s p = true) ∧
    (∃ (src : Src) (s : State) (p : Path), reaches src [3] s p 0x9000 7 [3] = true ∧ otherPath s p = true) ∧
    (∃ (src : Src) (s : State) (p : Path) (r : Nat), reaches src [3] s p 0x9000 7 [3] = true ∧ otherPath s p = false ∧
      ((lockedNow s = true ∧ r = 0x11 ∨ lockedNow s = false ∧ r = 0x10 ∧ inactiveState s ≠ slotWritten ∧ (inactiveState s ≠
      slotStaging ∨ stageWritten s = false)))) ∧
    (∃ (src : Src) (s : State) (p : Path), reaches src [4] s p 0x9000 7 [4] = true ∧ stagingRuns s = false) ∧
    (∃ (ident : Nat) (answer : ReadAnswer) (s : State), (findRead s ident).all (fun r =>
      match r.kind with | .image _ => false | _ => true)) ∧
    (∃ (ident : Nat) (off : Nat) (r : HostRead) (answer : ReadAnswer) (s : State), findRead s ident = some r ∧ r.kind =
      .image off ∧ inactiveState s ≠ slotStaging) ∧
    (∃ (s : State), (inactiveState s ≠ slotVerifying ∨ signaturesOpen s true = true)) ∧
    (∃ (s : State), (stagingRuns s = false ∨ s.images.stageDue.all (fun due => decide (s.disp.tick < due)) = true)) :=
  ⟨⟨.write .custody, ceremonial 8 (stagingIn 1 false), .custody, by decide +kernel⟩,
   ⟨.write .custody, ceremonial 8 (stagingIn 1 false), .custody, by decide +kernel⟩,
   ⟨.write pf0, stageReady, pf0, 0x10, by decide +kernel⟩,
   ⟨.write pf0, stageReady, pf0, by decide +kernel⟩,
   ⟨5, .unsupported, stagingIn 1 false, by decide +kernel⟩,
   ⟨7, 0, ⟨7, .image 0, 0, 0x10000, 4096, true⟩, .unsupported, stagingIn 0 true, by decide +kernel⟩,
   ⟨stageReady, by decide +kernel⟩,
   ⟨stageReady, by decide +kernel⟩⟩

set_option maxRecDepth 100000 in
theorem test_ImagesStagedVerifiedAndActivated_part4 : ∃ (code : Nat) (s : State), inactiveState s = slotVerifying ∧
    signaturesOpen s true = false ∧ slotCheckCode s (inactiveSlot s) = code ∧ (code = 0 ∨ 5 ≤ code) :=
  ⟨5, imaged 16384 (stagingIn 3 false), by decide +kernel⟩

set_option maxRecDepth 100000 in
theorem test_BootVersionsCertificatesAndReload_part1 :
    (∃ (s : State), s.boot.phase = .verifying ∧ signaturesOpen s false = false ∧ bootCandidate s = none ∧ freshFatal s
      (faultCode 3 0xD 5) = true) ∧
    (∃ (s : State), recordIsDurable s = true ∧ s.boot.advanced = false ∧ s.mram.pwrfail = false ∧ s.life.advance = none ∧
      fusedVersion s + 1 = s.boot.imageSecurity ∧ s.boot.imageSecurity ≤ 64 ∧ logRoom s = true) ∧
    (∃ (s : State), recordIsDurable s = true ∧ s.boot.advanced = false ∧ s.mram.pwrfail = false ∧ s.life.advance = none ∧
      fusedVersion s + 1 < s.boot.imageSecurity ∧ s.boot.imageSecurity ≤ 64) ∧
    (∃ (s : State), s.tamper.reloading = true ∧ startedUp s = true ∧ reloadReady s = true ∧ seedMissing s = false) ∧
    (∃ (src : Src) (value : Bytes) (s : State) (p : Path), reaches src value s p 0x1000 0x17 value = true) ∧
    (∃ (src : Src) (value : Bytes) (s : State) (p : Path), reaches src value s p 0x1000 0x14 value = true ∧ directoryBlank s
      = true) ∧
    (∃ (src : Src) (value : Bytes) (s : State) (p : Path), reaches src value s p 0x1000 0x14 value = true ∧ directoryBlank s
      = false) ∧
    (∃ (src : Src) (value : Bytes) (s : State) (p : Path) (r : Nat), reaches src value s p 0x1000 0x15 value = true ∧
      certCommitResult s value = r ∧ r ≠ 0) :=
  ⟨⟨{ verifyingBoot with boot := { verifyingBoot.boot with rejected := [(0, 1), (1, 1)] } }, by decide +kernel⟩,
   ⟨advancing 1, by decide +kernel⟩,
   ⟨advancing 3, by decide +kernel⟩,
   ⟨reloading_, by decide +kernel⟩,
   ⟨.write pf0, zeros 64, blanked [], pf0, by decide +kernel⟩,
   ⟨.write pf0, natLE 4 0 ++ [1, 2, 3], blanked [], pf0, by decide +kernel⟩,
   ⟨.write pf0, natLE 4 0 ++ [1, 2, 3], blanked [1], pf0, by decide +kernel⟩,
   ⟨.write pf0, zeros 17, blanked [1], pf0, 1, by decide +kernel⟩⟩

set_option maxRecDepth 100000 in
theorem test_BootVersionsCertificatesAndReload_part2 :
    (∃ (s : State), (s.boot.phase ≠ .verifying ∨ signaturesOpen s false = true)) ∧
    (∃ (readBack : Bool) (s : State), ((recordIsDurable s = false ∨ s.boot.advanced = true ∨ s.mram.pwrfail = true ∨ 64 <
      s.boot.imageSecurity ∨ s.life.advance = none ∧ s.boot.imageSecurity ≤ fusedVersion s))) ∧
    (∃ (n first : Nat) (s : State), recordIsDurable s = true ∧ s.boot.advanced = false ∧ s.mram.pwrfail = false ∧
      s.life.advance.getD (fusedVersion s, fusedVersion s) = (n, first) ∧ n + 1 < s.boot.imageSecurity ∧ s.boot.imageSecurity
      ≤ 64) ∧
    (∃ (s : State), (s.tamper.reloading = false ∨ startedUp s = false ∨ reloadReady s = false)) :=
  ⟨⟨up, by decide +kernel⟩,
   ⟨true, up, by decide +kernel⟩,
   ⟨0, 0, advancing 3, by decide +kernel⟩,
   ⟨up, by decide +kernel⟩⟩

set_option maxRecDepth 100000 in
theorem test_BootVersionsCertificatesAndReload_part3 : ∃ (x : Nat) (s : State), s.boot.phase = .verifying ∧
    signaturesOpen s false = false ∧ bootCandidate s = some x ∧ signatureDecisions false (slotCheckCode s x) ≠ [] :=
  ⟨0, imaged 0 verifyingBoot, by decide +kernel⟩

set_option maxRecDepth 100000 in
theorem test_BootVersionsCertificatesAndReload_part4 : ∃ (src : Src) (value : Bytes) (s : State) (p : Path),
    reaches src value s p 0x1000 0x15 value = true ∧ certCommitResult s value = 0 := by
  have q : (attestPoint (blanked [])).length = 1 ∨ (attestPoint (blanked [])).length = 97 := by
    unfold attestPoint
    cases ecMul p384 (attestScalar (blanked [])) (basePoint p384) with
    | none => exact .inl rfl
    | some xy => exact .inr (by rw [encodePoint]; simp [natBE, natLE_length]; decide)
  obtain ⟨n, h3, h4, h5, h6⟩ := certified_fits _ q
  exact ⟨.write pf0, [1] ++ natLE 2 n ++ zeros 14, certified 0, pf0, commit_reaches n h6,
    commit_fits (by decide +kernel) rfl h3 h4 h5⟩

set_option maxRecDepth 100000 in
theorem test_TamperSourcesArmedAnsweredAndCleared_part1 :
    (∃ (source : Nat) (s : State), monitorArmed s source = true ∧ s.boot.phase ≠ .inReset) ∧
    (∃ (source : Nat) (s : State), source < 10 ∧ monitorArmed s source = false) ∧
    (∃ (source : Nat) (s : State), source < 10) ∧
    (∃ (s : State), s.boot.phase ≠ .inReset ∧ tamperArmed s = true) ∧
    (∃ (s : State), (s.boot.phase = .inReset ∨ tamperArmed s = false)) ∧
    (∃ (detector at_ : Nat) (s : State), s.tamper.lightAlone = some (detector, at_, false) ∧ at_ + 32768 <
      s.sec.deviceTime.toNat) ∧
    (∃ (detector : Nat) (s : State), (s.tamper.lightAlone.all (fun x => decide (x.1 ≠ detector ∨ s.sec.deviceTime.toNat ≤
      x.2.1 + 32768) || x.2.2) = true)) ∧
    (∃ (agrees : Bool) (s : State), s.tamper.decisions = []) :=
  ⟨⟨2, slotted .valid, by decide +kernel⟩,
   ⟨3, up, by decide +kernel⟩,
   ⟨2, live 6, by decide +kernel⟩,
   ⟨slotted .valid, by decide +kernel⟩,
   ⟨State.reset, by decide +kernel⟩,
   ⟨1, 5, alone false, by decide +kernel⟩,
   ⟨1, alone true, by decide +kernel⟩,
   ⟨true, up, by decide +kernel⟩⟩

set_option maxRecDepth 100000 in
theorem test_TamperSourcesArmedAnsweredAndCleared_part2 :
    (∃ (rest : List (Decision × Bool)) (s : State), s.tamper.decisions = (.debugEnable, true) :: rest ∧ s.boot.phase ≠
      .inReset ∧ tamperArmed s = true) ∧
    (∃ (src : Nat) (first : Bool) (rest : List (Decision × Bool)) (s : State), s.tamper.decisions = (.tamper src, first) ::
      rest) ∧
    (∃ (src : Nat) (first : Bool) (rest : List (Decision × Bool)) (s : State), s.tamper.decisions = (.tamper src, first) ::
      rest ∧ s.boot.phase ≠ .inReset ∧ tamperArmed s = true) ∧
    (∃ (src : Src) (value : Bytes) (s : State) (p : Path), reaches src value s p 0x6000 5 value = true ∧ s.tamper.arming =
      none ∧ leNat value ||| s.sec.extArmed ≠ s.sec.extArmed) ∧
    (∃ (src : Src) (value : Bytes) (s : State) (p : Path), reaches src value s p 0x6000 5 value = true ∧ s.tamper.arming =
      none ∧ leNat value ||| s.sec.extArmed = s.sec.extArmed ∧ leNat value ≠ s.sec.extArmed) ∧
    (∃ (src : Src) (value : Bytes) (ext : Nat) (loop : Bool) (s : State) (p : Path), reaches src value s p 0x6000 5 value =
      true ∧ s.tamper.arming = some (ext, loop) ∧ leNat value ||| s.sec.extArmed ≠ s.sec.extArmed) ∧
    (∃ (src : Src) (s : State) (p : Path), reaches src [1] s p 0x6000 6 [1] = true ∧ s.tamper.arming = none ∧
      s.sec.sealArmed = false) ∧
    (∃ (src : Src) (s : State) (p : Path), reaches src [0] s p 0x6000 6 [0] = true ∧ s.tamper.arming = none ∧
      s.sec.sealArmed = true) :=
  ⟨⟨[], decided .debugEnable up, by decide +kernel⟩,
   ⟨2, true, [], decided (.tamper 2) up, by decide +kernel⟩,
   ⟨2, true, [], decided (.tamper 2) up, by decide +kernel⟩,
   ⟨.write .custody, [3], ceremonial 4 armedUp, .custody, by decide +kernel⟩,
   ⟨.write .custody, [0], ceremonial 4 armedUp, .custody, by decide +kernel⟩,
   ⟨.write .custody, [3], 1, true, rearming, .custody, by decide +kernel⟩,
   ⟨.write .custody, ceremonial 4 up, .custody, by decide +kernel⟩,
   ⟨.write .custody, ceremonial 4 { up with sec := { up.sec with sealArmed := true } }, .custody, by decide +kernel⟩⟩

set_option maxRecDepth 100000 in
theorem test_TamperSourcesArmedAnsweredAndCleared_part3 :
    (∃ (ext : Nat) (loop : Bool) (s : State), s.tamper.arming = some (ext, loop)) ∧
    (∃ (correct : Bool) (s : State), s.tamper.arming = none) ∧
    (∃ (ext : Nat) (loop : Bool) (s : State), s.tamper.arming = some (ext, loop)) ∧
    (∃ (src : Src) (value : Bytes) (s : State) (p : Path), reaches src value s p 0x6000 3 value = true ∧ unlockResultOf s
      (leNat value) = 0) ∧
    (∃ (src : Src) (value : Bytes) (s : State) (p : Path) (r : Nat), reaches src value s p 0x6000 3 value = true ∧
      unlockResultOf s (leNat value) = r ∧ r ≠ 0) :=
  ⟨⟨3, true, arming_, by decide +kernel⟩,
   ⟨true, up, by decide +kernel⟩,
   ⟨3, true, arming_, by decide +kernel⟩,
   ⟨.write .custody, natLE 4 4, flagged, .custody, by decide +kernel⟩,
   ⟨.write .custody, natLE 4 5, flagged, .custody, 4, by decide +kernel⟩⟩

set_option maxRecDepth 100000 in
theorem test_LifeCycleMovesBitByBit_part1 :
    (∃ (src : Src) (value : Bytes) (s : State) (p : Path) (target : LifeCycle), reaches src value s p 0x1100 4 value = true
      ∧ targetOf (leNat value) = some target ∧ transitionResultOf s false target = 0 ∧ zeroisesFirst s target = true) ∧
    (∃ (src : Src) (value : Bytes) (s : State) (p : Path) (target : LifeCycle) (r : Nat), reaches src value s p 0x1100 4
      value = true ∧ targetOf (leNat value) = some target ∧ transitionResultOf s false target = r ∧ r ≠ 0) ∧
    (∃ (s : State), portOpen s = true ∧ s.life.state = .blank ∧ transitionResultOf s true .test = 0) ∧
    (∃ (src : Src) (value : Bytes) (s : State) (p : Path) (target : LifeCycle), reaches src value s p 0x1100 4 value = true
      ∧ targetOf (leNat value) = some target ∧ transitionResultOf s false target = 0 ∧ zeroisesFirst s target = false ∧
      bitsToBlow s target ≠ []) ∧
    (∃ (x : Transition) (b : Nat) (rest : List Nat) (s : State), s.life.transition = some x ∧ x.running = true ∧ x.bits = b
      :: rest) ∧
    (∃ (x : Transition) (b : Nat) (rest : List Nat) (s : State), s.life.transition = some x ∧ x.running = true ∧ x.bits = b
      :: rest ∧ x.attempts < 3) ∧
    (∃ (x : Transition) (b : Nat) (rest : List Nat) (s : State), s.life.transition = some x ∧ x.running = true ∧ x.bits = b
      :: rest ∧ x.attempts = 3 ∧ x.skipped < 3) ∧
    (∃ (x : Transition) (first : Bool) (rest : List (Decision × Bool)) (s : State), s.life.transition = some x ∧
      s.tamper.decisions = (.lifeCycle, first) :: rest ∧ decodeLife (lifeWord s) = x.target) :=
  ⟨⟨.write .custody, [3], ceremonial 10 up, .custody, .endOfLife, by decide +kernel⟩,
   ⟨.write .custody, [3], ceremonial 10 serving, .custody, .endOfLife, 2, by decide +kernel⟩,
   ⟨{ blankPart with life := { blankPart.life with debugOpen := true }, modes := { up.modes with word := { up.modes.word with debugOpen := true } } },
     by decide +kernel⟩,
   ⟨.write .custody, [1], badState, .custody, .test, by decide +kernel⟩,
   ⟨⟨.production, .endOfLife, [3, 7], 2, 0, true, 0⟩, 3, [7], moving [3, 7] 2, by decide +kernel⟩,
   ⟨⟨.production, .endOfLife, [3, 7], 2, 0, true, 0⟩, 3, [7], moving [3, 7] 2, by decide +kernel⟩,
   ⟨⟨.production, .endOfLife, [3, 7], 3, 0, true, 0⟩, 3, [7], moving [3, 7] 3, by decide +kernel⟩,
   ⟨⟨.production, .endOfLife, [], 0, 0, true, 0⟩, true, [], decodedEnd, by decide +kernel⟩⟩

set_option maxRecDepth 100000 in
theorem test_LifeCycleMovesBitByBit_part2 :
    (∃ (readBack : Bool) (s : State), s.life.transition.all (fun x => !x.running || x.bits.isEmpty) = true) ∧
    (∃ (x : Transition) (b : Nat) (rest : List Nat) (s : State), s.life.transition = some x ∧ x.running = true ∧ x.bits = b
      :: rest ∧ x.attempts = 3 ∧ x.skipped = 3 ∧ freshFatal s (faultCode 3 0x11 3) = true) ∧
    (∃ (s : State), s.life.resetDue.all (fun due => decide (s.disp.tick < due)) = true) ∧
    (∃ (due : Nat) (s : State), s.life.resetDue = some due ∧ due ≤ s.disp.tick) :=
  ⟨⟨true, up, by decide +kernel⟩,
   ⟨⟨.production, .endOfLife, [3, 7], 3, 3, true, 0⟩, 3, [7],
     { up with life := { up.life with transition := some ⟨.production, .endOfLife, [3, 7], 3, 3, true, 0⟩ } },
     by decide +kernel⟩,
   ⟨up, by decide +kernel⟩,
   ⟨5, { slotted .valid with life := { up.life with resetDue := some 5 }, disp := { up.disp with tick := 6 } },
     by decide +kernel⟩⟩

theorem test_LifeCycleMovesBitByBit_part3 : ∃ (src : Src) (s : State) (p : Path), reaches src [1] s p 0x1100 6 [1] = true ∧
    latchResultOf s true = 0 :=
  ⟨.write .custody, ceremonial 5 (slotted .valid), .custody, by decide +kernel,
    latch_result true (latch_closed _ rfl) (by decide +kernel)⟩

theorem test_LifeCycleMovesBitByBit_part4 : ∃ (src : Src) (s : State) (p : Path), reaches src [2] s p 0x1100 6 [2] = true ∧
    latchResultOf s false = 0 :=
  ⟨.write .custody, opened_ (ceremonial 5 (slotted .valid)), .custody, by decide +kernel,
    latch_result false (latch_opened _) (by decide +kernel)⟩

theorem test_LifeCycleMovesBitByBit_part5 : ∃ (src : Src) (s : State) (p : Path) (r : Nat), reaches src [1] s p 0x1100 6 [1] = true ∧
    latchResultOf s true = r ∧ r ≠ 0 :=
  ⟨.write .custody, ceremonial 5 serving, .custody, 2, by decide +kernel,
    latch_result true (latch_closed _ rfl) (by decide +kernel), by decide⟩

theorem test_LifeCycleMovesBitByBit_part6 : ∃ (e : Erase) (rest : List Erase) (s : State), s.mram.erases = e :: rest ∧
    s.mram.current = none ∧ s.mram.pwrfail = false ∧ s.boot.phase ≠ .inReset ∧ e.purpose = .latch ∧ latchOpen s = false :=
  ⟨⟨.latch, .keys, [3, 2], 0⟩, [], erasing_ .latch .keys up, rfl, rfl, rfl, by decide, rfl, latch_closed _ rfl⟩

theorem test_LifeCycleMovesBitByBit_part7 : ∃ (src : Src) (s : State) (p : Path) (r : Nat), reaches src [2] s p 0x1100 6 [2] = true ∧
    latchResultOf s false = r ∧ r ≠ 0 :=
  ⟨.write .custody, opened_ (ceremonial 5 serving), .custody, 2, by decide +kernel,
    latch_result false (latch_opened _) (by decide +kernel), by decide⟩

set_option maxRecDepth 100000 in
theorem test_CustodySessionsOpenRunAndClose_part1 :
    (∃ (frame : Frame) (c : Nat) (s : State), frameFor s 1 32 32 true frame = true ∧ (slice 1 15 (frameContent frame)).all
      (fun b => b == 0) = true ∧ s.modes.word.doze = false ∧ c = ((frameContent frame).getD 0 0).toNat ∧ openRefused s c = 0 ∧
      reserveCovers s 20 = true) ∧
    (∃ (frame : Frame) (s : State), openRefused s ((frameContent frame).getD 0 0).toNat = 0 ∧ s.modes.word.doze = false ∧
      reserveCovers s 20 = false) ∧
    (∃ (frame : Frame) (s : State) (y : Instr × Nat × Nat × Nat × Bool), y ∈ ([(.openReq frame, 1, 32, 32, true), (.openConf
      frame, 3, 0, 0, false), (.keepalive frame, 0x12, 0, 0, false), (.request frame, 0x10, 4, 1024, false), (.close frame,
      0x13, 0, 0, false), (.enrolReq frame, 4, 129, 129, true), (.enrolConf frame, 6, 0, 0, false)] : List (Instr × Nat × Nat
      × Nat × Bool)) ∧ frameFor s y.2.1 y.2.2.1 y.2.2.2.1 y.2.2.2.2 frame = false) ∧
    (∃ (frame : Frame) (c r : Nat) (s : State), frameFor s 1 32 32 true frame = true ∧ (slice 1 15 (frameContent frame)).all
      (fun b => b == 0) = true ∧ s.modes.word.doze = false ∧ c = ((frameContent frame).getD 0 0).toNat ∧ openRefused s c = r ∧
      r ≠ 0) ∧
    (∃ (frame : Frame) (s : State), frameFor s 3 0 0 false frame = true ∧ s.custody.session = .opening ∧ s.custody.enrol =
      none ∧ frameSession frame = s.custody.sessionId ∧ s.modes.word.doze = false ∧ tagGood s.custody.kmac frame = true) ∧
    (∃ (frame : Frame) (s : State), frameFor s 3 0 0 false frame = true ∧ s.custody.session = .opening ∧ s.custody.enrol =
      none ∧ frameSession frame = s.custody.sessionId ∧ s.modes.word.doze = false ∧ tagGood s.custody.kmac frame = false) ∧
    (∃ (s : State), s.custody.session = .opening ∧ s.custody.due ≤ s.disp.tick) ∧
    (∃ (frame : Frame) (s : State), frameFor s 0x13 0 0 false frame = true ∧ ofSession s frame = true ∧ s.modes.word.doze =
      false ∧ tagGood s.custody.kmac frame = true) :=
  ⟨⟨llynoIn 1 0 0 (zeros 32) (zeros 32), 0, consoled up, by decide +kernel⟩,
   ⟨llynoIn 1 0 0 (zeros 32) (zeros 32), drained_ (consoled up), by decide +kernel⟩,
   ⟨llynoIn 1 0 0 (zeros 32) (zeros 32), up, (.openReq (llynoIn 1 0 0 (zeros 32) (zeros 32)), 1, 32, 32, true),
     by decide +kernel⟩,
   ⟨llynoIn 1 0 0 ([3] ++ zeros 31) (zeros 32), 3, 3, consoled up, by decide +kernel⟩,
   ⟨frame77 3 [], sessioned .opening up, by decide +kernel⟩,
   ⟨badFrame 3 [], sessioned .opening up, by decide +kernel⟩,
   ⟨sessioned .opening up, by decide +kernel⟩,
   ⟨frame77 0x13 [], sessioned .opened up, by decide +kernel⟩⟩

set_option maxRecDepth 100000 in
theorem test_CustodySessionsOpenRunAndClose_part2 :
    (∃ (frame : Frame) (s : State), frameFor s 0x13 0 0 false frame = true ∧ ofSession s frame = true ∧ s.modes.word.doze =
      false ∧ tagGood s.custody.kmac frame = false ∧ s.custody.tagFails < 7) ∧
    (∃ (frame : Frame) (s : State) (i : Instr), i ∈ ([.close frame, .keepalive frame, .request frame] : List Instr) ∧
      ofSession s frame = false) ∧
    (∃ (frame : Frame) (s : State) (i : Instr), i ∈ ([.keepalive frame, .request frame] : List Instr) ∧ custodyWaits s =
      true) ∧
    (∃ (frame : Frame) (s : State), ((s.custody.session ≠ .opening ∨ s.custody.enrol.isSome = true ∨ frameSession frame ≠
      s.custody.sessionId))) ∧
    (∃ (s : State) (y : Instr × Session), y ∈ ([(.sessionOpenTimeout, .opening), (.sessionIdleTimeout, .opened)] : List
      (Instr × Session)) ∧ (s.custody.session ≠ y.2 ∨ s.disp.tick < s.custody.due)) ∧
    (∃ (s : State), s.custody.linkUp = false) ∧
    (∃ (s : State), s.custody.session ≠ .opened ∧ s.custody.linkUp = true) ∧
    (∃ (s : State), s.boot.phase = .inReset) :=
  ⟨⟨badFrame 0x13 [], sessioned .opened up, by decide +kernel⟩,
   ⟨frame77 0x13 [], consoled up, .close (frame77 0x13 []), by decide +kernel⟩,
   ⟨frame77 0x12 [], waitingReply, .keepalive (frame77 0x12 []), by decide +kernel⟩,
   ⟨frame77 3 [], sessioned .opened up, by decide +kernel⟩,
   ⟨sessioned .opened up, (.sessionOpenTimeout, .opening), by decide +kernel⟩,
   ⟨up, by decide +kernel⟩,
   ⟨consoled up, by decide +kernel⟩,
   ⟨State.reset, by decide +kernel⟩⟩

set_option maxRecDepth 100000 in
theorem test_CustodySessionsOpenRunAndClose_part3 :
    (∃ (s : State), (s.boot.phase = .inReset ∨ custodyOut s = true)) ∧
    (∃ (s : State), s.custody.session = .opened ∧ s.custody.due ≤ s.disp.tick) ∧
    (∃ (s : State), s.custody.session = .opened ∧ s.custody.linkUp = true) ∧
    (∃ (s : State), s.boot.phase ≠ .inReset) ∧
    (∃ (s : State), s.boot.phase ≠ .inReset ∧ custodyOut s = false ∧ s.custody.session = .opened) ∧
    (∃ (frame : Frame) (s : State), custodyWaits s = false ∧ inTurn s 0x12 0 0 frame = true ∧ s.modes.word.doze = false) ∧
    (∃ (frame : Frame) (s : State), custodyWaits s = false ∧ frameFor s 0x12 0 0 false frame = true ∧ ofSession s frame =
      true ∧ s.modes.word.doze = false ∧ tagGood s.custody.kmac frame = false ∧ s.custody.tagFails < 7) ∧
    (∃ (frame : Frame) (s : State), custodyWaits s = false ∧ frameFor s 0x12 0 0 false frame = true ∧ ofSession s frame =
      true ∧ s.modes.word.doze = false ∧ tagGood s.custody.kmac frame = false ∧ 7 ≤ s.custody.tagFails) :=
  ⟨⟨State.reset, by decide +kernel⟩,
   ⟨sessioned .opened up, by decide +kernel⟩,
   ⟨sessioned .opened up, by decide +kernel⟩,
   ⟨up, by decide +kernel⟩,
   ⟨sessioned .opened up, by decide +kernel⟩,
   ⟨frame77 0x12 [], sessioned .opened up, by decide +kernel⟩,
   ⟨badFrame 0x12 [], failing 2, by decide +kernel⟩,
   ⟨badFrame 0x12 [], failing 7, by decide +kernel⟩⟩

set_option maxRecDepth 100000 in
theorem test_CustodySessionsOpenRunAndClose_part4 :
    (∃ (frame : Frame) (s : State), custodyWaits s = false ∧ frameFor s 0x12 0 0 false frame = true ∧ ofSession s frame =
      true ∧ s.modes.word.doze = false ∧ tagGood s.custody.kmac frame = true ∧ frameOrder s frame = .wrong) ∧
    (∃ (frame : Frame) (index sub r : Nat) (value : Bytes) (s : State), custodyWaits s = false ∧ mailServed s = true ∧
      inTurn s 0x10 4 1024 frame = true ∧ s.modes.word.doze = false ∧ s.boot.phase ≠ .recovery ∧ frameContent frame = [1, 0,
      0, 0] ++ natLE 2 index ++ [byte sub, 0] ∧ index < 0x10000 ∧ sub < 256 ∧ readEntry (postDeviceEvent 5 (heard s frame))
      .custody 1020 index sub = (r, value)) ∧
    (∃ (frame : Frame) (index sub : Nat) (value : Bytes) (s : State), custodyWaits s = false ∧ mailServed s = true ∧ inTurn
      s 0x10 4 1024 frame = true ∧ s.modes.word.doze = false ∧ s.boot.phase ≠ .recovery ∧ frameContent frame = [2, 0, 0, 0] ++
      natLE 2 index ++ [byte sub, 0] ++ value ∧ index < 0x10000 ∧ sub < 256 ∧ modeRefusal (heard s frame) .custody true index
      sub value = none ∧ writeRefused (heard s frame) .custody index sub value = none ∧ hasRow index sub value = false ∧
      inConfigSet index sub = false ∧ ¬(index = 0x9000 ∧ sub = 6 ∧ otherPath s .custody = true) ∧ s.custody.closing = false) ∧
    (∃ (s : State), decoded s = true ∧ s.custody.linkUp = true ∧ s.life.state ≠ .blank ∧ announceDue s = true) ∧
    (∃ (s : State), (decoded s = false ∨ s.custody.linkUp = false ∨ s.life.state = .blank ∨ announceDue s = false)) ∧
    (∃ (frame : Frame) (c : Nat) (s : State), frameFor s 4 129 129 true frame = true ∧ s.modes.word.doze = false ∧
      enrolRefused s = 0 ∧ freeConsole s = some c ∧ reserveCovers s 204 = true) ∧
    (∃ (frame : Frame) (s : State), s.modes.word.doze = false ∧ enrolRefused s = 0 ∧ reserveCovers s 204 = false ∧
      (freeConsole s).isSome = true) ∧
    (∃ (frame : Frame) (s : State), (s.custody.enrol = none ∨ frameSession frame ≠ s.custody.sessionId)) :=
  ⟨⟨llynoIn 0x12 77 9 [] (zeros 32), failing 3, by decide +kernel⟩,
   ⟨frame77 0x10 ([1, 0, 0, 0] ++ natLE 2 0x1100 ++ [1, 0]), 0x1100, 1, 0, [2], sessioned .opened up, by decide +kernel⟩,
   ⟨frame77 0x10 ([2, 0, 0, 0] ++ natLE 2 0x3003 ++ [1, 0] ++ natLE 1 9), 0x3003, 1, natLE 1 9,
     { sessioned .opened up with custody := { (sessioned .opened up).custody with ceremony := 2 } }, by decide +kernel⟩,
   ⟨consoled up, by decide +kernel⟩,
   ⟨up, by decide +kernel⟩,
   ⟨llynoIn 4 0 0 (zeros 129) (zeros 32), 0, fresh, by decide +kernel⟩,
   ⟨llynoIn 4 0 0 (zeros 129) (zeros 32), drained_ fresh, by decide +kernel⟩,
   ⟨frame77 6 [], sessioned .opened up, by decide +kernel⟩⟩

set_option maxRecDepth 100000 in
theorem test_CustodySessionsOpenRunAndClose_part5 :
    (∃ (frame : Frame) (e : Enrolment) (s : State), s.custody.enrol = some e ∧ frameFor s 6 0 0 false frame = true ∧
      frameSession frame = s.custody.sessionId ∧ s.modes.word.doze = false ∧ tagGood e.kmac frame = false ∧ ((e.opens = true ∨
      s.custody.tagFails < 7))) ∧
    (∃ (frame : Frame) (r : Nat) (s : State), frameFor s 4 129 129 true frame = true ∧ s.modes.word.doze = false ∧
      enrolRefused s = r ∧ r ≠ 0) ∧
    (∃ (frame : Frame) (e : Enrolment) (s : State), s.custody.enrol = some e ∧ frameFor s 6 0 0 false frame = true ∧
      frameSession frame = s.custody.sessionId ∧ s.modes.word.doze = false ∧ tagGood e.kmac frame = true ∧ vaultSlot s
      (consoleSlot e.console) = none ∧ e.key.length = 32) ∧
    (∃ (e : Enrolment) (s : State), s.custody.enrol = some e ∧ e.due ≤ s.disp.tick ∧ e.opens = false) ∧
    (∃ (s : State), s.custody.enrol.all (fun e => e.opens || decide (s.disp.tick < e.due)) = true) :=
  ⟨⟨badFrame 6 [], enrolment true, enrolling true, by decide +kernel⟩,
   ⟨llynoIn 4 0 0 (zeros 129) (zeros 32), 3, { fresh with custody := { fresh.custody with dual := false } },
     by decide +kernel⟩,
   ⟨frame77 6 [], enrolment true, enrolling true, by decide +kernel⟩,
   ⟨enrolment false, enrolling false, by decide +kernel⟩,
   ⟨enrolling true, by decide +kernel⟩⟩

set_option maxRecDepth 100000 in
theorem test_PresenceCeremoniesAndVaultKeys_part1 :
    (∃ (input : Nat) (s : State), input < 2 ∧ inputValid s input = false ∧ s.tamper.decisions.any (fun x => decide (x.1 =
      Decision.presence input)) = false) ∧
    (∃ (input : Nat) (first : Bool) (rest : List (Decision × Bool)) (s : State), input < 2 ∧ s.tamper.decisions = (.presence
      input, first) :: rest) ∧
    (∃ (input : Nat) (s : State), input < 2 ∧ inputValid s input = true ∧ s.custody.ceremony = 0 ∧ inputValid s (1 - input)
      = true) ∧
    (∃ (input : Nat) (s : State), (2 ≤ input ∨ inputValid s input = false)) ∧
    (∃ (input : Nat) (s : State), (2 ≤ input ∨ inputValid s input = true ∨ s.tamper.decisions.any (fun x => decide (x.1 =
      Decision.presence input)) = true)) ∧
    (∃ (input : Nat) (s : State), input < 2 ∧ inputValid s input = true ∧ inputValid s (1 - input) = false ∧
      s.custody.session = .opened) ∧
    (∃ (input : Nat) (s : State), input < 2 ∧ inputValid s input = true ∧ s.custody.dual = true ∧ s.custody.ceremony ≠ 0) ∧
    (∃ (src : Src) (value : Bytes) (s : State) (p : Path) (n : Nat), reaches src value s p 0x7810 1 value = true ∧ n = leNat
      value ∧ s.custody.ceremony = 0 ∧ 1 ≤ n ∧ n ≤ 11 ∧ ceremonyRefused s n = false) :=
  ⟨⟨1, up, by decide +kernel⟩,
   ⟨1, true, [], decided (.presence 1) { up with custody := { up.custody with presA := some 0 } }, by decide +kernel⟩,
   ⟨1, consoled up, by decide +kernel⟩,
   ⟨1, up, by decide +kernel⟩,
   ⟨1, consoled up, by decide +kernel⟩,
   ⟨1, { inCeremony 2 up with custody := { (inCeremony 2 up).custody with presA := none } }, by decide +kernel⟩,
   ⟨1, inCeremony 2 up, by decide +kernel⟩,
   ⟨.write .custody, [2], inCeremony 0 up, .custody, 2, by decide +kernel⟩⟩

set_option maxRecDepth 100000 in
theorem test_PresenceCeremoniesAndVaultKeys_part2 :
    (∃ (src : Src) (value : Bytes) (s : State) (p : Path) (n r : Nat), reaches src value s p 0x7810 1 value = true ∧ n =
      leNat value ∧ ((s.custody.ceremony ≠ 0 ∧ r = 1 ∨ s.custody.ceremony = 0 ∧ (n = 0 ∨ 11 < n) ∧ r = 3 ∨ s.custody.ceremony
      = 0 ∧ 1 ≤ n ∧ n ≤ 11 ∧ ceremonyRefused s n = true ∧ r = 2))) ∧
    (∃ (src : Src) (s : State) (p : Path), reaches src [1] s p 0x7810 3 [1] = true) ∧
    (∃ (src : Src) (s : State) (p : Path) (c : Nat), reaches src [1] s p 0x7801 5 [1] = true ∧ c = (pathSel s p).consoleSel
      ∧ enrolled s c = true ∧ (c ≠ s.custody.console ∨ s.custody.session ≠ .opened) ∧ s.custody.closing = false) ∧
    (∃ (src : Src) (s : State) (p : Path), reaches src [1] s p 0x7801 5 [1] = true ∧ enrolled s (pathSel s p).consoleSel =
      false ∧ s.custody.closing = false) ∧
    (∃ (src : Src) (s : State) (p : Path) (c : Nat), reaches src [1] s p 0x7801 5 [1] = true ∧ c = (pathSel s p).consoleSel
      ∧ enrolled s c = true ∧ c = s.custody.console ∧ s.custody.session = .opened ∧ evlogFull s = true ∧ custodyWaits s =
      false) ∧
    (∃ (src : Src) (s : State) (p : Path) (c : Nat), reaches src [1] s p 0x7801 5 [1] = true ∧ c = (pathSel s p).consoleSel
      ∧ enrolled s c = true ∧ c = s.custody.console ∧ s.custody.session = .opened ∧ logRoom s = true) ∧
    (∃ (w : PageWrite) (h : HeldReply) (s : State), s.mram.current = some w ∧ w.store = .log ∧ s.mram.queue.all (fun x =>
      decide (x.store ≠ .log)) = true ∧ s.log.staged = [] ∧ s.dict.held = [h] ∧ h.path = .custody ∧ h.slot = requestSlot ∧
      h.pages = [] ∧ h.records = [] ∧ h.event ≤ s.log.total ∧ s.custody.closing = true ∧ s.custody.session = .opened) ∧
    (∃ (s : State), canAppend s = true ∧ evlogFull s = true ∧ s.custody.closing = true ∧ s.custody.session = .opened ∧
      custodyWaits s = false) :=
  ⟨⟨.write .custody, [2], inCeremony 3 up, .custody, 2, 1, by decide +kernel⟩,
   ⟨.write .custody, inCeremony 3 up, .custody, by decide +kernel⟩,
   ⟨.write .custody, removing 1, .custody, 1, by decide +kernel⟩,
   ⟨.write .custody, removing 2, .custody, by decide +kernel⟩,
   ⟨.write .custody, fullLog (removing 0), .custody, 0, by decide +kernel⟩,
   ⟨.write .custody, removing 0, .custody, 0, by decide +kernel⟩,
   ⟨logPage, heldRemoval, removalHeld, by decide +kernel⟩,
   ⟨fullClosing, by decide +kernel⟩⟩

set_option maxRecDepth 100000 in
theorem test_PresenceCeremoniesAndVaultKeys_part3 :
    (∃ (src : Src) (value key : Bytes) (s : State) (p : Path), reaches src value s p 0x3003 4 value = true ∧ loadPermitted s
      = true ∧ openComponent s value = some key) ∧
    (∃ (src : Src) (value : Bytes) (s : State) (p : Path), reaches src value s p 0x3003 4 value = true ∧ loadPermitted s =
      false) ∧
    (∃ (src : Src) (s : State) (p : Path), reaches src [2] s p 0x3003 6 [2] = true ∧ loadPermitted s = false) ∧
    (∃ (src : Src) (value : Bytes) (s : State) (p : Path), reaches src value s p 0x3003 4 value = true ∧ loadPermitted s =
      true ∧ openComponent s value = none) ∧
    (∃ (src : Src) (s : State) (p : Path), reaches src [1] s p 0x3003 6 [1] = true ∧ loadOutcome s = 0) ∧
    (∃ (src : Src) (s : State) (p : Path) (r : Nat), reaches src [1] s p 0x3003 6 [1] = true ∧ loadOutcome s = r ∧ r ≠ 0) ∧
    (∃ (src : Src) (s : State) (p : Path), reaches src [2] s p 0x3003 6 [2] = true ∧ loadPermitted s = true ∧ (vaultSlot s
      s.custody.loadTarget).isSome = true) ∧
    (∃ (src : Src) (s : State) (p : Path), reaches src [2] s p 0x3003 6 [2] = true ∧ loadPermitted s = true ∧ vaultSlot s
      s.custody.loadTarget = none) :=
  ⟨⟨.write .custody, kwSeal (zeros 32) (natLE 32 9), natLE 32 9, inCeremony 2 up, .custody, by decide +kernel⟩,
   ⟨.write .custody, zeros 40, loadLess 9, .custody, by decide +kernel⟩,
   ⟨.write .custody, loadLess 9, .custody, by decide +kernel⟩,
   ⟨.write .custody, zeros 40, inCeremony 2 up, .custody, by decide +kernel⟩,
   ⟨.write .custody, loading_ 9, .custody, by decide +kernel⟩,
   ⟨.write .custody, inCeremony 2 up, .custody, 4, by decide +kernel⟩,
   ⟨.write .custody, loading_ 20, .custody, by decide +kernel⟩,
   ⟨.write .custody, loading_ 9, .custody, by decide +kernel⟩⟩

theorem test_PresenceCeremoniesAndVaultKeys_part4 :
    (∃ (src : Src) (s : State) (p : Path), reaches src [3] s p 0x3003 6 [3] = true) :=
  ⟨.write .custody, loading_ 9, .custody, by decide +kernel⟩

set_option maxRecDepth 100000 in
theorem test_ClaspSessionsOpenAndEnd_part1 :
    (∃ (lanes : Nat) (s : State), decoded s = true ∧ claspOut s = false ∧ s.clasp.link < 2 ∧ s.modes.word.doze = false ∧
      ((lanes = 1 ∨ lanes = 2 ∨ lanes = 4)) ∧ reserveCovers s 16 = true) ∧
    (∃ (lanes : Nat) (s : State), ((decoded s = false ∨ claspOut s = true ∨ 2 ≤ s.clasp.link ∨ List.contains [1, 2, 4] lanes
      = false))) ∧
    (∃ (reason : Nat) (s : State), (s.clasp.link = 0 ∨ reason ≠ 1 ∧ reason ≠ 2)) ∧
    (∃ (s : State), (decoded s = false ∨ claspOut s = true ∨ s.clasp.link ≠ 0)) ∧
    (∃ (s : State), (s.clasp.link < 2 ∨ s.clasp.link = 2 ∧ s.clasp.confSent = true)) ∧
    (∃ (s : State), (s.clasp.link ≠ 2 ∨ reserveCovers s 16 = false)) ∧
    (∃ (frame : Bytes) (s : State), (s.clasp.link ≠ 2 ∨ claspForm 1 frame = false)) ∧
    (∃ (frame : Bytes) (s : State), ((s.clasp.link < 2 ∨ s.clasp.link = 2 ∧ (s.clasp.peerHello = none ∨ s.clasp.confSent =
      false ∨ claspForm 2 frame = false)))) :=
  ⟨⟨4, aDrbgUp, by decide +kernel⟩,
   ⟨3, aDrbgUp, by decide +kernel⟩,
   ⟨5, paired 4 true up, by decide +kernel⟩,
   ⟨paired 4 true up, by decide +kernel⟩,
   ⟨up, by decide +kernel⟩,
   ⟨up, by decide +kernel⟩,
   ⟨helloFrame (zeros 64), up, by decide +kernel⟩,
   ⟨confFrame, withClasp (fun c => { c with confSent := false }) greeted, by decide +kernel⟩⟩

set_option maxRecDepth 100000 in
theorem test_ClaspSessionsOpenAndEnd_part2 :
    (∃ (frame : Bytes) (s : State) (y : Instr × Nat), y ∈ ([(.ack frame, 3), (.renew frame, 0x10), (.renewAck frame, 0x11),
      (.release frame, 0x12), (.releaseAck frame, 0x13), (.take frame, 0x14), (.detach frame, 0x15), (.repl frame, 0x20),
      (.resyncReq frame, 0x30), (.resyncData frame, 0x31), (.resyncEnd frame, 0x32), (.bindReq frame, 0x40), (.bindResp frame,
      0x41), (.bindConf frame, 0x42), (.unbind frame, 0x43)] : List (Instr × Nat)) ∧ (s.clasp.link < 3 ∨ claspForm y.2 frame =
      false)) ∧
    (∃ (frame : Bytes) (s : State) (y : Instr × Nat), y ∈ ([(.ack frame, 3), (.renew frame, 0x10), (.renewAck frame, 0x11),
      (.release frame, 0x12), (.releaseAck frame, 0x13), (.take frame, 0x14), (.detach frame, 0x15), (.repl frame, 0x20),
      (.resyncReq frame, 0x30), (.resyncData frame, 0x31), (.resyncEnd frame, 0x32), (.unbind frame, 0x43)] : List (Instr ×
      Nat)) ∧ inBound s = true ∧ claspForm y.2 frame = true ∧ s.clasp.fails < 7 ∧ ((claspOpen s 4 frame = none ∨ claspFseq
      frame ≠ s.clasp.rxSeq + 1))) ∧
    (∃ (frame body : Bytes) (s : State) (y : Instr × Nat), y ∈ ([(.ack frame, 3), (.renew frame, 0x10), (.renewAck frame,
      0x11), (.release frame, 0x12), (.releaseAck frame, 0x13), (.take frame, 0x14), (.detach frame, 0x15), (.repl frame,
      0x20), (.resyncReq frame, 0x30), (.resyncData frame, 0x31), (.resyncEnd frame, 0x32)] : List (Instr × Nat)) ∧
      s.clasp.link = 3 ∧ s.modes.word.doze = false ∧ claspNext s y.2 frame body = true) ∧
    (∃ (reason : Nat) (s : State), 2 ≤ s.clasp.link ∧ ((reason = 1 ∨ reason = 2))) ∧
    (∃ (s : State), decoded s = true ∧ claspOut s = false ∧ s.clasp.link = 0) ∧
    (∃ (s : State), 3 ≤ s.clasp.link ∧ standbyNow s = false) ∧
    (∃ (s : State), s.clasp.link = 2 ∧ reserveCovers s 16 = true ∧ s.clasp.peerHello = none) ∧
    (∃ (frame : Bytes) (s : State), s.clasp.link = 2 ∧ claspForm 1 frame = true ∧ s.modes.word.doze = false ∧ claspLen frame
      = 64 ∧ claspTag frame = zeros 16) :=
  ⟨⟨claspIn 3 5 [], up, (.ack (claspIn 3 5 []), 3), by decide +kernel⟩,
   ⟨badClasp 3, paired 4 true up, (.ack (badClasp 3), 3), by decide +kernel⟩,
   ⟨claspMac 3 5 [], [], unboundPart, (.ack (claspMac 3 5 []), 3), by decide +kernel⟩,
   ⟨1, paired 4 true up, by decide +kernel⟩,
   ⟨up, by decide +kernel⟩,
   ⟨paired 4 true up, by decide +kernel⟩,
   ⟨withClasp (fun c => { c with link := 2 }) aDrbgUp, by decide +kernel⟩,
   ⟨helloFrame (zeros 64), withClasp (fun c => { c with link := 2 }) aDrbgUp, by decide +kernel⟩⟩

set_option maxRecDepth 100000 in
theorem test_ClaspSessionsOpenAndEnd_part3 :
    (∃ (frame : Bytes) (s : State), s.clasp.link = 2 ∧ claspForm 1 frame = true ∧ s.modes.word.doze = false ∧ claspLen frame
      ≠ 64 ∧ s.clasp.fails < 7) ∧
    (∃ (frame h : Bytes) (s : State), s.clasp.link = 2 ∧ s.clasp.peerHello = some h ∧ s.clasp.confSent = true ∧ claspForm 2
      frame = true ∧ s.modes.word.doze = false ∧ claspOpen s (sessionKind s h) frame = some (confBody s h) ∧ claspFseq frame =
      1 ∧ ((sessionKind s h = 4 ∨ sessionKind s h = 3 ∧ namesPeer s h = false))) ∧
    (∃ (frame h : Bytes) (s : State), s.clasp.link = 2 ∧ s.clasp.peerHello = some h ∧ s.clasp.confSent = true ∧ claspForm 2
      frame = true ∧ s.modes.word.doze = false ∧ claspOpen s (sessionKind s h) frame = none ∧ s.clasp.fails < 7) ∧
    (∃ (frame body : Bytes) (s : State), inBound s = true ∧ claspNext s 3 frame body = true) ∧
    (∃ (frame : Bytes) (s : State), inBound s = true ∧ claspForm 3 frame = true ∧ claspOpen s 4 frame = none ∧ s.clasp.fails
      < 7) ∧
    (∃ (frame : Bytes) (s : State), inBound s = true ∧ claspForm 3 frame = true ∧ claspOpen s 4 frame = none ∧ 7 ≤
      s.clasp.fails) ∧
    (∃ (r : Repeated) (s : State), s.clasp.repeated = [r] ∧ s.clasp.link = 4 ∧ bound s = true ∧ standbyNow s = false ∧
      r.firstAt + 8 ≤ s.disp.tick) ∧
    (∃ (r : Repeated) (s : State), s.clasp.repeated = [r] ∧ s.clasp.link = 4 ∧ bound s = true ∧ standbyNow s = false ∧
      r.lastAt < s.disp.tick ∧ s.disp.tick < r.firstAt + 8) :=
  ⟨⟨helloFrame (zeros 63), withClasp (fun c => { c with link := 2 }) aDrbgUp, by decide +kernel⟩,
   ⟨confFrame, peerBody, greeted, by decide +kernel⟩,
   ⟨[2, 0, 0, 0] ++ natLE 8 1 ++ zeros 24, peerBody, greeted, by decide +kernel⟩,
   ⟨claspIn 3 5 [], [], paired 4 true up, by decide +kernel⟩,
   ⟨badClasp 3, paired 4 true up, by decide +kernel⟩,
   ⟨badClasp 3, withClasp (fun c => { c with fails := 7 }) (paired 4 true up), by decide +kernel⟩,
   ⟨⟨0x12, zeros 9, 5, 6, 4⟩, repeated_ 5 6, by decide +kernel⟩,
   ⟨⟨0x12, zeros 9, 99999, 99999, 4⟩, repeated_ 99999 99999, by decide +kernel⟩⟩

theorem test_ClaspSessionsOpenAndEnd_part4 :
    (∃ (s : State), (s.clasp.repeated = [] ∨ s.clasp.link < 3)) :=
  ⟨up, by decide +kernel⟩

set_option maxRecDepth 100000 in
theorem test_SignetRenewedTakenReleasedAndUnbound_part1 :
    (∃ (frame body : Bytes) (s : State), inBound s = true ∧ claspNext s 0x10 frame body = true ∧ standbyNow s = true ∧ 3 ≤
      s.twin.sync) ∧
    (∃ (frame body : Bytes) (at_ : Nat) (s : State), inBound s = true ∧ claspNext s 0x11 frame body = true ∧ activeNow s =
      true ∧ (acceptClasp frame s).twin.renewSent.find? (fun r => decide (r.1 = leNat (body.take 8))) = some (leNat (body.take
      8), at_)) ∧
    (∃ (s : State), replicating s = true ∧ s.twin.renewDue ≤ s.disp.tick) ∧
    (∃ (s : State), replicating s = true ∧ s.twin.leaseEnd ≤ s.disp.tick) ∧
    (∃ (s : State), (replicating s = false ∨ s.disp.tick < s.twin.renewDue)) ∧
    (∃ (s : State), (replicating s = false ∨ s.disp.tick < s.twin.leaseEnd)) ∧
    (∃ (s : State), (standbyNow s = false ∨ s.twin.sync < 3 ∨ s.twin.renewSeen = false ∨ s.disp.tick < s.twin.takeoverAt)) ∧
    (∃ (s : State), (standbyNow s = false ∨ s.twin.sync ≠ 3 ∨ eligibleNow s = false)) :=
  ⟨⟨claspIn 0x10 5 (zeros 16), zeros 16, standbyPart, by decide +kernel⟩,
   ⟨claspIn 0x11 5 (natLE 8 2), natLE 8 2, 90000, withTwin (fun x => { x with renewSent := [(1, 5), (2, 90000)] }) (paired 4
     true up), by decide +kernel⟩,
   ⟨paired 4 true up, by decide +kernel⟩,
   ⟨paired 4 true up, by decide +kernel⟩,
   ⟨up, by decide +kernel⟩,
   ⟨up, by decide +kernel⟩,
   ⟨up, by decide +kernel⟩,
   ⟨standbyPart, by decide +kernel⟩⟩

set_option maxRecDepth 100000 in
theorem test_SignetRenewedTakenReleasedAndUnbound_part2 :
    (∃ (s : State), s.twin.drainDue.all (fun due => decide (s.disp.tick < due) && !s.disp.chains.isEmpty) = true) ∧
    (∃ (src : Src) (s : State) (p : Path), reaches src [3] s p 0x7000 9 [3] = true ∧ activeNow s = false) ∧
    (∃ (s : State), standbyNow s = true ∧ 3 ≤ s.twin.sync ∧ s.twin.renewSeen = true ∧ s.twin.takeoverAt ≤ s.disp.tick ∧
      eligibleNow s = true ∧ fitToServe s = true ∧ auditClear s = true) ∧
    (∃ (s : State), standbyNow s = true ∧ 3 ≤ s.twin.sync ∧ s.twin.renewSeen = true ∧ s.twin.takeoverAt ≤ s.disp.tick ∧
      eligibleNow s = true ∧ fitToServe s = true ∧ auditClear s = false) ∧
    (∃ (s : State), standbyNow s = true ∧ 3 ≤ s.twin.sync ∧ s.twin.renewSeen = true ∧ s.twin.takeoverAt ≤ s.disp.tick ∧
      ((eligibleNow s = false ∨ fitToServe s = false))) ∧
    (∃ (s : State), standbyNow s = true ∧ s.twin.sync = 3 ∧ eligibleNow s = true ∧ ((s.clasp.link ≠ 4 ∨ peerShows s 1 =
      true))) ∧
    (∃ (frame body : Bytes) (s : State), inBound s = true ∧ claspNext s 0x12 frame body = true ∧ standbyNow s = true ∧
      eligibleNow s = true ∧ auditClear s = true ∧ lockedNow s = false ∧ fatalOpen s = false) ∧
    (∃ (frame body : Bytes) (s : State), inBound s = true ∧ claspNext s 0x12 frame body = true ∧ standbyNow s = true ∧
      ((eligibleNow s = false ∨ auditClear s = false ∨ lockedNow s = true ∨ fatalOpen s = true))) :=
  ⟨⟨paired 4 true up, by decide +kernel⟩,
   ⟨.write pf0, up, pf0, by decide +kernel⟩,
   ⟨standbyPart, by decide +kernel⟩,
   ⟨{ standbyPart with log := { up.log with records := 65536 } }, by decide +kernel⟩,
   ⟨{ standbyPart with rng := { up.rng with state := 0 } }, by decide +kernel⟩,
   ⟨withClasp (fun c => { c with link := 2 }) (withTwin (fun x => { x with sync := 3, inSyncAt := 5 }) standbyPart),
     by decide +kernel⟩,
   ⟨claspIn 0x12 5 (zeros 9), zeros 9, standbyPart, by decide +kernel⟩,
   ⟨claspIn 0x12 5 (zeros 9), zeros 9, { standbyPart with log := { up.log with records := 65536 } }, by decide +kernel⟩⟩

set_option maxRecDepth 100000 in
theorem test_SignetRenewedTakenReleasedAndUnbound_part3 :
    (∃ (frame body : Bytes) (s : State), inBound s = true ∧ claspNext s 0x13 frame body = true) ∧
    (∃ (frame body : Bytes) (s : State), inBound s = true ∧ claspNext s 0x14 frame body = true ∧ s.sec.generation.toNat <
      leNat (body.take 8) ∧ body.length = 9) ∧
    (∃ (frame body : Bytes) (s : State), inBound s = true ∧ claspNext s 0x15 frame body = true ∧ activeNow s = true) ∧
    (∃ (src : Src) (s : State) (p : Path), reaches src [4] s p 0x7000 9 [4] = true ∧ activeNow s = true ∧ s.twin.peerSync =
      3 ∧ s.twin.renewSeen = true ∧ s.twin.inSyncAt + 10000 ≤ s.disp.tick) ∧
    (∃ (src : Src) (s : State) (p : Path) (r : Nat), reaches src [4] s p 0x7000 9 [4] = true ∧ ((activeNow s = false ∧ r = 1
      ∨ activeNow s = true ∧ s.twin.peerSync ≠ 3 ∧ r = 6))) ∧
    (∃ (due : Nat) (s : State), s.twin.drainDue = some due ∧ ((due ≤ s.disp.tick ∨ s.disp.chains = [])) ∧ activeNow s =
      true) ∧
    (∃ (src : Src) (s : State) (p : Path), reaches src [3] s p 0x7000 9 [3] = true ∧ activeNow s = true) ∧
    (∃ (frame body h : Bytes) (s : State), s.clasp.link = 4 ∧ s.modes.word.doze = false ∧ claspNext s 0x43 frame body = true
      ∧ s.clasp.peerHello = some h ∧ namesPeer s h = true) :=
  ⟨⟨claspIn 0x13 5 (zeros 8), zeros 8, repeated_ 99999 99999, by decide +kernel⟩,
   ⟨claspIn 0x14 5 (natLE 8 4 ++ [1]), natLE 8 4 ++ [1], paired 4 true up, by decide +kernel⟩,
   ⟨claspIn 0x15 5 [2], [2], paired 4 true up, by decide +kernel⟩,
   ⟨.write pf0, paired 4 true up, pf0, by decide +kernel⟩,
   ⟨.write pf0, up, pf0, 1, by decide +kernel⟩,
   ⟨5, withTwin (fun x => { x with drainDue := some 5 }) (paired 4 true up), by decide +kernel⟩,
   ⟨.write pf0, paired 4 true up, pf0, by decide +kernel⟩,
   ⟨claspIn 0x43 5 [1], [1], peerBody, withClasp (fun c => { c with peerHello := some peerBody }) (paired 4 true up),
     by decide +kernel⟩⟩

set_option maxRecDepth 100000 in
theorem test_PartsBindIntoAPair_part1 :
    (∃ (src : Src) (s : State) (p : Path), reaches src [1] s p 0x7000 9 [1] = true ∧ bindRefused s true = 0 ∧ s.twin.offer =
      none) ∧
    (∃ (src : Src) (s : State) (p : Path) (point : Bytes) (at_ : Nat), reaches src [1] s p 0x7000 9 [1] = true ∧ bindRefused
      s true = 0 ∧ s.twin.offer = some (point, at_) ∧ s.disp.tick ≤ at_ + 1000000 ∧ reserveCovers s 56 = true) ∧
    (∃ (src : Src) (s : State) (i : Instr), i ∈ ([.bindAsSource src, .bindAsJoiner src] : List Instr) ∧ bindRefused s true =
      0 ∧ bindRefused s false = 0 ∧ s.twin.offer.isSome = true ∧ reserveCovers s 56 = false) ∧
    (∃ (src : Src) (s : State) (p : Path) (r : Nat), reaches src [1] s p 0x7000 9 [1] = true ∧ bindRefused s true = r ∧ r ≠
      0 ∧ (s.twin.offer = none ∨ reserveCovers s 56 = true)) ∧
    (∃ (src : Src) (s : State) (p : Path), reaches src [2] s p 0x7000 9 [2] = true ∧ bindRefused s false = 0 ∧ reserveCovers
      s 56 = true) ∧
    (∃ (src : Src) (s : State) (p : Path) (r : Nat), reaches src [2] s p 0x7000 9 [2] = true ∧ bindRefused s false = r ∧ r ≠
      0) ∧
    (∃ (frame body : Bytes) (s : State), s.clasp.link = 3 ∧ s.modes.word.doze = false ∧ claspNext s 0x40 frame body = true ∧
      body.length = 98 ∧ (body.getD 0 0).toNat = 2 ∧ s.twin.binding = none) ∧
    (∃ (frame body : Bytes) (b : Binding) (s : State), s.clasp.link = 3 ∧ s.modes.word.doze = false ∧ claspNext s 0x40 frame
      body = true ∧ body.length = 98 ∧ (body.getD 0 0).toNat = 2 ∧ s.twin.binding = some b ∧ b.source = true ∧ b.key = [] ∧
      reserveCovers s 56 = true) :=
  ⟨⟨.write pf0, unboundWith none 0 up, pf0, by decide +kernel⟩,
   ⟨.write pf0, offered 300, pf0, basePointBytes, 5, by decide +kernel⟩,
   ⟨.write pf0, offered 3, .bindAsSource (.write pf0), by decide +kernel⟩,
   ⟨.write pf0, up, pf0, 5, by decide +kernel⟩,
   ⟨.write pf0, unboundWith none 0 up, pf0, by decide +kernel⟩,
   ⟨.write pf0, up, pf0, 5, by decide +kernel⟩,
   ⟨unboundIn 0x40 ([2] ++ basePointBytes), [2] ++ basePointBytes, unboundWith none 0 up, by decide +kernel⟩,
   ⟨unboundIn 0x40 ([2] ++ basePointBytes), [2] ++ basePointBytes, ofSource [], unboundWith (some (ofSource [])) 0 up,
     by decide +kernel⟩⟩

set_option maxRecDepth 100000 in
theorem test_PartsBindIntoAPair_part2 :
    (∃ (frame body : Bytes) (s : State) (y : Instr × Nat), y ∈ ([(.bindReq frame, 0x40), (.bindResp frame, 0x41), (.bindConf
      frame, 0x42)] : List (Instr × Nat)) ∧ s.clasp.link = 4 ∧ s.modes.word.doze = false ∧ bound s = true ∧ claspNext s y.2
      frame body = true) ∧
    (∃ (frame : Bytes) (s : State) (y : Instr × Nat), y ∈ ([(.bindReq frame, 0x40), (.bindResp frame, 0x41), (.bindConf
      frame, 0x42)] : List (Instr × Nat)) ∧ s.clasp.link = 3 ∧ s.modes.word.doze = false ∧ claspForm y.2 frame = true ∧
      s.clasp.fails < 7 ∧ ((claspOpen s 3 frame = none ∨ claspFseq frame ≠ s.clasp.rxSeq + 1))) ∧
    (∃ (frame body : Bytes) (s : State) (y : Instr × Nat × Bool), y ∈ ([(.bindResp frame, 0x41, true), (.bindConf frame,
      0x42, false)] : List (Instr × Nat × Bool)) ∧ s.clasp.link = 3 ∧ s.modes.word.doze = false ∧ claspNext s y.2.1 frame body
      = true ∧ s.twin.binding.all (fun b => b.source == y.2.2) = true) ∧
    (∃ (frame body : Bytes) (b : Binding) (s : State), s.clasp.link = 3 ∧ s.modes.word.doze = false ∧ claspNext s 0x41 frame
      body = true ∧ s.twin.binding = some b ∧ b.source = false ∧
      (match ecdhOp p384 b.ephemeral body with | .done _ => false | _ => true) = true) ∧
    (∃ (frame body : Bytes) (b : Binding) (s : State), s.clasp.link = 3 ∧ s.modes.word.doze = false ∧ claspNext s 0x40 frame
      body = true ∧ body.length = 98 ∧ (body.getD 0 0).toNat = 1 ∧ s.twin.binding = some b ∧ b.source = true) ∧
    (∃ (frame body z : Bytes) (b : Binding) (s : State), s.clasp.link = 3 ∧ s.modes.word.doze = false ∧ claspNext s 0x41
      frame body = true ∧ s.twin.binding = some b ∧ b.source = false ∧ ecdhOp p384 b.ephemeral body = .done z) ∧
    (∃ (frame body : Bytes) (b : Binding) (s : State), s.clasp.link = 3 ∧ s.modes.word.doze = false ∧ claspNext s 0x42 frame
      body = true ∧ s.twin.binding = some b ∧ b.source = true ∧ b.key ≠ []) ∧
    (∃ (b : Binding) (s : State), s.twin.binding = some b ∧ b.due ≤ s.disp.tick) :=
  ⟨⟨claspIn 0x40 5 [], [], paired 4 true up, (.bindReq (claspIn 0x40 5 []), 0x40), by decide +kernel⟩,
   ⟨badClasp 0x40, unboundWith (some ofJoiner) 0 up, (.bindReq (badClasp 0x40), 0x40), by decide +kernel⟩,
   ⟨unboundIn 0x41 [1], [1], unboundWith (some (ofSource [])) 0 up, (.bindResp (unboundIn 0x41 [1]), 0x41, true),
     by decide +kernel⟩,
   ⟨unboundIn 0x41 [1], [1], ofJoiner, unboundWith (some ofJoiner) 0 up, by decide +kernel⟩,
   ⟨unboundIn 0x40 ([1] ++ basePointBytes), [1] ++ basePointBytes, ofSource [], unboundWith (some (ofSource [])) 0 up,
     by decide +kernel⟩,
   ⟨unboundIn 0x41 basePointBytes, basePointBytes, joinedSecret, ofJoiner, unboundWith (some ofJoiner) 0 up,
     by decide +kernel⟩,
   ⟨unboundIn 0x42 [], [], ofSource (natLE 32 5), unboundWith (some (ofSource (natLE 32 5))) 0 up, by decide +kernel⟩,
   ⟨ofSource [], unboundWith (some (ofSource [])) 0 up, by decide +kernel⟩⟩

theorem test_PartsBindIntoAPair_part3 :
    (∃ (s : State), s.twin.binding.all (fun b => decide (s.disp.tick < b.due)) = true) :=
  ⟨up, by decide +kernel⟩

set_option maxRecDepth 100000 in
theorem test_RecordsAppliedAndCopiesMade_part1 :
    (∃ (frame body content : Bytes) (kind : Nat) (u : State) (pages : List (Store × Nat)) (event : Nat) (s : State), inBound
      s = true ∧ claspNext s 0x20 frame body = true ∧ standbyNow s = true ∧ 2 ≤ s.twin.sync ∧ kind < 256 ∧ content.length <
      4096 ∧ s.twin.processed + 1 < 2 ^ 64 ∧ body = replRecord (s.twin.processed + 1) kind content ∧ applyRecord kind content
      (acceptClasp frame s) = some (u, pages, event)) ∧
    (∃ (frame body content : Bytes) (kind n : Nat) (s : State), inBound s = true ∧ claspNext s 0x20 frame body = true ∧
      standbyNow s = true ∧ 2 ≤ s.twin.sync ∧ kind < 256 ∧ content.length < 4096 ∧ n < 2 ^ 64 ∧ body = replRecord n kind
      content ∧ s.twin.processed + 1 < n) ∧
    (∃ (frame body content : Bytes) (kind n : Nat) (s : State), inBound s = true ∧ claspNext s 0x20 frame body = true ∧
      standbyNow s = true ∧ 2 ≤ s.twin.sync ∧ kind < 256 ∧ content.length < 4096 ∧ n < 2 ^ 64 ∧ body = replRecord n kind
      content ∧ n ≤ s.twin.processed) ∧
    (∃ (frame body content : Bytes) (kind : Nat) (u : State) (pages : List (Store × Nat)) (event : Nat) (s : State), inBound
      s = true ∧ claspNext s 0x31 frame body = true ∧ standbyNow s = true ∧ 2 ≤ s.twin.sync ∧ kind < 256 ∧ content.length <
      4096 ∧ s.twin.processed + 1 < 2 ^ 64 ∧ body = replRecord (s.twin.processed + 1) kind content ∧ applyRecord kind content
      (acceptClasp frame s) = some (u, pages, event)) ∧
    (∃ (frame body : Bytes) (s : State) (y : Instr × Nat), y ∈ ([(.repl frame, 0x20), (.resyncData frame, 0x31), (.resyncEnd
      frame, 0x32)] : List (Instr × Nat)) ∧ inBound s = true ∧ claspNext s y.2 frame body = true ∧ standbyNow s = false) ∧
    (∃ (frame body : Bytes) (s : State), inBound s = true ∧ claspNext s 0x30 frame body = true ∧ activeNow s = false) ∧
    (∃ (frame body : Bytes) (s : State), inBound s = true ∧ claspNext s 0x32 frame body = true ∧ standbyNow s = true ∧
      s.twin.sync = 2 ∧ ((appliedNow s ≠ s.twin.applied ∨ leNat (body.take 4) = 0 ∨ s.twin.applied < leNat (body.take 4)))) ∧
    (∃ (frame body : Bytes) (s : State), inBound s = true ∧ claspNext s 0x32 frame body = true ∧ standbyNow s = true ∧
      s.twin.sync = 2 ∧ appliedNow s = s.twin.applied ∧ leNat (body.take 4) ≠ 0 ∧ leNat (body.take 4) ≤ s.twin.applied) :=
  ⟨⟨claspIn 0x20 5 (replRecord 4 3 counterRecord), replRecord 4 3 counterRecord, counterRecord, 3, appliedTo 0x20, [], 0,
     withSlot (following 2 3 up), by decide +kernel⟩,
   ⟨claspIn 0x20 5 (replRecord 6 3 counterRecord), replRecord 6 3 counterRecord, counterRecord, 3, 6, withSlot (following 2
     3 up), by decide +kernel⟩,
   ⟨claspIn 0x20 5 (replRecord 2 3 counterRecord), replRecord 2 3 counterRecord, counterRecord, 3, 2, withSlot (following 2
     3 up), by decide +kernel⟩,
   ⟨claspIn 0x31 5 (replRecord 4 3 counterRecord), replRecord 4 3 counterRecord, counterRecord, 3, appliedTo 0x31, [], 0,
     withSlot (following 2 3 up), by decide +kernel⟩,
   ⟨claspIn 0x20 5 [], [], paired 4 true up, (.repl (claspIn 0x20 5 []), 0x20), by decide +kernel⟩,
   ⟨claspIn 0x30 5 [], [], paired 4 false up, by decide +kernel⟩,
   ⟨claspIn 0x32 5 (natLE 4 9), natLE 4 9, following 2 3 up, by decide +kernel⟩,
   ⟨claspIn 0x32 5 (natLE 4 3), natLE 4 3, following 2 3 up, by decide +kernel⟩⟩

set_option maxRecDepth 100000 in
theorem test_RecordsAppliedAndCopiesMade_part2 :
    (∃ (frame body : Bytes) (s : State), inBound s = true ∧ claspNext s 0x30 frame body = true ∧ activeNow s = true) ∧
    (∃ (s : State) (n : Nat) (content : Bytes), n < slotCount s ∧ (getSlot s n).state = .valid ∧ content.length = 4) :=
  ⟨⟨claspIn 0x30 5 [], [], withSlot (paired 4 true up), by decide +kernel⟩,
   ⟨slotted .valid, 4, natLE 4 77, by decide +kernel⟩⟩

set_option maxRecDepth 100000 in
theorem test_DomainsFoundedSponsoredJoinedLeft_part1 :
    (∃ (src : Src) (s : State) (p : Path), reaches src [1] s p 0x7100 3 [1] = true ∧ foundResult s = 0 ∧ reserveCovers s 40
      = true) ∧
    (∃ (src : Src) (s : State), foundResult s = 0 ∧ reserveCovers s 40 = false) ∧
    (∃ (src : Src) (s : State), sponsorResult s = 0 ∧ reserveCovers s 56 = false) ∧
    (∃ (src : Src) (s : State) (p : Path) (r : Nat), reaches src [1] s p 0x7100 3 [1] = true ∧ foundResult s = r ∧ r ≠ 0) ∧
    (∃ (src : Src) (s : State) (p : Path), reaches src [2] s p 0x7100 3 [2] = true ∧ sponsorResult s = 0 ∧ reserveCovers s
      56 = true) ∧
    (∃ (src : Src) (s : State) (p : Path) (r : Nat), reaches src [2] s p 0x7100 3 [2] = true ∧ sponsorResult s = r ∧ r ≠ 0) ∧
    (∃ (src : Src) (s : State) (p : Path), reaches src [3] s p 0x7100 3 [3] = true ∧ domainMode s = false ∧ vaultSlot s 1 =
      none) ∧
    (∃ (src : Src) (s : State) (p : Path) (r : Nat), reaches src [3] s p 0x7100 3 [3] = true ∧ ((domainMode s = true ∧ r = 2
      ∨ domainMode s = false ∧ (vaultSlot s 1).isSome = true ∧ r = 1))) :=
  ⟨⟨.write .custody, founding [], .custody, by decide +kernel⟩,
   ⟨.write .custody, unfilled (founding []), by decide +kernel⟩,
   ⟨.write .custody, unfilled (founding domainKey), by decide +kernel⟩,
   ⟨.write .custody, founding domainKey, .custody, 1, by decide +kernel⟩,
   ⟨.write .custody, founding domainKey, .custody, by decide +kernel⟩,
   ⟨.write .custody, founding [], .custody, 1, by decide +kernel⟩,
   ⟨.write .custody, founding [], .custody, by decide +kernel⟩,
   ⟨.write .custody, founding domainKey, .custody, 1, by decide +kernel⟩⟩

set_option maxRecDepth 100000 in
theorem test_DomainsFoundedSponsoredJoinedLeft_part2 :
    (∃ (src : Src) (s : State) (p : Path), reaches src [4] s p 0x7100 3 [4] = true ∧ domainMode s = false ∧ (vaultSlot s
      1).isSome = true) ∧
    (∃ (src : Src) (s : State) (p : Path), reaches src [4] s p 0x7100 3 [4] = true ∧ domainMode s = false ∧ vaultSlot s 1 =
      none) ∧
    (∃ (src : Src) (s : State) (p : Path), reaches src [4] s p 0x7100 3 [4] = true ∧ domainMode s = true) :=
  ⟨⟨.write .custody, founding domainKey, .custody, by decide +kernel⟩,
   ⟨.write .custody, founding [], .custody, by decide +kernel⟩,
   ⟨.write .custody, pairedDomain, .custody, by decide +kernel⟩⟩

set_option maxRecDepth 100000 in
theorem test_ResetsKeepAndClear :
    (∃ (pulse : Nat) (taken : Bool) (s : State), (1000 ≤ pulse ∨ (100 ≤ pulse ∧ taken = true)) ∧ s.mram.erases = [] ∧
      s.life.transition = none) ∧
    (∃ (pulse : Nat) (taken : Bool) (s : State), (pulse < 100 ∨ (pulse < 1000 ∧ taken = false))) ∧
    (∃ (torn : Option (Nat × Nat)) (s : State), s.mram.current = none ∧ s.mram.erases = []) ∧
    (∃ (torn : Option (Nat × Nat)) (w : PageWrite) (q : Nat) (s : State), s.mram.current = some w ∧ s.mram.erases = [] ∧
      physical s (updateTarget s w).1 = q) ∧
    (∃ (old new : Page) (k how i : Nat), old.seq < 2 ^ 32 ∧ old.crc < 2 ^ 32 ∧ old.payload.length = 504 ∧ new.seq < 2 ^ 32 ∧
      new.crc < 2 ^ 32 ∧ new.payload.length = 504 ∧ k < 64 ∧ i < 64) ∧
    (∃ (s : State), decoded s = true ∧ s.modes.word.doze = false ∧ s.boot.watchdogAt + 33 ≤ s.sec.deviceTime.toNat) ∧
    (∃ (s : State), (decoded s = false ∨ s.modes.word.doze = true ∨ s.sec.deviceTime.toNat < s.boot.watchdogAt + 33)) :=
  ⟨⟨1000, false, slotted .valid, by decide +kernel⟩,
   ⟨999, false, slotted .valid, by decide +kernel⟩,
   ⟨none, slotted .valid, by decide +kernel⟩,
   ⟨some (3, 2), pw .config 5 false, physical (writing (pw .config 5 false) up) (updateTarget (writing (pw .config 5 false)
     up) (pw .config 5 false)).1, writing (pw .config 5 false) up, by decide +kernel⟩,
   ⟨⟨3, 4, zeros 504, false⟩, ⟨4, 9, List.replicate 504 1, false⟩, 63, 2, 0, by decide +kernel⟩,
   ⟨{ stagedUp with sec := { up.sec with deviceTime := 33 } }, by decide +kernel⟩,
   ⟨{ stagedUp with sec := { up.sec with deviceTime := 32 } }, by decide +kernel⟩⟩

set_option maxRecDepth 100000 in
theorem test_StartUpRunsItsSteps_part1 :
    (∃ (a : Nat × Bool) (rest : List (Nat × Bool)) (s : State), s.boot.phase = .inReset ∧ s.mram.current = none ∧
      s.sec.sigValue ≠ 0 ∧ s.sec.sigComplement = ~~~s.sec.sigValue ∧ failingBanks s [] = []) ∧
    (∃ (a : Nat × Bool) (rest : List (Nat × Bool)) (s : State), s.boot.phase = .inReset ∧ s.mram.current = none ∧
      s.sec.sigValue = 0 ∧ decodeLife (lifeWord s) = .blank ∧ failingBanks s [] = []) ∧
    (∃ (a : Nat × Bool) (rest : List (Nat × Bool)) (s : State), s.boot.phase = .inReset ∧ s.mram.current = none ∧
      s.sec.sigValue = 0 ∧ decodeLife (lifeWord s) = .production ∧ s.life.state = .production ∧ failingBanks s [] = []) ∧
    (∃ (b : Nat) (misread : List (Nat × Nat)) (a : Nat × Bool) (rest : List (Nat × Bool)) (s : State), s.boot.phase =
      .inReset ∧ s.mram.current = none ∧ s.sec.sigValue ≠ 0 ∧ s.sec.sigComplement = ~~~s.sec.sigValue ∧ failingBanks s misread
      = [b] ∧ freshFatal s (faultCode 3 0x11 1) = true) ∧
    (∃ (a : Nat × Bool) (rest : List (Nat × Bool)) (misread : List (Nat × Nat)) (s : State), (s.boot.phase ≠ .inReset ∨
      s.mram.current.isSome = true)) ∧
    (∃ (a b : Nat × Bool) (misread : List (Nat × Nat)) (s : State), a ≠ b) ∧
    (∃ (r : StartReport) (s : State), s.boot.phase = .released ∧ s.fuses.badBanks ≠ []) ∧
    (∃ (spares : Nat) (s : State), s.boot.phase = .released ∧ s.fuses.badBanks = [] ∧ s.tamper.live = 0 ∧ (loadTables s =
      { s with access := { s.access with loaded := true } }) ∧ s.mram.pages = [] ∧ decodeLife (lifeWord s) = .production) :=
  ⟨⟨(3, true), [], signed 5 State.reset, by decide +kernel⟩,
   ⟨(3, true), [], unsigned (blankLife State.reset), by decide +kernel⟩,
   ⟨(3, true), [(1, false)], unsigned State.reset, by decide +kernel⟩,
   ⟨2, [(2, 0)], (3, true), [], signed 5 State.reset, by decide +kernel⟩,
   ⟨(3, true), [], [], up, by decide +kernel⟩,
   ⟨(3, true), (3, false), [], State.reset, by decide +kernel⟩,
   ⟨⟨[], 0, [], true, true, []⟩, { atPhase .released State.reset with fuses := { State.reset.fuses with badBanks := [2] } },
     by decide +kernel⟩,
   ⟨4, atPhase .released State.reset, by decide +kernel⟩⟩

set_option maxRecDepth 100000 in
theorem test_StartUpRunsItsSteps_part2 :
    (∃ (spares : Nat) (s : State), s.boot.phase = .released ∧ s.fuses.badBanks = [] ∧ s.tamper.live = 0 ∧ (loadTables s =
      { s with access := { s.access with loaded := true } }) ∧ s.mram.pages = [] ∧ decodeLife (lifeWord s) = .blank) ∧
    (∃ (r : StartReport) (s : State), s.boot.phase ≠ .released) ∧
    (∃ (s : State), s.boot.phase = .seeding ∧ s.boot.counterDurable = true ∧ debugSettled s = true ∧ s.rng.katPassed = true
      ∧ seedReady s = true) ∧
    (∃ (s : State), (s.boot.phase ≠ .seeding ∨ s.boot.counterDurable = false ∨ s.rng.katPassed = false ∨ debugSettled s =
      false ∨ seedReady s = false)) ∧
    (∃ (s : State), s.boot.phase = .loading ∧ fatalOpen s = false ∧ s.log.tailFound = true ∧ bootRecorded s = true ∧
      s.life.state ≠ .endOfLife ∧ attestReady s = true ∧ vaultSlot s 0 ≠ none ∧ usedPages s .keys = []) ∧
    (∃ (s : State), s.boot.phase = .loading ∧ fatalOpen s = false ∧ s.log.tailFound = true ∧ bootRecorded s = true ∧
      s.life.state = .endOfLife) ∧
    (∃ (s : State), (s.boot.phase ≠ .loading ∨ fatalOpen s = true)) :=
  ⟨⟨4, blankLife (atPhase .released State.reset), by decide +kernel⟩,
   ⟨⟨[], 0, [], true, true, []⟩, up, by decide +kernel⟩,
   ⟨seeding_, by decide +kernel⟩,
   ⟨up, by decide +kernel⟩,
   ⟨ended_ .production, by decide +kernel⟩,
   ⟨ended_ .endOfLife, by decide +kernel⟩,
   ⟨up, by decide +kernel⟩⟩

set_option maxRecDepth 100000 in
theorem test_TimeCountsAndTelemetryIsRead_part1 :
    (∃ (s : State), s.modes.wakeTimer.all (fun at_ => decide ((s.sec.deviceTime + 1).toNat < at_)) = true) ∧
    (∃ (at_ : Nat) (s : State), s.modes.wakeTimer = some at_ ∧ at_ ≤ (s.sec.deviceTime + 1).toNat ∧ s.modes.word.doze =
      true) ∧
    (∃ (power : Nat) (s : State), targetAnswers s = true ∧ s.energy.temps ≠ [] ∧ s.modes.word.doze = false) ∧
    (∃ (power : Nat) (s : State), targetAnswers s = true ∧ ((s.energy.temps = [] ∨ (s.modes.word.doze = true ∧
      s.modes.word.dozeDepth = 2)))) ∧
    (∃ (power : Nat) (s : State), targetAnswers s = true) ∧
    (∃ (power : Nat) (s : State), targetAnswers s = false) ∧
    (∃ (s : State), targetAnswers s = true) ∧
    (∃ (s : State), targetAnswers s = true) :=
  ⟨⟨up, by decide +kernel⟩,
   ⟨0, timedDoze, by decide +kernel⟩,
   ⟨190, hot 191 false, by decide +kernel⟩,
   ⟨190, up, by decide +kernel⟩,
   ⟨190, hot 186 true, by decide +kernel⟩,
   ⟨190, unheard, by decide +kernel⟩,
   ⟨hot 191 false, by decide +kernel⟩,
   ⟨hot 191 false, by decide +kernel⟩⟩

set_option maxRecDepth 100000 in
theorem test_TimeCountsAndTelemetryIsRead_part2 :
    (∃ (s : State), targetAnswers s = true) ∧
    (∃ (s : State), targetAnswers s = true ∧ s.pins.smbAlertN = false) ∧
    (∃ (s : State) (i : Instr), i ∈ ([.smbusTemperature, .smbusPower, .smbusStatus] : List Instr) ∧ targetAnswers s = false) ∧
    (∃ (s : State), (targetAnswers s = false ∨ s.pins.smbAlertN = true)) :=
  ⟨⟨hot 191 false, by decide +kernel⟩,
   ⟨hot 191 true, by decide +kernel⟩,
   ⟨unheard, .smbusTemperature, by decide +kernel⟩,
   ⟨hot 191 false, by decide +kernel⟩⟩

set_option maxRecDepth 100000 in
theorem test_DebugPortObeyedOnlyWhileOpen_part1 :
    (∃ (b : Bool) (tdi : List Bool) (s : State), portOpen s = true) ∧
    (∃ (s : State), portOpen s = true) ∧
    (∃ (levels preload : Bytes) (s : State), portOpen s = true) ∧
    (∃ (s : State), portOpen s = true ∧ s.modes.word.service = false) ∧
    (∃ (s : State), portOpen s = true ∧ s.modes.word.service = false) ∧
    (∃ (s : State), (s.modes.word.service = true ∨ portOpen s = false)) ∧
    (∃ (s : State), (s.modes.word.service = true ∨ portOpen s = false)) ∧
    (∃ (k : Nat) (s : State), portOpen s = true ∧ k < coreCount s) :=
  ⟨⟨true, [true, false], debugging, by decide +kernel⟩,
   ⟨debugging, by decide +kernel⟩,
   ⟨[1], [2], debugging, by decide +kernel⟩,
   ⟨debugging, by decide +kernel⟩,
   ⟨debugging, by decide +kernel⟩,
   ⟨serving, by decide +kernel⟩,
   ⟨up, by decide +kernel⟩,
   ⟨3, debugging, by decide +kernel⟩⟩

set_option maxRecDepth 100000 in
theorem test_DebugPortObeyedOnlyWhileOpen_part2 :
    (∃ (k : Nat) (s : State), portOpen s = true ∧ k < coreCount s ∧ isWithdrawn 9 k s = false) ∧
    (∃ (k : Nat) (s : State) (i : Instr), i ∈ ([.deviceSpecificInstruction (.halt k), .deviceSpecificInstruction (.resume
      k)] : List Instr) ∧ coreCount s ≤ k) ∧
    (∃ (addr len : Nat) (s : State), portOpen s = true ∧ 0 < len ∧ 0x30000000 ≤ addr ∧ addr + len ≤ 0x30000000 + 0x40000 *
      coreCount s ∧ (transfers addr len).all (fun p => accessPasses s 11 4 p.1 0) = true) ∧
    (∃ (addr : Nat) (data : Bytes) (s : State), portOpen s = true ∧ data ≠ [] ∧ 0x30000000 ≤ addr ∧ addr + data.length ≤
      0x30000000 + 0x40000 * coreCount s ∧ (transfers addr data.length).all (fun p => accessPasses s 11 4 p.1 1) = true) ∧
    (∃ (addr len target : Nat) (s : State), portOpen s = true ∧ 0 < len ∧ addr % 4096 + len ≤ 4096 ∧ internalTarget s addr =
      some target ∧ accessPasses s 11 target addr 0 = false) ∧
    (∃ (addr p : Nat) (data : Bytes) (s : State), portOpen s = true ∧ data.length = 4096 + p ∧ p = 4096 - addr % 4096 ∧
      0x30000000 ≤ addr ∧ addr + data.length ≤ 0x30000000 + 0x40000 * coreCount s ∧ accessPasses s 11 4 addr 1 = false ∧
      accessPasses s 11 4 (addr + p) 1 = true) ∧
    (∃ (addr len : Nat) (s : State), portOpen s = true ∧ internalTarget s addr = none ∧ 0 < len ∧ addr % 4096 + len ≤ 4096) ∧
    (∃ (bank : Nat) (data : Bytes) (s : State), portOpen s = true ∧ s.life.state = .blank ∧ bankLength bank ≠ 0 ∧
      data.length = bankLength bank + 4) :=
  ⟨⟨3, debugging, by decide +kernel⟩,
   ⟨1000, debugging, .deviceSpecificInstruction (.halt 1000), by decide +kernel⟩,
   ⟨0x30000000, 4096, mapped debugging, by decide +kernel⟩,
   ⟨0x30000FFF, [7], mapped debugging, by decide +kernel⟩,
   ⟨0, 4, 0, mapped debugging, by decide +kernel⟩,
   ⟨0x30000FFE, 2, List.replicate 4098 9, halfMapped, by decide +kernel⟩,
   ⟨0x38000000, 4, mapped debugging, by decide +kernel⟩,
   ⟨5, List.replicate 516 3, debugBlank, by decide +kernel⟩⟩

set_option maxRecDepth 100000 in
theorem test_DebugPortObeyedOnlyWhileOpen_part3 :
    (∃ (bank : Nat) (data : Bytes) (s : State), portOpen s = true ∧ ((s.life.state ≠ .blank ∨ bankLength bank = 0 ∨
      data.length ≠ bankLength bank + 4))) ∧
    (∃ (old data : Bytes) (i : Nat), i < old.length ∧ i < data.length) ∧
    (∃ (tdi : List Bool) (s : State), portOpen s = false) ∧
    (∃ (s : State), portOpen s = false) ∧
    (∃ (levels preload : Bytes) (s : State), portOpen s = false) ∧
    (∃ (op : DebugOp) (s : State), portOpen s = false) :=
  ⟨⟨5, [], debugging, by decide +kernel⟩,
   ⟨[1], [2], 0, by decide +kernel⟩,
   ⟨[true], up, by decide +kernel⟩,
   ⟨up, by decide +kernel⟩,
   ⟨[], [], up, by decide +kernel⟩,
   ⟨.halt 0, up, by decide +kernel⟩⟩

/-! ### Witnesses of the rules of the whole machine -/

theorem test_StepKeepsTheInvariant : ∃ s t : State, Machine.Inv s ∧ step s = .next t ∧ s ≠ t :=
  ⟨{ State.reset with pending := [.powerSwitchover true] }, _, by unfold Machine.Inv; decide +kernel, rfl, by decide +kernel⟩

theorem test_ResetMeetsTheInvariant : Machine.Inv State.reset := by unfold Machine.Inv; decide +kernel

/-- A part whose life-cycle word decodes to INVALID, and one with the sticky flags `n`. -/
def invalidLife : State := { State.reset with life := { State.reset.life with state := .invalid } }
def stickyPart (n : Nat) : State := { State.reset with sec := { State.reset.sec with sticky := n } }

theorem test_LockCauseShowsTheStrongest :
    (∃ t, exec (.powerSwitchover true) invalidLife = .next t ∧ t.life.state = .invalid) ∧
    (∃ t, exec (.powerSwitchover true) (stickyPart 0x3FF) = .next t ∧ t.life.state ≠ .invalid ∧
      ∃ n, tamperClass n = 2 ∧ t.sec.sticky.testBit n = true) ∧
    (∃ t, exec (.powerSwitchover true) (stickyPart 0x40) = .next t ∧ t.life.state ≠ .invalid ∧ t.sec.sticky ≠ 0 ∧
      ∀ n < 10, tamperClass n = 2 → t.sec.sticky.testBit n = false) :=
  ⟨⟨_, rfl, by decide +kernel⟩, ⟨_, rfl, by decide +kernel, 0, by decide +kernel⟩,
   ⟨_, rfl, by decide +kernel, by decide +kernel, by decide +kernel⟩⟩

theorem test_ModePairsAndPinsAfterEveryCommand :
    (∃ t, exec (.powerSwitchover true) State.reset = .next t ∧ portOpen t = false) ∧
    (∃ t, exec (.powerSwitchover true) State.reset = .next t ∧ modesLegal t.modes.word = true) :=
  ⟨⟨_, rfl, by decide +kernel⟩, ⟨_, rfl, by decide +kernel⟩⟩

theorem test_StepRunsTheFrontCommand : State.reset.pending = [] := rfl

theorem test_LifeCycleDecodesToTheNearestCodeword :
    (decodeLife (codeword .test ^^^ 7) = .test ∧ weight (codeword .test ^^^ 7 ^^^ codeword .test) ≤ 3) ∧
    (decodeLife (codeword .test ^^^ 15) = .invalid ∧
      ∀ a ∈ [LifeCycle.blank, .test, .production, .endOfLife], 3 < weight (codeword .test ^^^ 15 ^^^ codeword a)) := by
  decide +kernel

theorem test_ModesUndoThemselves :
    (∃ (key nonce : Bytes) (n : Nat), key.length ∈ [16, 24, 32] ∧ nonce.length = 12 ∧ n ≤ 16 ∧
      ∃ tag : Bytes, tag.length = n ∧ tag ≠ (gcmSeal key nonce [] [1] n).2) ∧
    (∃ (key nonce : Bytes) (n : Nat), key.length ∈ [16, 24, 32] ∧ nonce.length = 12 ∧ n ≤ 16 ∧
      ∃ tag : Bytes, tag.length = n ∧ tag ≠ (ccmSeal key nonce [] [1] n).2) ∧
    (∃ (radix : Nat) (x : List Nat), 2 ≤ radix ∧ ∀ d ∈ x, d < radix) ∧ (∃ b : Nat, 0 < b ∧ b < 256) :=
  ⟨⟨zeros 16, zeros 12, 16, by decide +kernel, by decide +kernel, by decide +kernel, zeros 16, by decide +kernel, by decide +kernel⟩,
   ⟨zeros 32, zeros 12, 8, by decide +kernel, by decide +kernel, by decide +kernel, zeros 8, by decide +kernel, by decide +kernel⟩,
   ⟨10, [0, 9, 5, 3], by decide +kernel⟩, ⟨255, by decide +kernel⟩⟩

/-! ### Commands whose operands do not fit, each refused by WellFormed, and one that fits -/

theorem test_well_formed : Sys2Proof.Instr.wellFormed (.nop 16383 95) = true ∧ Sys2Proof.Instr.wellFormed (.rndrd 15 31) = true := by
  decide +kernel

theorem test_ill_formed_chain : Sys2Proof.Instr.wellFormed (.nop 16384 0) = false := by decide +kernel
theorem test_ill_formed_link : Sys2Proof.Instr.wellFormed (.nop 0 96) = false := by decide +kernel
theorem test_ill_formed_port : Sys2Proof.Instr.wellFormed (.grantReturn 2) = false := by decide +kernel
theorem test_ill_formed_function : Sys2Proof.Instr.wellFormed (.msixUnmask 1025 0 0 0) = false := by decide +kernel
theorem test_ill_formed_queue_pair : Sys2Proof.Instr.wellFormed (.moderationTimerExpiry 65536) = false := by decide +kernel
theorem test_ill_formed_slot : Sys2Proof.Instr.wellFormed (.floorWrite 262144) = false := by decide +kernel
theorem test_ill_formed_pair : Sys2Proof.Instr.wellFormed (.yieldPoint true 32 true) = false := by decide +kernel
theorem test_ill_formed_core : Sys2Proof.Instr.wellFormed (.tret 16) = false := by decide +kernel
theorem test_ill_formed_register : Sys2Proof.Instr.wellFormed (.rndrd 0 32) = false := by decide +kernel
theorem test_ill_formed_csr : Sys2Proof.Instr.wellFormed (.csrr 0 1 4096) = false := by decide +kernel
theorem test_ill_formed_width : Sys2Proof.Instr.wellFormed (.coreLoad 0 1 0 3) = false := by decide +kernel
theorem test_ill_formed_host_write : Sys2Proof.Instr.wellFormed (.doorbell ⟨1, 0xFFFC, none, zeros 8⟩) = false := by decide +kernel
theorem test_ill_formed_mail_slot : Sys2Proof.Instr.wellFormed (.odRead 0 16) = false := by decide +kernel
theorem test_ill_formed_source : Sys2Proof.Instr.wellFormed (.commit (.message 0 16)) = false := by decide +kernel
theorem test_ill_formed_value : Sys2Proof.Instr.wellFormed (.stageChunk (.write .custody) (zeros 1025)) = false := by decide +kernel
theorem test_ill_formed_frame : Sys2Proof.Instr.wellFormed (.close ⟨zeros 5, zeros 6, [], 0x88B5⟩) = false := by decide +kernel
theorem test_ill_formed_clasp : Sys2Proof.Instr.wellFormed (.ack (zeros 35)) = false := by decide +kernel
theorem test_ill_formed_report : Sys2Proof.Instr.wellFormed (.pllLock ⟨[], 0, [10], true, true, []⟩) = false := by decide +kernel
theorem test_ill_formed_debug_op : Sys2Proof.Instr.wellFormed (.deviceSpecificInstruction (.halt 16)) = false := by decide +kernel
theorem test_ill_formed_owner : Sys2Proof.Instr.wellFormed (.revocationComplete 65536) = false := by decide +kernel
theorem test_ill_formed_stream : Sys2Proof.Instr.wellFormed (.ideStreamNotSecure 8) = false := by decide +kernel
theorem test_ill_formed_vf : Sys2Proof.Instr.wellFormed (.functionReset 0) = false := by decide +kernel
theorem test_ill_formed_noise_source : Sys2Proof.Instr.wellFormed (.healthTestWindow 4) = false := by decide +kernel
theorem test_ill_formed_timer : Sys2Proof.Instr.wellFormed (.firmwareTimerDue 0 8) = false := by decide +kernel
theorem test_ill_formed_engine : Sys2Proof.Instr.wellFormed (.testRegionStart 8) = false := by decide +kernel
theorem test_ill_formed_tamper_source : Sys2Proof.Instr.wellFormed (.tamperSource 10 true) = false := by decide +kernel
theorem test_ill_formed_detector : Sys2Proof.Instr.wellFormed (.lightDetectorDisagreement 2) = false := by decide +kernel
theorem test_ill_formed_input : Sys2Proof.Instr.wellFormed (.presenceReleased 2) = false := by decide +kernel
theorem test_ill_formed_lanes : Sys2Proof.Instr.wellFormed (.claspLinkUp 5) = false := by decide +kernel
theorem test_ill_formed_seed : Sys2Proof.Instr.wellFormed (.batteryReset 0 []) = false := by decide +kernel
theorem test_ill_formed_completion : Sys2Proof.Instr.wellFormed (.completionWrite (some 16384)) = false := by decide +kernel
theorem test_ill_formed_bank : Sys2Proof.Instr.wellFormed (.deviceSpecificInstruction (.program 8 [])) = false := by decide +kernel
theorem test_ill_formed_ports : Sys2Proof.Instr.wellFormed (.chainAdmission 3) = false := by decide +kernel
theorem test_ill_formed_access : Sys2Proof.Instr.wellFormed (.deviceSpecificInstruction (.read 0xFFFFFFFFF 2)) = false := by decide +kernel
theorem test_ill_formed_ether_type : Sys2Proof.Instr.wellFormed (.close ⟨zeros 6, zeros 6, [], 65536⟩) = false := by decide +kernel

/-! ### Known answers, each from the published document that its comment names -/

/-- FIPS 197, appendix C.1 (AES-128). -/
theorem test_aes_known : aesEncrypt (natBE 16 0x000102030405060708090A0B0C0D0E0F) (natBE 16 0x00112233445566778899AABBCCDDEEFF) =
    natBE 16 0x69C4E0D86A7B0430D8CDB78070B4C55A := by decide +kernel

/-- FIPS 197, appendix C.3 (AES-256), the inverse cipher. -/
theorem test_aes256_known :
    aesDecrypt (natBE 32 0x000102030405060708090A0B0C0D0E0F101112131415161718191A1B1C1D1E1F)
      (natBE 16 0x8EA2B7CA516745BFEAFC49904B496089) = natBE 16 0x00112233445566778899AABBCCDDEEFF := by decide +kernel

/-- The worked DES example of the textbooks (key 133457799BBCDFF1). -/
theorem test_des_known : desEncrypt (natBE 8 0x133457799BBCDFF1) (natBE 8 0x0123456789ABCDEF) = natBE 8 0x85E813540F0AB405 := by
  decide +kernel

/-- FIPS 180-4 example: SHA-256 of the three letters abc. -/
theorem test_sha256_known :
    sha256 (ascii "abc") = natBE 32 0xBA7816BF8F01CFEA414140DE5DAE2223B00361A396177A9CB410FF61F20015AD := by decide +kernel

/-- FIPS 202 example: SHA3-256 of the empty message. -/
theorem test_sha3_known :
    sha3_256 [] = natBE 32 0xA7FFC6F8BF1ED76651C14756A061D662F580FF4DE43B49FA82D80A4B80F8434A := by decide +kernel

/-- The GCM specification of McGrew and Viega, test case 2. -/
theorem test_gcm_known : gcmSeal (zeros 16) (zeros 12) [] (zeros 16) 16 =
    (natBE 16 0x0388DACE60B6A392F328C2B971B2FE78, natBE 16 0xAB6E47D42CEC13BDF53A67B21257BDDF) := by decide +kernel

/-- RFC 3720, appendix B.4, gives the CRC-32C of 32 bytes of zeros. -/
theorem test_crc_known : crc32c (zeros 32) = 0x8A9136AA := by decide +kernel

/-- The order of P-256 (FIPS 186) takes its base point to the point at infinity. -/
theorem test_p256_order : ecMul p256 p256.n (basePoint p256) = none := by decide +kernel

/-- RFC 7748, section 5.2, the first vector. -/
theorem test_x25519_known :
    x25519 (natBE 32 0xA546E36BF0527C9D3B16154B82465EDD62144C0AC1FC5A18506A2244BA449AC4)
      (natBE 32 0xE6DB6867583030DB3594C1A424B15F7C726624EC26B3353B10A903A6D0AB1C4C) =
      natBE 32 0xC3DA55379DE9C6908E94EA4DF28D084F32ECCF03491C71F754B4075577A28552 := by decide +kernel

end Sys2Proof.Tests
end

section
/-!
The statements about the architecture as a whole (R20).
-/
namespace Sys2Proof.Machine

/-- POWER_SWITCHOVER (R20) names the supply, and then the end of every command follows. -/
theorem exec_powerSwitchover (toMain : Bool) (s : State) :
    exec (.powerSwitchover toMain) s = complete { s with sec := { s.sec with onMain := toMain } } := rfl

/-- Settles O57: the command's own effect is on `onMain` alone, and the end of a command leaves the security die's registers and
the key store as they are. -/
theorem switchoverLosesNothing : Obligations.SwitchoverLosesNothing := by
  unfold Obligations.SwitchoverLosesNothing
  intro toMain s
  refine ⟨settle { s with sec := { s.sec with onMain := toMain } }, exec_powerSwitchover toMain s, ?_⟩
  simp only [settle_sec, settle_keys, and_self]

end Sys2Proof.Machine
end

section
/-!
The statement about LOCK_CAUSE (R34), and what it rests on: every command ends in the end of every command, whose update of the Mode
Word gives LOCKED and its cause as the sticky flags and the life-cycle state then stand.
-/
namespace Sys2Proof.Machine

/-! ### Every meaning ends in the end of every command -/

/-- The outcome of a command that has had its effect: the end of every command follows it, and nothing else does. -/
def Completes (o : Host.Outcome State Fault Refusal) : Prop := ∃ u, o = complete u

theorem completes_complete (u : State) : Completes (complete u) := ⟨u, rfl⟩

theorem completes_ite {p : Prop} [Decidable p] {a b : Host.Outcome State Fault Refusal} (ha : Completes a)
    (hb : Completes b) : Completes (if p then a else b) := by
  split
  · exact ha
  · exact hb

theorem completes_runWaitGroup (i : Instr) (s : State) : Completes (runWaitGroup i s) := by
  unfold runWaitGroup
  split
  all_goals exact completes_complete _

theorem completes_execInstructionFetch (core wrongPath fills : Nat) (missed : Bool) (fetched : Fetched) (s : State) :
    Completes (execInstructionFetch core wrongPath fills missed fetched s) := by
  unfold execInstructionFetch
  refine completes_ite (completes_complete _) (completes_ite (completes_complete _) ?_)
  split
  · exact completes_runWaitGroup _ _
  · exact completes_complete _

/-- Whatever a meaning tests and whatever it looks up, each of its branches completes. Unfolded by name are the meanings that
look something up (a read, a Link, a time that is due, an open record) and branch on what they find; the others only test. -/
theorem completes_exec (c : Instr) (s : State) : Completes (exec c s) := by
  cases c
  case instructionFetch => exact completes_execInstructionFetch _ _ _ _ _ s
  all_goals
    simp only [exec, execSubmissionFetchCompletion, execFetchTimeout, execDescriptorFetchCompletion, execInputFetchCompletion,
        execGrantReturn, execDelay, execX9143Import, execDomainImport, execUnwrapToKeyBuffer, execGenerate, execDelete,
        execYieldPoint, execChainWriteBack, execCompletionWrite, execModerationTimerExpiry, execChainExpiry,
        execDrawCorrectionUpdate, execTemplateBodyFetch, execSlotLockLeaseExpiry, execIdeCheckFailure, execMailboxSubmit,
        execMailboxSlotFree, execReseed, execGenerateCall, execEventDelivery, execWaitTimeout, execAllWaitingDetectorFire,
        execFirmwareTimerDue, execAbortAckTimeout, execEccUncorrectable, execKnownAnswerTestEnd, execTestRegionStart,
        execTestRegionEnd, execTestRegionOverdue, execPageWriteDurable, execStageDmaData, execStagingTimeout,
        execDoubleDecisionSecond, execLightDetectorDisagreement, execArmingComplete, execLifeCycleTransition,
        execFuseBitBlown, execPostCeremonyReset, execFatalEscalation, execHoldTimeout, execEnrolReq, execEnrolConf,
        execHelloConf, execBindTimeout, execReleaseDrainEnd, execResetRelease, execSingleBitError, execParityError,
        execMailboxBodyWrite, execEnrolConfTimeout, execRegionEraseEnd]
    repeat' split
    all_goals
      repeat' apply completes_ite
      all_goals exact completes_complete _

/-- What holds of every state at the end of a command holds after every command. -/
theorem after_exec {P : State → Prop} (hP : ∀ u, P (settle u)) {c : Instr} {s t : State} (h : exec c s = .next t) : P t := by
  obtain ⟨u, hu⟩ := completes_exec c s
  cases hu.symm.trans h
  exact hP u

/-! ### The Mode Word at the end of a command -/

theorem updateModes_word (s : State) : (updateModes s).modes.word = modeWordNow s := by
  unfold updateModes
  dsimp only
  split
  · next h => exact h.symm
  · rfl

/-- The state as the end of a command leaves it for the update of the Mode Word. -/
def beforeUpdate (s : State) : State := holdPort (noteActivity (kickMram (reportResets (releaseReplies (advanceApplied s)))))

@[simp] theorem quiet_beforeUpdate (s : State) : quiet (beforeUpdate s) = quiet s := by simp [beforeUpdate]

theorem settle_word (s : State) : (settle s).modes.word = modeWordNow (beforeUpdate s) := updateModes_word (beforeUpdate s)

/-- A reading of the state that looks at nothing the end of a command writes is the same before and after it. -/
theorem reading_beforeUpdate {α : Type} (f : State → α) (hf : ∀ s, f (quiet s) = f s) (s : State) :
    f (beforeUpdate s) = f (settle s) := by
  rw [← hf (beforeUpdate s), ← hf (settle s), quiet_beforeUpdate, quiet_settle]

theorem settle_word_locked (s : State) : (settle s).modes.word.locked = lockedNow (settle s) := by
  rw [settle_word]
  exact reading_beforeUpdate lockedNow (fun _ => rfl) s

theorem settle_word_lockCause (s : State) : (settle s).modes.word.lockCause = lockCauseNow (settle s) := by
  rw [settle_word]
  exact reading_beforeUpdate lockCauseNow (fun _ => rfl) s

/-! ### The strongest cause -/

theorem tamperClass_eq_two_iff (n : Nat) : tamperClass n = 2 ↔ n < 6 := by
  unfold tamperClass
  split <;> omega

/-- The mask of class 2 picks the sticky flags of the sources whose class is 2. -/
theorem testBit_classTwoMask (n : Nat) : classTwoMask.testBit n = decide (tamperClass n = 2) := by
  rw [show classTwoMask = 2 ^ 6 - 1 from rfl, Nat.testBit_two_pow_sub_one]
  simp only [tamperClass_eq_two_iff]

/-- No flag of class 2 is left under the mask exactly when none stands. -/
theorem and_classTwoMask_eq_zero_iff (flags : Nat) :
    flags &&& classTwoMask = 0 ↔ ∀ n, tamperClass n = 2 → flags.testBit n = false := by
  constructor
  · intro h n hn
    have hb : (flags &&& classTwoMask).testBit n = false := by rw [h, Nat.zero_testBit]
    rwa [Nat.testBit_and, testBit_classTwoMask, decide_eq_true hn, Bool.and_true] at hb
  · intro h
    refine Nat.eq_of_testBit_eq fun n => ?_
    rw [Nat.testBit_and, testBit_classTwoMask, Nat.zero_testBit]
    by_cases hn : tamperClass n = 2
    · rw [h n hn, Bool.false_and]
    · rw [decide_eq_false hn, Bool.and_false]

theorem lockCauseNow_of_invalid {s : State} (h : s.life.state = .invalid) : lockCauseNow s = 3 := if_pos h

theorem lockCauseNow_of_classTwo {s : State} (hv : s.life.state ≠ .invalid)
    (h : ∃ n, tamperClass n = 2 ∧ s.sec.sticky.testBit n = true) : lockCauseNow s = 2 := by
  obtain ⟨n, hn, hb⟩ := h
  have hm : s.sec.sticky &&& classTwoMask ≠ 0 := fun hm => by
    rw [(and_classTwoMask_eq_zero_iff _).mp hm n hn] at hb
    cases hb
  unfold lockCauseNow
  rw [if_neg hv, if_pos hm]

theorem lockCauseNow_of_classOne {s : State} (hv : s.life.state ≠ .invalid) (hs : s.sec.sticky ≠ 0)
    (h : ∀ n, tamperClass n = 2 → s.sec.sticky.testBit n = false) : lockCauseNow s = 1 := by
  have hm : s.sec.sticky &&& classTwoMask = 0 := (and_classTwoMask_eq_zero_iff _).mpr h
  unfold lockCauseNow
  rw [if_neg hv, if_neg (fun hn => hn hm), if_pos hs]

/-- A cause shows exactly while one stands: a flag under the mask is a flag, and LOCKED asks for the same flags and state. -/
theorem lockCauseNow_eq_zero_iff (s : State) : lockCauseNow s = 0 ↔ lockedNow s = false := by
  unfold lockCauseNow lockedNow
  split
  · next hv => simp [hv]
  · next hv =>
    split
    · next hm =>
      have hs : s.sec.sticky ≠ 0 := fun hs => hm (by simp [hs])
      simp [hs]
    · split
      · next hs => simp [hs]
      · next hs => simp [hv, hs]

/-- Settles O56: after any command the Mode Word shows the cause that the sticky flags and the life-cycle state then give, and of
these causes the definition takes the strongest. -/
theorem lockCauseShowsTheStrongest : Obligations.LockCauseShowsTheStrongest := by
  unfold Obligations.LockCauseShowsTheStrongest
  intro c s t h
  have hc : t.modes.word.lockCause = lockCauseNow t :=
    after_exec (P := fun t => t.modes.word.lockCause = lockCauseNow t) settle_word_lockCause h
  have hl : t.modes.word.locked = lockedNow t := after_exec (P := fun t => t.modes.word.locked = lockedNow t) settle_word_locked h
  rw [hc, hl]
  exact ⟨lockCauseNow_of_invalid, lockCauseNow_of_classTwo, lockCauseNow_of_classOne, lockCauseNow_eq_zero_iff t⟩

end Sys2Proof.Machine
end

section
/-!
The statement about the life-cycle decode (R446), and what it rests on. A codeword has exactly the bits its state blows, so its weight
is their number. The weight of an exclusive or is the Hamming distance of the two words, so by the triangle inequality words whose
weights are 64 apart are as far apart themselves, and no word lies within 3 of two codewords.
-/
namespace Sys2Proof.Machine

/-! ### The bits of a codeword -/

/-- Powers of two with ascending exponents add up without a carry: each is above the sum of those before it. -/
theorem testBit_foldl_two_pow {l : List Nat} (hl : l.Pairwise (· < ·)) (i : Nat) : ∀ acc, (∀ j ∈ l, acc < 2 ^ j) →
    ((l.map fun j => 2 ^ j).foldl (· + ·) acc).testBit i = (acc.testBit i || decide (i ∈ l)) := by
  induction hl with
  | nil =>
    intro acc _
    simp only [List.map_nil, List.foldl_nil, List.not_mem_nil, decide_false, Bool.or_false]
  | @cons x xs hx _ ih =>
    intro acc hacc
    have hlt : acc < 2 ^ x := hacc x List.mem_cons_self
    have hnext : ∀ j ∈ xs, acc + 2 ^ x < 2 ^ j := fun j hj => by
      have hpow : 2 ^ (x + 1) ≤ 2 ^ j := Nat.pow_le_pow_right (by decide) (hx j hj)
      rw [Nat.pow_succ] at hpow
      omega
    have hor : acc + 2 ^ x = 2 ^ x ||| acc := by
      have h := Nat.two_pow_add_eq_or_of_lt hlt 1
      rwa [Nat.mul_one, Nat.add_comm] at h
    rw [List.map_cons, List.foldl_cons, ih _ hnext, hor, Nat.testBit_or, Nat.testBit_two_pow, Bool.eq_iff_iff]
    simp only [Bool.or_eq_true, decide_eq_true_eq, List.mem_cons, eq_comm (a := x)]
    rw [or_comm (a := i = x), or_assoc]

theorem stateBits_ascending (st : LifeCycle) : (stateBits st).Pairwise (· < ·) := by
  cases st with
  | blank | invalid => exact List.Pairwise.nil
  | test | production => exact List.pairwise_lt_range.map _ fun _ _ h => by omega
  | endOfLife => exact List.pairwise_lt_range

theorem stateBits_nodup (st : LifeCycle) : (stateBits st).Nodup := (stateBits_ascending st).imp Nat.ne_of_lt

theorem lt_of_mem_stateBits {st : LifeCycle} {i : Nat} (h : i ∈ stateBits st) : i < 256 := by
  cases st with
  | blank | invalid => cases h
  | test | production =>
    simp only [stateBits, List.mem_map, List.mem_range] at h
    obtain ⟨j, hj, rfl⟩ := h
    omega
  | endOfLife => exact List.mem_range.mp h

theorem mem_stateBits_test {i : Nat} (hi : i < 256) : i ∈ stateBits .test ↔ i % 4 = 0 := by
  simp only [stateBits, List.mem_map, List.mem_range]
  exact ⟨by rintro ⟨j, -, rfl⟩; omega, fun h => ⟨i / 4, by omega, by omega⟩⟩

theorem mem_stateBits_production {i : Nat} (hi : i < 256) : i ∈ stateBits .production ↔ i % 4 = 0 ∨ i % 4 = 2 := by
  simp only [stateBits, List.mem_map, List.mem_range]
  exact ⟨by rintro ⟨j, -, rfl⟩; omega, fun h => ⟨i / 2, by omega, by omega⟩⟩

theorem testBit_codeword (st : LifeCycle) (i : Nat) : (codeword st).testBit i = decide (i ∈ stateBits st) := by
  rw [codeword, testBit_foldl_two_pow (stateBits_ascending st) i 0 fun j _ => Nat.two_pow_pos j, Nat.zero_testBit, Bool.false_or]

/-! ### The weight of a word, and the distance of two words -/

/-- How many bits a state blows (R446, the column of weights). -/
def stateWeight : LifeCycle → Nat
  | .blank => 0 | .test => 64 | .production => 128 | .endOfLife => 256 | .invalid => 0

theorem length_stateBits (st : LifeCycle) : (stateBits st).length = stateWeight st := by
  cases st with
  | blank | invalid => rfl
  | test | production => simp only [stateBits, stateWeight, List.length_map, List.length_range]
  | endOfLife => exact List.length_range

theorem weight_codeword (st : LifeCycle) : weight (codeword st) = stateWeight st := by
  rw [← length_stateBits]
  refine List.Perm.length_eq ((List.perm_ext_iff_of_nodup (List.Pairwise.filter _ List.nodup_range) (stateBits_nodup st)).mpr ?_)
  intro i
  rw [List.mem_filter, List.mem_range, bitOf, testBit_codeword, decide_eq_true_iff]
  exact and_iff_right_of_imp lt_of_mem_stateBits

theorem weight_xor_comm (v w : Nat) : weight (v ^^^ w) = weight (w ^^^ v) := by rw [Nat.xor_comm]

/-- What needs one of two conditions is counted under one of them. -/
theorem countP_le_add {α : Type} {p q r : α → Bool} (h : ∀ a, p a = true → q a = true ∨ r a = true) (l : List α) :
    l.countP p ≤ l.countP q + l.countP r := by
  induction l with
  | nil => exact Nat.zero_le _
  | cons a l ih =>
    have hone : (if p a then 1 else 0) ≤ (if q a then 1 else 0) + if r a then 1 else 0 := by
      have ha := h a
      split
      · next hp =>
        obtain hq | hr := ha hp
        · rw [if_pos hq]; omega
        · rw [if_pos hr]; omega
      · exact Nat.zero_le _
    rw [List.countP_cons, List.countP_cons, List.countP_cons]
    omega

/-- The Hamming distance obeys the triangle inequality: a bit in which `u` and `w` differ is one in which `v` differs from one of
them. -/
theorem weight_xor_triangle (u v w : Nat) : weight (u ^^^ w) ≤ weight (u ^^^ v) + weight (v ^^^ w) := by
  have hbool : ∀ a b c : Bool, (a ^^ c) = true → (a ^^ b) = true ∨ (b ^^ c) = true := by decide
  simp only [weight, ← List.countP_eq_length_filter]
  refine countP_le_add (fun i => ?_) _
  simp only [bitOf, Nat.testBit_xor]
  exact hbool _ _ _

/-- Words are at least as far apart as their weights: the triangle inequality, with the word 0 as the third. -/
theorem weight_le_weight_xor_add (v w : Nat) : weight v ≤ weight (v ^^^ w) + weight w := by
  simpa only [Nat.xor_zero] using weight_xor_triangle v w 0

/-! ### The codewords are far apart -/

theorem mem_codewordStates (a : LifeCycle) : a ∈ [LifeCycle.blank, .test, .production, .endOfLife] ↔ a ≠ .invalid := by
  cases a <;> decide

theorem stateWeight_apart : ∀ a ∈ [LifeCycle.blank, .test, .production, .endOfLife],
    ∀ b ∈ [LifeCycle.blank, .test, .production, .endOfLife], a ≠ b →
      stateWeight a + 64 ≤ stateWeight b ∨ stateWeight b + 64 ≤ stateWeight a := by
  decide

theorem codewords_apart {a b : LifeCycle} (ha : a ≠ .invalid) (hb : b ≠ .invalid) (hab : a ≠ b) :
    64 ≤ weight (codeword a ^^^ codeword b) := by
  have hw := stateWeight_apart a ((mem_codewordStates a).mpr ha) b ((mem_codewordStates b).mpr hb) hab
  have hle := weight_le_weight_xor_add (codeword a) (codeword b)
  have hge := weight_le_weight_xor_add (codeword b) (codeword a)
  rw [weight_codeword, weight_codeword] at hle hge
  rw [weight_xor_comm] at hge
  omega

/-- No word is within 3 of two codewords. -/
theorem codeword_within_three_unique {a b : LifeCycle} (ha : a ≠ .invalid) (hb : b ≠ .invalid) {w : Nat}
    (hwa : weight (w ^^^ codeword a) ≤ 3) (hwb : weight (w ^^^ codeword b) ≤ 3) : a = b := by
  refine Decidable.byContradiction fun hab => ?_
  have hfar := codewords_apart ha hb hab
  have hnear := weight_xor_triangle (codeword a) w (codeword b)
  rw [weight_xor_comm (codeword a) w] at hnear
  omega

/-! ### The decode -/

/-- What the decode can give: a state whose codeword is within 3, or INVALID with no codeword that close. -/
theorem decodeLife_cases (w : Nat) :
    (decodeLife w ≠ .invalid ∧ weight (w ^^^ codeword (decodeLife w)) ≤ 3) ∨
      (decodeLife w = .invalid ∧ ∀ a, a ≠ .invalid → 3 < weight (w ^^^ codeword a)) := by
  unfold decodeLife
  split
  · next st h =>
    exact .inl ⟨(mem_codewordStates st).mp (List.mem_of_find?_eq_some h), of_decide_eq_true (List.find?_some h :)⟩
  · next h =>
    refine .inr ⟨rfl, fun a ha => ?_⟩
    simpa using List.find?_eq_none.mp h a ((mem_codewordStates a).mpr ha)

theorem decodeLife_eq_iff {a : LifeCycle} (ha : a ≠ .invalid) (w : Nat) :
    decodeLife w = a ↔ weight (w ^^^ codeword a) ≤ 3 := by
  obtain ⟨hd, hw⟩ | ⟨hd, hfar⟩ := decodeLife_cases w
  · exact ⟨fun h => h ▸ hw, codeword_within_three_unique hd ha hw⟩
  · exact ⟨fun h => absurd (h.symm.trans hd) ha, fun h => absurd h (Nat.not_le.mpr (hfar a ha))⟩

theorem decodeLife_eq_invalid_iff (w : Nat) :
    decodeLife w = .invalid ↔ ∀ a, a ≠ .invalid → 3 < weight (w ^^^ codeword a) := by
  obtain ⟨hd, hw⟩ | ⟨hd, hfar⟩ := decodeLife_cases w
  · exact ⟨fun h => absurd h hd, fun h => absurd hw (Nat.not_le.mpr (h _ hd))⟩
  · exact ⟨fun _ => hfar, fun _ => hd⟩

/-- Settles O58: the bits and weights are those of the sets, the distances follow from the weights, and the decode's two cases
exclude each other because no word is within 3 of two codewords. -/
theorem lifeCycleDecodesToTheNearestCodeword : Obligations.LifeCycleDecodesToTheNearestCodeword := by
  unfold Obligations.LifeCycleDecodesToTheNearestCodeword
  simp only [mem_codewordStates]
  refine ⟨fun i hi => ?_, ?_, fun a ha b hb => codewords_apart ha hb, fun w _ a ha => decodeLife_eq_iff ha w,
    fun w _ => decodeLife_eq_invalid_iff w⟩
  · simp only [testBit_codeword, mem_stateBits_test hi, mem_stateBits_production hi]
    exact ⟨rfl, trivial, trivial, decide_eq_true (List.mem_range.mpr hi)⟩
  · simp only [weight_codeword, stateWeight, and_self]

end Sys2Proof.Machine
end
